-- ==== Sys2Proof/Word.lean ====
section
/-!
DEFINITION. Word.lean: the word types of the part. A frame is a sequence of bytes (R168); the running
seconds counter is a 32-bit count that wraps (R183). Everything else the part counts or measures
(millimetres, seconds, slab ids, indices) is a natural number.
-/

namespace Sys2Proof

/-- One byte as it crosses a port (R163, R168). -/
abbrev Byte := BitVec 8

/-- A 32-bit word: the running seconds counter and the stamps taken from it (R183). -/
abbrev Word32 := BitVec 32

/-- A slab id, 1 to 4,294,967,294 for a live slab (R2). -/
abbrev SlabId := Nat

end Sys2Proof
end

