-- ==== Sys2Proof/Config.lean ====
section
/-!
DEFINITION. Config.lean: what the part fixes once and for all. The cranes, furnaces, ports and roles
(introduction, R162) and the capacities of its lists. The manual leaves no value of the part open, so
there is no free value here; notes/assumptions/ lists the conventions the model fixes.
-/

namespace Sys2Proof

/-- A crane, written k in the manual (introduction, Indices). -/
inductive Crane where
  | c1
  | c2
deriving DecidableEq, Repr

/-- A furnace, written f in the manual (introduction, Indices). -/
inductive Furnace where
  | f1
  | f2
  | f3
deriving DecidableEq, Repr

/-- One of the six slave ports P0 to P5 (introduction, R162). -/
inductive Port where
  | p0
  | p1
  | p2
  | p3
  | p4
  | p5
deriving DecidableEq, Repr

/-- The role of a port (R162). -/
inductive Role where
  | supv
  | crane
  | furnace
deriving DecidableEq, Repr

namespace Config

/-- R1: the register holds at most 384 live records. -/
def maxSlabs : Nat := 384

/-- R21: the charge sequence holds at most 64 entries. -/
def maxSequence : Nat := 64

/-- R104: a map holds at most 48 rows. -/
def maxRows : Nat := 48

/-- R123: the discharge log holds at most 16 records. -/
def maxLog : Nat := 16

/-- R168: a frame has at most 63 bytes. -/
def maxFrame : Nat := 63

/-- R168: a body has at most 60 bytes. -/
def maxBody : Nat := 60

/-- R158: a threshold counter stays within 0 to 4095. -/
def maxCounter : Nat := 4095

/-- R104, R116: residence saturates at 65,535 s. -/
def maxResidence : Nat := 65535

/-- The 4-byte value 4,294,967,295, which is no slab id and no position (R11). -/
def allOnes : Nat := 4294967295

end Config

end Sys2Proof
end

