-- ==== Sys2Proof/Syntax.lean ====
section
/-!
DEFINITION. Syntax.lean: the commands of the part, one constructor for each row of
spec/opcode_table.json. The first thirteen and the last are events: of power, of the clock, of a timer,
of the SEL line and the data pair of a port. The others are the requests of the masters: each carries
the port on which its frame arrived and the bytes of its body (R168), and stands for the end of the
processing of a good frame of that kind (log entry 3). The six rows that are one outcome of a request
(four of SLAB_RESOLVE, two of CHARGE_ABORT) carry what the body holds besides the outcome byte.
-/

namespace Sys2Proof

/-- A command: one row of spec/opcode_table.json with its operands. -/
inductive Instr where
  /-- POWER_ON: power comes on (R181). -/
  | powerOn
  /-- RUNNING_SECONDS_ADVANCE: one second has passed (R116, R183). -/
  | runningSecondsAdvance
  /-- PERMIT_TIMER_EXPIRY: crane `k`'s permit timer runs out (R53). -/
  | permitTimerExpiry (k : Crane)
  /-- CUSTODY_TIMER_EXPIRY: crane `k`'s custody timer runs out (R71). -/
  | custodyTimerExpiry (k : Crane)
  /-- CHARGE_TIMER_EXPIRY: furnace `f`'s charge timer runs out (R138). -/
  | chargeTimerExpiry (f : Furnace)
  /-- SILENCE_TIMER_EXPIRY: port `p`'s silence timer runs out (R172). -/
  | silenceTimerExpiry (p : Port)
  /-- SEL_ASSERT: the master asserts SEL on port `p` (R164). -/
  | selAssert (p : Port)
  /-- FRAME_END: the master releases SEL in RECEIVING, having clocked in these whole bytes since the
  machine entered RECEIVING, and then `partialBits` bits of a byte it did not finish (R164). -/
  | frameEnd (p : Port) (bytes : List Byte) (partialBits : Nat)
  /-- PROCESSING_END: the processing of the frame held on port `p` ends (R165, R169). -/
  | processingEnd (p : Port)
  /-- FRAME_WHILE_BUSY: a whole selection of port `p` made during PROCESSING (R165). -/
  | frameWhileBusy (p : Port)
  /-- READOUT: a selection in RESPONSE_READY whose first byte is 0x00, or that ends before a whole
  first byte (R166). -/
  | readout (p : Port)
  /-- RESPONSE_DISCARDED: a selection in RESPONSE_READY whose first byte is `first`, not 0x00 (R166). -/
  | responseDiscarded (p : Port) (first : Byte)
  /-- READOUT_END: the master releases SEL in READING (R166). -/
  | readoutEnd (p : Port)
  /-- HELLO on port `p` with that body (R170). -/
  | hello (p : Port) (body : List Byte)
  /-- STATUS on port `p` with that body (R184). -/
  | status (p : Port) (body : List Byte)
  /-- NOTICE_READ on port `p` with that body (R174). -/
  | noticeRead (p : Port) (body : List Byte)
  /-- NOTICE_CLEAR on port `p` with that body (R174). -/
  | noticeClear (p : Port) (body : List Byte)
  /-- NOTICE_MASK on port `p` with that body (R174). -/
  | noticeMask (p : Port) (body : List Byte)
  /-- PARK on port `p` with that body (R171). -/
  | park (p : Port) (body : List Byte)
  /-- MAP_READ on port `p` with that body (R125). -/
  | mapRead (p : Port) (body : List Byte)
  /-- SLAB_ANNOUNCE on port `p` with that body (R9, R10, R14 (SEQ_INSERT when a position is named, R27)). -/
  | slabAnnounce (p : Port) (body : List Byte)
  /-- SLAB_READ on port `p` with that body (R18). -/
  | slabRead (p : Port) (body : List Byte)
  /-- SEQ_MOVE on port `p` with that body (R28, R29). -/
  | seqMove (p : Port) (body : List Byte)
  /-- SEQ_WITHDRAW on port `p` with that body (R32). -/
  | seqWithdraw (p : Port) (body : List Byte)
  /-- SEQ_READ on port `p` with that body (R38). -/
  | seqRead (p : Port) (body : List Byte)
  /-- LANE_READ on port `p` with that body (R62). -/
  | laneRead (p : Port) (body : List Byte)
  /-- HOLD_SET on port `p` with that body (R110). -/
  | holdSet (p : Port) (body : List Byte)
  /-- HOLD_RELEASE on port `p` with that body (R110). -/
  | holdRelease (p : Port) (body : List Byte)
  /-- DISCHARGE_TAKE on port `p` with that body (R124). -/
  | dischargeTake (p : Port) (body : List Byte)
  /-- SLAB_RESOLVE_REQUEUE: SLAB_RESOLVE of `slab` with outcome 0; `extra` is what the body carries after the outcome byte (R146). -/
  | slabResolveRequeue (p : Port) (slab : Word32) (extra : List Byte)
  /-- SLAB_RESOLVE_TO_LANE_TAIL: SLAB_RESOLVE of `slab` with outcome 1; `extra` is what the body carries after the outcome byte (R147). -/
  | slabResolveToLaneTail (p : Port) (slab : Word32) (extra : List Byte)
  /-- SLAB_RESOLVE_REMOVE: SLAB_RESOLVE of `slab` with outcome 2; `extra` is what the body carries after the outcome byte (R145). -/
  | slabResolveRemove (p : Port) (slab : Word32) (extra : List Byte)
  /-- SLAB_RESOLVE_PLACE: SLAB_RESOLVE of `slab` with outcome 3; `extra` is what the body carries after the outcome byte (R148, R149). -/
  | slabResolvePlace (p : Port) (slab : Word32) (extra : List Byte)
  /-- DOUBT_LIST on port `p` with that body (R144). -/
  | doubtList (p : Port) (body : List Byte)
  /-- ROW_REMOVE on port `p` with that body (R150). -/
  | rowRemove (p : Port) (body : List Byte)
  /-- MAP_WALK on port `p` with that body (R151). -/
  | mapWalk (p : Port) (body : List Byte)
  /-- ROW_SHIFT on port `p` with that body (R152). -/
  | rowShift (p : Port) (body : List Byte)
  /-- CONFIRM_FURNACE on port `p` with that body (R153). -/
  | confirmFurnace (p : Port) (body : List Byte)
  /-- CONFIRM_LANE on port `p` with that body (R154). -/
  | confirmLane (p : Port) (body : List Byte)
  /-- FAULT_READ on port `p` with that body (R159). -/
  | faultRead (p : Port) (body : List Byte)
  /-- FAULT_CLEAR on port `p` with that body (R160). -/
  | faultClear (p : Port) (body : List Byte)
  /-- THRESHOLD_SET on port `p` with that body (R158). -/
  | thresholdSet (p : Port) (body : List Byte)
  /-- ADVISORY_ENABLE on port `p` with that body (R157). -/
  | advisoryEnable (p : Port) (body : List Byte)
  /-- PARAM_READ on port `p` with that body (R178). -/
  | paramRead (p : Port) (body : List Byte)
  /-- PARAM_WRITE on port `p` with that body (R178). -/
  | paramWrite (p : Port) (body : List Byte)
  /-- START on port `p` with that body (R179). -/
  | start (p : Port) (body : List Byte)
  /-- RESTART on port `p` with that body (R181). -/
  | restart (p : Port) (body : List Byte)
  /-- CLEAR_ALL on port `p` with that body (R182). -/
  | clearAll (p : Port) (body : List Byte)
  /-- RESET_RECORD_CLEAR on port `p` with that body (R183). -/
  | resetRecordClear (p : Port) (body : List Byte)
  /-- PERMIT_ASK on port `p` with that body (R45, R46). -/
  | permitAsk (p : Port) (body : List Byte)
  /-- PERMIT_RETURN on port `p` with that body (R50). -/
  | permitReturn (p : Port) (body : List Byte)
  /-- LIFT_REPORT on port `p` with that body (R65). -/
  | liftReport (p : Port) (body : List Byte)
  /-- SETDOWN_ASK on port `p` with that body (R73). -/
  | setdownAsk (p : Port) (body : List Byte)
  /-- DEPOSIT_REPORT on port `p` with that body (R75). -/
  | depositReport (p : Port) (body : List Byte)
  /-- SET_ASIDE_REPORT on port `p` with that body (R78). -/
  | setAsideReport (p : Port) (body : List Byte)
  /-- CHARGE_ASK on port `p` with that body (R129). -/
  | chargeAsk (p : Port) (body : List Byte)
  /-- CHARGE_BEGIN on port `p` with that body (R131, R132). -/
  | chargeBegin (p : Port) (body : List Byte)
  /-- CHARGE_END on port `p` with that body (R134). -/
  | chargeEnd (p : Port) (body : List Byte)
  /-- CHARGE_ABORT_RETURNED: CHARGE_ABORT with outcome 0; `extra` is what the body carries after the outcome byte (R136). -/
  | chargeAbortReturned (p : Port) (extra : List Byte)
  /-- CHARGE_ABORT_STUCK: CHARGE_ABORT with outcome 1; `extra` is what the body carries after the outcome byte (R137). -/
  | chargeAbortStuck (p : Port) (extra : List Byte)
  /-- WALK_REPORT on port `p` with that body (R112). -/
  | walkReport (p : Port) (body : List Byte)
  /-- DISCHARGE_ASK on port `p` with that body (R118). -/
  | dischargeAsk (p : Port) (body : List Byte)
  /-- DISCHARGE_REPORT on port `p` with that body (R119). -/
  | dischargeReport (p : Port) (body : List Byte)
  /-- LOSS_OF_POWER: power fails (R180). -/
  | lossOfPower
deriving DecidableEq, Repr

end Sys2Proof
end

