-- ==== Sys2Proof/WellFormed.lean ====
section
/-!
DEFINITION. WellFormed.lean: which commands can occur on the ports at all. A body holds at most 60 bytes
(R168), a partial byte at most 7 bits (R164), and the first byte that discards a response is not 0x00
(R166).
-/

namespace Sys2Proof

/-- R168: a body of at most `room` bytes. -/
def bodyFits (room : Nat) (body : List Byte) : Bool := decide (body.length ≤ room)

/-- A command that the ports can carry (R164, R166, R168). -/
def Instr.wellFormed : Instr → Bool
  | .powerOn | .runningSecondsAdvance | .lossOfPower => true
  | .permitTimerExpiry _ | .custodyTimerExpiry _ | .chargeTimerExpiry _ | .silenceTimerExpiry _ => true
  | .selAssert _ | .processingEnd _ | .frameWhileBusy _ | .readout _ | .readoutEnd _ => true
  | .frameEnd _ _ partialBits => decide (partialBits < 8)
  | .responseDiscarded _ first => decide (first ≠ 0)
  | .slabResolveRequeue _ _ extra | .slabResolveToLaneTail _ _ extra => bodyFits (Config.maxBody - 5) extra
  | .slabResolveRemove _ _ extra | .slabResolvePlace _ _ extra => bodyFits (Config.maxBody - 5) extra
  | .chargeAbortReturned _ extra | .chargeAbortStuck _ extra => bodyFits (Config.maxBody - 1) extra
  | .hello _ b | .status _ b | .noticeRead _ b | .noticeClear _ b | .noticeMask _ b | .park _ b => bodyFits Config.maxBody b
  | .mapRead _ b | .slabAnnounce _ b | .slabRead _ b | .seqMove _ b | .seqWithdraw _ b => bodyFits Config.maxBody b
  | .seqRead _ b | .laneRead _ b | .holdSet _ b | .holdRelease _ b | .dischargeTake _ b => bodyFits Config.maxBody b
  | .doubtList _ b | .rowRemove _ b | .mapWalk _ b | .rowShift _ b | .confirmFurnace _ b => bodyFits Config.maxBody b
  | .confirmLane _ b | .faultRead _ b | .faultClear _ b | .thresholdSet _ b => bodyFits Config.maxBody b
  | .advisoryEnable _ b | .paramRead _ b | .paramWrite _ b | .start _ b | .restart _ b => bodyFits Config.maxBody b
  | .clearAll _ b | .resetRecordClear _ b | .permitAsk _ b | .permitReturn _ b => bodyFits Config.maxBody b
  | .liftReport _ b | .setdownAsk _ b | .depositReport _ b | .setAsideReport _ b => bodyFits Config.maxBody b
  | .chargeAsk _ b | .chargeBegin _ b | .chargeEnd _ b | .walkReport _ b => bodyFits Config.maxBody b
  | .dischargeAsk _ b | .dischargeReport _ b => bodyFits Config.maxBody b

end Sys2Proof
end

