-- ==== Sys2Proof/Decode.lean ====
section
/-!
DEFINITION. Decode.lean: the command a word spells by the table's bits. spec/opcode_table.json gives no
row any bits (its "fields" are empty and it has no "fixed"), so no word spells a command. The frames of
the ports are judged and read in Machine/Frames.lean (R168, R169, R176).
-/

namespace Sys2Proof

/-- No row of the table carries bits, so a word spells no command. -/
def decodeTableWord (_nbits _w : Nat) : Option Instr := none

end Sys2Proof
end

