-- ==== Sys2Proof/Machine/State.lean ====
section
/-!
DEFINITION. Machine/State.lean: every piece of state the manual gives the part, as plain data, the reasons
for which a step can stop, and the part right after its first power-on with an empty store (R181).
What follows from other state is not stored a second time: the live, doubtful and LISTED counts, the fixed
span, the credits, the head row, the furnace status, RDY and ATTN are computed in Machine/Ops.lean and
Machine/Flags.lean (INVENTORY.md lists them with their rules).
-/

namespace Sys2Proof.Machine

/-! ### One value for each crane, furnace, port or bank -/

/-- One value for each crane. -/
structure ByCrane (α : Type) where
  c1 : α
  c2 : α
deriving DecidableEq, Repr

/-- One value for each furnace. -/
structure ByFurnace (α : Type) where
  f1 : α
  f2 : α
  f3 : α
deriving DecidableEq, Repr

/-- One value for each port. -/
structure ByPort (α : Type) where
  p0 : α
  p1 : α
  p2 : α
  p3 : α
  p4 : α
  p5 : α
deriving DecidableEq, Repr

/-- R155: the six fault banks, by their numbers 0 to 5. -/
inductive BankId where
  | link
  | sequence
  | lane
  | furnace1
  | furnace2
  | furnace3
deriving DecidableEq, Repr

/-- One value for each fault bank. -/
structure ByBank (α : Type) where
  link : α
  sequence : α
  lane : α
  furnace1 : α
  furnace2 : α
  furnace3 : α
deriving DecidableEq, Repr

/-! ### The Slab Register (chapter 1) -/

/-- R2: the temperature class of a slab. -/
inductive TempClass where
  | cold
  | warm
  | hot
deriving DecidableEq, Repr

/-- R2: a slab's side in a row or at an entry. -/
inductive Side where
  | single
  | left
  | right
deriving DecidableEq, Repr

/-- R5: the role of a member of a pair. -/
inductive PairRole where
  | first
  | second
deriving DecidableEq, Repr

/-- R6: the last known place of a DOUBTFUL slab, with the details it had there. -/
inductive LastKnown where
  | lifted (k : Crane)
  | atEntry (f : Furnace) (side : Side)
  | inFurnace (f : Furnace) (side : Side)
deriving DecidableEq, Repr

/-- R2, R3, R4, R6: the location state of a slab with the details that belong to that state. -/
inductive Place where
  | listed
  | permitted (k : Crane)
  | lifted (k : Crane) (overdue : Bool)
  | onLane
  | atEntry (f : Furnace) (side : Side)
  | inFurnace (f : Furnace) (side : Side)
  | doubtful (last : LastKnown)
deriving DecidableEq, Repr

/-- R5: the partner field, the partner's id and the role of the record that holds it. -/
structure Partner where
  id : SlabId
  role : PairRole
deriving DecidableEq, Repr

/-- R2: a slab record; the pairing-tested mark is R89's. `pairDissolved` says that a pair of this slab was
dissolved (R92), `requeuedTested` that it was requeued after it had been permitted (R146), and `parted` holds the live
slabs with which a pair of this slab was dissolved (R93). -/
structure SlabRecord where
  id : SlabId
  length : Nat
  width : Nat
  thickness : Nat
  heatingClass : Byte
  tempClass : TempClass
  destination : Furnace
  pairable : Bool
  place : Place
  partner : Option Partner
  edited : Bool
  pairingTested : Bool
  pairDissolved : Bool
  requeuedTested : Bool
  parted : List SlabId
deriving DecidableEq, Repr

/-! ### The lane, the cranes and the furnaces (chapters 3, 4, 6 and 7) -/

/-- A timer that counts in steps of 0.1 s: `none` is STOPPED, `some n` is RUNNING with `n` steps to its
expiry (R52, R70, R138, R172). -/
abbrev Timer := Option Nat

/-- R52, R64: what the Lane Unit holds for one crane. -/
structure CraneState where
  permitTimer : Timer
  custody : Option SlabId
  custodyTimer : Timer
deriving DecidableEq, Repr

/-- R64: the holder of the set-down reservation and the slab it is held for. -/
structure Reservation where
  crane : Crane
  slab : SlabId
deriving DecidableEq, Repr

/-- R104: a row of a map. A row of one slab has no `slabB` and side SINGLE; in a row of two, `slabA` is
LEFT and `slabB` RIGHT. -/
structure Row where
  slabA : SlabId
  slabB : Option SlabId
  rear : Nat
  width : Nat
  residence : Nat
  soakTarget : Nat
  soakNotified : Bool
deriving DecidableEq, Repr

/-- R127: the entry operation record, less its charge timer. -/
inductive EntryOp where
  | idle (timedOut : Bool)
  | charging (slabA : SlabId) (slabB : Option SlabId) (width soakPlanned : Nat)
deriving DecidableEq, Repr

/-- R107: the hold set of a furnace. -/
structure HoldSet where
  supv : Bool
  portParked : Bool
  portLost : Bool
deriving DecidableEq, Repr

/-- R104, R107, R127: what the Furnace Map of one furnace holds. Rows stand newest first. -/
structure FurnaceState where
  rows : List Row
  op : EntryOp
  chargeTimer : Timer
  hold : HoldSet
  doubt : Bool
deriving DecidableEq, Repr

/-- R121: a discharge record. -/
structure DischargeRecord where
  slab : SlabId
  furnace : Furnace
  side : Side
  residence : Nat
  soakTarget : Nat
  underheat : Bool
  doubtfulMap : Bool
  edited : Bool
  stamp : Word32
deriving DecidableEq, Repr

/-! ### Fault banks (chapter 8) -/

/-- R155: the severity of a fault. -/
inductive Severity where
  | advisory
  | recoverable
  | trackingLost
deriving DecidableEq, Repr

/-- R161: every fault the rules log. -/
inductive FaultCode where
  | frameCheck
  | kindRefused
  | frameWhileBusy
  | responseDiscarded
  | portSilent
  | permitReturned
  | permitLapsed
  | admissionStall
  | lateLift
  | depositUncleared
  | custodyOverdue
  | outOfTurn
  | custodyLost
  | lateLiftDoubt
  | laneRecovery
  | dischargeEmpty
  | underheat
  | logOverrun
  | lateEnd
  | overtravel
  | overlap
  | walkDuringCharge
  | chargeStuck
  | chargeTimeout
  | dischargeMismatch
  | controllerLost
  | furnaceRecovery
deriving DecidableEq, Repr

/-- R155: what a valid fault record holds. -/
structure FaultRecord where
  severity : Severity
  code : FaultCode
  slab : Option SlabId
  port : Option Port
  stamp : Word32
deriving DecidableEq, Repr

/-- R155: a fault bank. The record is valid exactly when it is present. -/
structure Bank where
  record : Option FaultRecord
  overflow : Bool
  lossUnlogged : Bool
  notified : Bool
  advisoryEnable : Bool
  counter : Nat
  counting : Bool
  thresholdFlag : Bool
deriving DecidableEq, Repr

/-! ### Ports (chapter 9) -/

/-- R170 to R172: the link state of a port. -/
inductive LinkState where
  | offline
  | active
  | parked
  | lost
deriving DecidableEq, Repr

/-- R163: the exchange machine of a port with what each state holds: in RECEIVING and PROCESSING the first
63 bytes received and the count of all bytes received (R164), later the response frame. -/
inductive Exchange where
  | idle
  | receiving (kept : List Byte) (count : Nat)
  | processing (kept : List Byte) (count : Nat)
  | responseReady (frame : List Byte)
  | reading (frame : List Byte)
deriving DecidableEq, Repr

/-- R164 to R167: the SEL line of a port as the master drives it. A selection that the part ignores shifts 0xFF
out and nothing in until its release: one made in PROCESSING (R165), even where the processing ends before the
release, and one in progress at a RESTART or CLEAR_ALL (R167). -/
inductive Selection where
  | released
  | taken
  | ignored
deriving DecidableEq, Repr

/-- What the Port Unit holds for one port: link state, silence timer (R172), notice set and mask as kinds
bytes (R173, R176), the exchange machine (R163), and `sel`, the SEL line as the master drives it
(introduction, R164, R167). -/
structure PortState where
  link : LinkState
  silence : Timer
  notices : Byte
  mask : Byte
  exchange : Exchange
  sel : Selection
deriving DecidableEq, Repr

/-! ### Parameters, mode and store (chapter 10) -/

/-- R84, R177: the parameters of one furnace. -/
structure FurnaceParams where
  effectiveLength : Nat
  hearthWidth : Nat
  stroke : Nat
  gap : Nat
  sideClearance : Nat
  centreClearance : Nat
  doubleRow : Bool
  heatingFactor : Nat
  warmPercent : Nat
  hotPercent : Nat
  admissionMask : Byte
  admissionMatch : Byte
deriving DecidableEq, Repr

/-- R177: the parameter table. Periods stand in seconds, silence codes as codes. -/
structure Params where
  craneCount : Nat
  furnaceCount : Nat
  laneCapacity : Nat
  lowWater : Nat
  pairWidthDifference : Nat
  pairThicknessDifference : Nat
  furnace : ByFurnace FurnaceParams
  permitPeriod : Nat
  custodyPeriod : Nat
  chargePeriod : Nat
  supvSilence : Nat
  craneSilence : Nat
  furnaceSilence : Nat
deriving DecidableEq, Repr

/-- R179: the operating mode. -/
inductive Mode where
  | config
  | run
deriving DecidableEq, Repr

/-- R183: the reset record. -/
structure ResetRecord where
  powerOn : Bool
  restart : Bool
  clearAll : Bool
deriving DecidableEq, Repr

/-! ### The state -/

/-- The whole state of the part. `powered` says whether the part has power (R180) and `storeWritten` whether
the retained store has ever been written (R180); `subSecond` is the sub-second part of the running seconds in
tenths (R180). The register is kept in rising order of slab id, the other lists in the order their rules give
them. `pending` is the queue of the commands that wait for the part, first in first out; no command changes
it (log entry 1). -/
structure State where
  powered : Bool
  storeWritten : Bool
  mode : Mode
  resetRecord : ResetRecord
  runningSeconds : Word32
  subSecond : Nat
  params : Params
  register : List SlabRecord
  doubtList : List SlabId
  sequence : List SlabId
  lane : List SlabId
  laneDoubt : Bool
  reservation : Option Reservation
  cranes : ByCrane CraneState
  furnaces : ByFurnace FurnaceState
  log : List DischargeRecord
  logOverrun : Bool
  banks : ByBank Bank
  ports : ByPort PortState
  pending : List Instr
deriving DecidableEq, Repr

/-- The reasons for which the part stops with a fault: there are none. The manual gives every command an
effect, the faults of its fault banks among them, and no command stops the part. -/
inductive Fault where
deriving DecidableEq, Repr

/-- The reasons for which a command has no meaning. -/
inductive Refusal where
  /-- Raised by exec's arm of a command that is not modelled yet. Safe: nothing is claimed of it. No arm
  raises it, since every command is modelled. -/
  | notModelled (mnemonic : String)
deriving DecidableEq, Repr

/-! ### Start values and reset -/

/-- R177: the defaults of one furnace. -/
def FurnaceParams.default : FurnaceParams where
  effectiveLength := 41000
  hearthWidth := 11000
  stroke := 300
  gap := 150
  sideClearance := 250
  centreClearance := 300
  doubleRow := true
  heatingFactor := 240
  warmPercent := 80
  hotPercent := 60
  admissionMask := 0
  admissionMatch := 0

/-- R177: the defaults of the parameter table. -/
def Params.default : Params where
  craneCount := 2
  furnaceCount := 3
  laneCapacity := 6
  lowWater := 4
  pairWidthDifference := 300
  pairThicknessDifference := 40
  furnace := ⟨.default, .default, .default⟩
  permitPeriod := 300
  custodyPeriod := 900
  chargePeriod := 120
  supvSilence := 4
  craneSilence := 4
  furnaceSilence := 4

/-- R162, R167, R173, R181: a port at start-up, and a port that is not present: OFFLINE, timer stopped,
notice set and mask empty, machine IDLE. -/
def PortState.fresh : PortState where
  link := .offline
  silence := none
  notices := 0
  mask := 0
  exchange := .idle
  sel := .released

/-- R52, R64, R81: a crane at start-up. -/
def CraneState.fresh : CraneState where
  permitTimer := none
  custody := none
  custodyTimer := none

/-- R126, R141: a furnace with an empty store. -/
def FurnaceState.fresh : FurnaceState where
  rows := []
  op := .idle false
  chargeTimer := none
  hold := ⟨false, false, false⟩
  doubt := false

/-- R155: a bank at start-up. -/
def Bank.fresh : Bank where
  record := none
  overflow := false
  lossUnlogged := false
  notified := false
  advisoryEnable := false
  counter := 0
  counting := false
  thresholdFlag := false

/-- The part right after power-on with an empty store (R181): mode CONFIG, every parameter at its default,
every list empty, every port OFFLINE, every timer STOPPED, the reset record holding POWER_ON (R183) and the
running seconds at 0. The power-on writes the store (log entry 5). -/
def State.reset : State where
  powered := true
  storeWritten := true
  mode := .config
  resetRecord := ⟨true, false, false⟩
  runningSeconds := 0
  subSecond := 0
  params := .default
  register := []
  doubtList := []
  sequence := []
  lane := []
  laneDoubt := false
  reservation := none
  cranes := ⟨.fresh, .fresh⟩
  furnaces := ⟨.fresh, .fresh, .fresh⟩
  log := []
  logOverrun := false
  banks := ⟨.fresh, .fresh, .fresh, .fresh, .fresh, .fresh⟩
  ports := ⟨.fresh, .fresh, .fresh, .fresh, .fresh, .fresh⟩
  pending := []

end Sys2Proof.Machine
end

