-- ==== Sys2Proof/Machine/Ops.lean ====
section
/-!
DEFINITION. Machine/Ops.lean: the named operations over the state that the meanings share: access to one
crane, furnace, port or bank; the register, the doubt list, the sequence and the lane; pairs; the derived
figures; the notice raise and the fault log; timers. Each operation is one record update, so what it leaves
unchanged is true by rfl (Laws/State.lean).
-/

namespace Sys2Proof.Machine

/-! ### One value for each crane, furnace, port or bank -/

def ByCrane.get {α : Type} (v : ByCrane α) : Crane → α
  | .c1 => v.c1
  | .c2 => v.c2

def ByCrane.set {α : Type} (v : ByCrane α) : Crane → α → ByCrane α
  | .c1, a => { v with c1 := a }
  | .c2, a => { v with c2 := a }

def ByFurnace.get {α : Type} (v : ByFurnace α) : Furnace → α
  | .f1 => v.f1
  | .f2 => v.f2
  | .f3 => v.f3

def ByFurnace.set {α : Type} (v : ByFurnace α) : Furnace → α → ByFurnace α
  | .f1, a => { v with f1 := a }
  | .f2, a => { v with f2 := a }
  | .f3, a => { v with f3 := a }

def ByPort.get {α : Type} (v : ByPort α) : Port → α
  | .p0 => v.p0
  | .p1 => v.p1
  | .p2 => v.p2
  | .p3 => v.p3
  | .p4 => v.p4
  | .p5 => v.p5

def ByPort.set {α : Type} (v : ByPort α) : Port → α → ByPort α
  | .p0, a => { v with p0 := a }
  | .p1, a => { v with p1 := a }
  | .p2, a => { v with p2 := a }
  | .p3, a => { v with p3 := a }
  | .p4, a => { v with p4 := a }
  | .p5, a => { v with p5 := a }

def ByBank.get {α : Type} (v : ByBank α) : BankId → α
  | .link => v.link
  | .sequence => v.sequence
  | .lane => v.lane
  | .furnace1 => v.furnace1
  | .furnace2 => v.furnace2
  | .furnace3 => v.furnace3

def ByBank.set {α : Type} (v : ByBank α) : BankId → α → ByBank α
  | .link, a => { v with link := a }
  | .sequence, a => { v with sequence := a }
  | .lane, a => { v with lane := a }
  | .furnace1, a => { v with furnace1 := a }
  | .furnace2, a => { v with furnace2 := a }
  | .furnace3, a => { v with furnace3 := a }

/-- The state with crane `k`'s custody record and timers changed by `g`. -/
def State.updateCrane (s : State) (k : Crane) (g : CraneState → CraneState) : State :=
  { s with cranes := s.cranes.set k (g (s.cranes.get k)) }

/-- The state with what furnace `f`'s map holds changed by `g`. -/
def State.updateFurnace (s : State) (f : Furnace) (g : FurnaceState → FurnaceState) : State :=
  { s with furnaces := s.furnaces.set f (g (s.furnaces.get f)) }

/-- The state with what the Port Unit holds for `p` changed by `g`. -/
def State.updatePort (s : State) (p : Port) (g : PortState → PortState) : State :=
  { s with ports := s.ports.set p (g (s.ports.get p)) }

/-- The state with one fault bank changed by `g`. -/
def State.updateBank (s : State) (b : BankId) (g : Bank → Bank) : State :=
  { s with banks := s.banks.set b (g (s.banks.get b)) }

/-- What the Furnace Map of `f` holds. -/
def State.furnace (s : State) (f : Furnace) : FurnaceState := s.furnaces.get f

/-- What the Lane Unit holds for crane `k`. -/
def State.crane (s : State) (k : Crane) : CraneState := s.cranes.get k

/-- What the Port Unit holds for port `p`. -/
def State.port (s : State) (p : Port) : PortState := s.ports.get p

/-- The parameters of furnace `f` in force. -/
def State.furnaceParams (s : State) (f : Furnace) : FurnaceParams := s.params.furnace.get f

/-! ### Ports, roles and numbers (R162) -/

/-- R162: the role of a port. -/
def portRole : Port → Role
  | .p0 => .supv
  | .p1 | .p2 => .crane
  | .p3 | .p4 | .p5 => .furnace

/-- R162: the crane of a crane port. -/
def portCrane : Port → Option Crane
  | .p1 => some .c1
  | .p2 => some .c2
  | _ => none

/-- R162: the furnace of a furnace port. -/
def portFurnace : Port → Option Furnace
  | .p3 => some .f1
  | .p4 => some .f2
  | .p5 => some .f3
  | _ => none

/-- R162: the port of crane `k`. -/
def cranePort : Crane → Port
  | .c1 => .p1
  | .c2 => .p2

/-- R162: the port of furnace `f`. -/
def furnacePort : Furnace → Port
  | .f1 => .p3
  | .f2 => .p4
  | .f3 => .p5

/-- The number of a crane, 1 or 2 (introduction, Indices). -/
def craneNumber : Crane → Nat
  | .c1 => 1
  | .c2 => 2

/-- The number of a furnace, 1 to 3 (introduction, Indices). -/
def furnaceNumber : Furnace → Nat
  | .f1 => 1
  | .f2 => 2
  | .f3 => 3

/-- The furnace with that number. -/
def furnaceOfNumber : Nat → Option Furnace
  | 1 => some .f1
  | 2 => some .f2
  | 3 => some .f3
  | _ => none

/-- The number of a port, 0 to 5 (R170, R176). -/
def portNumber : Port → Nat
  | .p0 => 0
  | .p1 => 1
  | .p2 => 2
  | .p3 => 3
  | .p4 => 4
  | .p5 => 5

/-- R155: the fault bank of furnace `f`. -/
def furnaceBank : Furnace → BankId
  | .f1 => .furnace1
  | .f2 => .furnace2
  | .f3 => .furnace3

/-- R162: whether a port is present under the counts in force. -/
def State.present (s : State) (p : Port) : Bool :=
  match p with
  | .p0 | .p1 | .p3 => true
  | .p2 => s.params.craneCount == 2
  | .p4 => decide (2 ≤ s.params.furnaceCount)
  | .p5 => s.params.furnaceCount == 3

/-- The furnaces 1 to the furnace count (R177). -/
def State.configured (s : State) : List Furnace :=
  [Furnace.f1, Furnace.f2, Furnace.f3].filter fun f => decide (furnaceNumber f ≤ s.params.furnaceCount)

/-- The configured furnace with that number (R110: a number outside 1 to the furnace count is none). -/
def State.configuredFurnace (s : State) (n : Nat) : Option Furnace :=
  if n ≤ s.params.furnaceCount then furnaceOfNumber n else none

/-! ### The register (chapter 1) -/

/-- The live record of a slab id (R1). -/
def State.slab? (s : State) (id : SlabId) : Option SlabRecord :=
  s.register.find? fun r => r.id == id

/-- Whether a live record carries the id (R1). -/
def State.live (s : State) (id : SlabId) : Bool := (s.slab? id).isSome

/-- R1: the live count. -/
def State.liveCount (s : State) : Nat := s.register.length

/-- R1, R142: the doubtful count is the length of the doubt list. -/
def State.doubtfulCount (s : State) : Nat := s.doubtList.length

/-- Where the account holds a live slab. -/
def State.place? (s : State) (id : SlabId) : Option Place := (s.slab? id).map fun r => r.place

/-- The partner field of a live slab. -/
def State.partner? (s : State) (id : SlabId) : Option Partner := (s.slab? id).bind fun r => r.partner

/-- The register with a record entered at its place in rising order of id. -/
def insertRecord (r : SlabRecord) : List SlabRecord → List SlabRecord
  | [] => [r]
  | x :: xs => if r.id < x.id then r :: x :: xs else x :: insertRecord r xs

/-- R8: the state with the records of a slab id changed by `g`. -/
def State.updateSlab (s : State) (id : SlabId) (g : SlabRecord → SlabRecord) : State :=
  { s with register := s.register.map fun r => if r.id == id then g r else r }

/-- R8: a state change. The details that belong to the old state go and those of the new one come with it,
since `Place` carries them (R4, R6). -/
def State.setPlace (s : State) (id : SlabId) (pl : Place) : State :=
  s.updateSlab id fun r => { r with place := pl }

/-- R5: whether a record's partner field names a slab id. -/
def SlabRecord.paired (r : SlabRecord) (id : SlabId) : Bool :=
  match r.partner with
  | some q => q.id == id
  | none => false

/-- R5, R92, R93: a member of a pair that dissolves. Its partner field is cleared, it has had a pair dissolved, and
the partner is noted as one that the pairing test does not give it again. -/
def SlabRecord.unpaired (r : SlabRecord) : SlabRecord :=
  { r with
    partner := none
    pairDissolved := r.pairDissolved || r.partner.isSome
    parted := match r.partner with
      | some q => if q.id ∈ r.parted then r.parted else q.id :: r.parted
      | none => r.parted }

/-- R5: the pair of a slab, if it is a member of one, dissolves: its own partner field and the one that
names it are cleared. -/
def State.dissolvePair (s : State) (id : SlabId) : State :=
  { s with register := s.register.map fun r => if r.id == id || r.paired id then r.unpaired else r }

/-- R5: `a` and `b` become the FIRST and the SECOND member of a pair. -/
def State.formPair (s : State) (a b : SlabId) : State :=
  (s.updateSlab a fun r => { r with partner := some ⟨b, .first⟩ }).updateSlab b fun r =>
    { r with partner := some ⟨a, .second⟩ }

/-- R16, R17, R93: a record after the slab `id` has been freed. It names the id neither as its partner nor as one
it was parted from, since a later announcement of the id is another slab. -/
def SlabRecord.forget (r : SlabRecord) (id : SlabId) : SlabRecord :=
  { r with
    partner := if r.paired id then none else r.partner
    parted := r.parted.filter fun x => x != id }

/-- R16, R17, R142: the record of a slab is freed. It leaves the register and the doubt list, and the
partner field of a live partner is cleared. -/
def State.freeSlab (s : State) (id : SlabId) : State :=
  { s with
    register := (s.register.filter fun r => r.id != id).map fun r => r.forget id
    doubtList := s.doubtList.filter fun d => d != id }

/-- R6, R142: a slab becomes DOUBTFUL. Its pair dissolves first, its last known field is written, and it
joins the tail of the doubt list. -/
def State.makeDoubtful (s : State) (id : SlabId) (last : LastKnown) : State :=
  { (s.dissolvePair id).setPlace id (.doubtful last) with doubtList := s.doubtList ++ [id] }

/-- R7, R142, R145: a SLAB_RESOLVE outcome moves a slab out of DOUBTFUL. It leaves the doubt list and is
marked edited. -/
def State.resolveTo (s : State) (id : SlabId) (pl : Place) : State :=
  { s.updateSlab id fun r => { r with place := pl, edited := true } with
    doubtList := s.doubtList.filter fun d => d != id }

/-- R89, R146: what a record keeps of a requeue. A slab whose pairing-tested mark is yes, that is one permitted before
it became doubtful, is noted as one to be charged single (log entry 30). -/
def SlabRecord.requeued (r : SlabRecord) : SlabRecord :=
  { r with requeuedTested := r.requeuedTested || r.pairingTested }

/-! ### Credits (R40) -/

/-- R40: the four location states that hold a credit. -/
def Place.holdsCredit : Place → Bool
  | .permitted _ | .lifted _ _ | .onLane | .atEntry _ _ => true
  | .listed | .inFurnace _ _ | .doubtful _ => false

/-- R62: a PERMITTED slab. -/
def Place.isPermitted : Place → Bool
  | .permitted _ => true
  | _ => false

/-- R62: a LIFTED slab. -/
def Place.isLifted : Place → Bool
  | .lifted _ _ => true
  | _ => false

/-- R62: an AT_ENTRY slab. -/
def Place.isAtEntry : Place → Bool
  | .atEntry _ _ => true
  | _ => false

/-- A DOUBTFUL slab (R142). -/
def Place.isDoubtful : Place → Bool
  | .doubtful _ => true
  | _ => false

/-- How many live records stand in a place of that kind. -/
def State.countPlaces (s : State) (q : Place → Bool) : Nat := s.register.countP fun r => q r.place

/-- R40: the credits held. -/
def State.creditsHeld (s : State) : Nat := s.countPlaces Place.holdsCredit

/-- R40: the credits free. -/
def State.creditsFree (s : State) : Nat := s.params.laneCapacity - s.creditsHeld

/-! ### The charge sequence (chapter 2) -/

/-- Whether the slab is live and LISTED. -/
def State.isListed (s : State) (id : SlabId) : Bool := s.place? id == some .listed

/-- R37: the LISTED count. -/
def State.listedCount (s : State) : Nat := s.sequence.countP s.isListed

/-- R26: the first LISTED entry. -/
def State.firstListed (s : State) : Option SlabId := s.sequence.find? s.isListed

/-- The element after the first `x` of a list. -/
def successorIn (x : SlabId) : List SlabId → Option SlabId
  | a :: b :: rest => if a = x then some b else successorIn x (b :: rest)
  | _ => none

/-- R26: the successor of an entry of the sequence. -/
def State.successor (s : State) (id : SlabId) : Option SlabId := successorIn id s.sequence

/-- R23: an entry fixed by state or by pair. -/
def State.fixedInPlace (s : State) (id : SlabId) : Bool :=
  match s.slab? id with
  | some r => r.place.isPermitted || r.place.isLifted || r.partner.isSome
  | none => false

/-- The number of elements of a list through the last one that is held. -/
def spanThrough (held : SlabId → Bool) : List SlabId → Nat
  | [] => 0
  | x :: xs => if spanThrough held xs = 0 then (if held x then 1 else 0) else spanThrough held xs + 1

/-- R21, R23: the fixed span, the number of entries from the head through the last fixed entry. -/
def State.fixedSpan (s : State) : Nat := spanThrough s.fixedInPlace s.sequence

/-- R23: an entry is fixed when it stands in the fixed span. -/
def State.isFixed (s : State) (id : SlabId) : Bool := decide (s.sequence.idxOf id < s.fixedSpan)

/-- R26: whether the sequence head is a LIFTED slab of crane `k`. -/
def State.carriesHead (s : State) (k : Crane) : Bool :=
  match s.sequence.head? with
  | some id =>
    match s.place? id with
    | some (.lifted j _) => j == k
    | _ => false
  | none => false

/-- R22: the entry of a slab leaves the sequence. -/
def State.leaveSequence (s : State) (id : SlabId) : State :=
  { s with sequence := s.sequence.filter fun x => x != id }

/-- R22: a slab joins the sequence at an index. -/
def State.joinSequence (s : State) (i : Nat) (id : SlabId) : State :=
  { s with sequence := s.sequence.take i ++ id :: s.sequence.drop i }

/-! ### Permits and custody (R45 to R81) -/

/-- The slab crane `k` holds a permit for. -/
def State.permitOf (s : State) (k : Crane) : Option SlabId :=
  (s.register.find? fun r => r.place == .permitted k).map fun r => r.id

/-- R46: a PERMITTED or LIFTED slab of crane `k`. -/
def Place.heldBy (k : Crane) : Place → Bool
  | .permitted j => j == k
  | .lifted j _ => j == k
  | _ => false

/-- R46: crane `k` holds a PERMITTED or a LIFTED slab. -/
def State.craneHoldsSlab (s : State) (k : Crane) : Bool := s.register.any fun r => r.place.heldBy k

/-- R44: crane `k` holds no permit and no custody. -/
def State.craneHoldsNothing (s : State) (k : Crane) : Bool :=
  (s.permitOf k).isNone && (s.crane k).custody.isNone

/-- R73, R76: crane `k` holds the reservation for that slab. -/
def State.reservedFor (s : State) (k : Crane) (id : SlabId) : Bool := s.reservation == some ⟨k, id⟩

/-- R79: crane `k` holds the reservation. -/
def State.holdsReservation (s : State) (k : Crane) : Bool :=
  match s.reservation with
  | some r => r.crane == k
  | none => false

/-- R74: the reservation is free if crane `k` held it. -/
def State.releaseReservation (s : State) (k : Crane) : State :=
  { s with reservation := if s.holdsReservation k then none else s.reservation }

/-- R52: crane `k`'s permit timer stops. -/
def State.stopPermitTimer (s : State) (k : Crane) : State :=
  s.updateCrane k fun c => { c with permitTimer := none }

/-- A period of whole seconds in timer steps of 0.1 s (R52, R70, R138). -/
def tenths (seconds : Nat) : Nat := 10 * seconds

/-- R47: crane `k`'s permit timer starts with the period in force. -/
def State.startPermitTimer (s : State) (k : Crane) : State :=
  s.updateCrane k fun c => { c with permitTimer := some (tenths s.params.permitPeriod) }

/-- R66, R70: crane `k` takes custody of a slab and its custody timer starts. -/
def State.beginCustody (s : State) (k : Crane) (id : SlabId) : State :=
  s.updateCrane k fun c => { c with custody := some id, custodyTimer := some (tenths s.params.custodyPeriod) }

/-- R76: crane `k`'s custody timer stops and its custody becomes none. -/
def State.endCustody (s : State) (k : Crane) : State :=
  s.updateCrane k fun c => { c with custody := none, custodyTimer := none }

/-! ### The lane (R56 to R58) -/

/-- R58: the head row. -/
inductive HeadRow where
  | empty
  | single (a : SlabId)
  | pair (a b : SlabId)
  | incomplete (a : SlabId)
deriving DecidableEq, Repr

/-- R58: the head row, from the lane FIFO and the partner fields. -/
def State.headRow (s : State) : HeadRow :=
  match s.lane with
  | [] => .empty
  | a :: rest =>
    match s.partner? a with
    | some q => if q.role = .first then (if rest.head? = some q.id then .pair a q.id else .incomplete a) else .single a
    | none => .single a

/-- R58: the head row's furnace, the destination of its head slab. -/
def State.headFurnace (s : State) : Option Furnace :=
  match s.lane with
  | [] => none
  | a :: _ => (s.slab? a).map fun r => r.destination

/-- R175: the code of the head row state, in the order of R58. -/
def HeadRow.code : HeadRow → Nat
  | .empty => 0
  | .single _ => 1
  | .pair _ _ => 2
  | .incomplete _ => 3

/-- R57: the arrangements in which a pair keeps its standing: the FIRST member is the lane tail and the
SECOND the sequence head, or the SECOND stands directly behind the FIRST on the lane. -/
def State.pairStands (s : State) (first second : SlabId) : Bool :=
  (s.lane.getLast? == some first && s.sequence.head? == some second) || successorIn first s.lane == some second

/-- R57: the pair check of one lane slab. -/
def State.checkPairOf (s : State) (id : SlabId) : Bool :=
  match s.partner? id with
  | some ⟨q, .first⟩ => s.pairStands id q
  | some ⟨q, .second⟩ => s.pairStands q id
  | none => true

/-- R57: after a join at the tail, each pair that touches the lane and stands in neither arrangement
dissolves. -/
def State.lanePairCheck (s : State) : State :=
  s.lane.foldl (fun t id => if t.checkPairOf id then t else t.dissolvePair id) s

/-- R56, R57: a slab joins the lane at the tail, and the pair check is made. -/
def State.joinLaneTail (s : State) (id : SlabId) : State :=
  State.lanePairCheck { s with lane := s.lane ++ [id] }

/-! ### Notices (R173) -/

/-- R173: the notice kinds of the SUPV role. -/
inductive SupvNotice where
  | seqLow
  | discharge
  | fault
  | doubt
  | portLost
  | threshold
  | hold
deriving DecidableEq, Repr

/-- R173: the notice kinds of the CRANE role. -/
inductive CraneNotice where
  | permitLapsed
  | turn
  | credit
deriving DecidableEq, Repr

/-- R173: the notice kinds of the FURNACE role. -/
inductive FurnaceNotice where
  | rowReady
  | hold
  | soak
deriving DecidableEq, Repr

/-- R176, kinds bytes: the bit of a SUPV kind. -/
def SupvNotice.bit : SupvNotice → Byte
  | .seqLow => 0x01
  | .discharge => 0x02
  | .fault => 0x04
  | .doubt => 0x08
  | .portLost => 0x10
  | .threshold => 0x20
  | .hold => 0x40

/-- R176, kinds bytes: the bit of a CRANE kind. -/
def CraneNotice.bit : CraneNotice → Byte
  | .permitLapsed => 0x01
  | .turn => 0x02
  | .credit => 0x04

/-- R176, kinds bytes: the bit of a FURNACE kind. -/
def FurnaceNotice.bit : FurnaceNotice → Byte
  | .rowReady => 0x01
  | .hold => 0x02
  | .soak => 0x04

/-- R173, R176: every kind of a role. -/
def roleKinds : Role → Byte
  | .supv => 0x7F
  | .crane => 0x07
  | .furnace => 0x07

/-- R173: when `c` holds, a kind joins the notice set of port `p`, masked or not and whatever the link
state; a raise to a port that is not present is dropped. -/
def State.raiseWhen (s : State) (c : Bool) (p : Port) (bit : Byte) : State :=
  { s with
    ports := if c && s.present p then s.ports.set p { s.ports.get p with notices := (s.ports.get p).notices ||| bit }
      else s.ports }

/-- R173: a raise to the SUPV port. -/
def State.raiseSupv (s : State) (n : SupvNotice) : State := s.raiseWhen true .p0 n.bit

/-- R173: a raise to the port of crane `k`. -/
def State.raiseCrane (s : State) (k : Crane) (n : CraneNotice) : State := s.raiseWhen true (cranePort k) n.bit

/-- R173: a raise to the port of furnace `f`. -/
def State.raiseFurnace (s : State) (f : Furnace) (n : FurnaceNotice) : State :=
  s.raiseWhen true (furnacePort f) n.bit

/-! ### Fault banks (R155 to R161) -/

/-- R161: the severity of a fault. -/
def FaultCode.severity : FaultCode → Severity
  | .frameCheck | .kindRefused | .frameWhileBusy | .responseDiscarded => .advisory
  | .portSilent => .recoverable
  | .permitReturned | .permitLapsed | .admissionStall => .advisory
  | .lateLift => .recoverable
  | .depositUncleared => .advisory
  | .custodyOverdue => .recoverable
  | .outOfTurn | .custodyLost | .lateLiftDoubt | .laneRecovery => .trackingLost
  | .dischargeEmpty | .underheat | .logOverrun | .lateEnd => .advisory
  | .overtravel => .recoverable
  | .overlap | .walkDuringCharge | .chargeStuck | .chargeTimeout => .trackingLost
  | .dischargeMismatch | .controllerLost | .furnaceRecovery => .trackingLost

/-- R161: the number of a fault within its bank. -/
def FaultCode.number : FaultCode → Nat
  | .frameCheck => 1
  | .kindRefused => 2
  | .frameWhileBusy => 3
  | .responseDiscarded => 4
  | .portSilent => 5
  | .permitReturned => 1
  | .permitLapsed => 2
  | .admissionStall => 3
  | .lateLift => 4
  | .depositUncleared => 1
  | .custodyOverdue => 2
  | .outOfTurn => 3
  | .custodyLost => 4
  | .lateLiftDoubt => 5
  | .laneRecovery => 6
  | .dischargeEmpty => 1
  | .underheat => 2
  | .logOverrun => 3
  | .lateEnd => 4
  | .overtravel => 5
  | .overlap => 6
  | .walkDuringCharge => 7
  | .chargeStuck => 8
  | .chargeTimeout => 9
  | .dischargeMismatch => 10
  | .controllerLost => 11
  | .furnaceRecovery => 12

/-- R161: the severity byte. -/
def Severity.byte : Severity → Nat
  | .advisory => 1
  | .recoverable => 2
  | .trackingLost => 3

/-- R156: the record takes a fault when it is not valid or holds a fault of strictly lower severity. -/
def Bank.takes (b : Bank) (sev : Severity) : Bool :=
  match b.record with
  | none => true
  | some r => decide (r.severity.byte < sev.byte)

/-- R157: the taking of a fault raises FAULT. -/
def Bank.raisesFault (b : Bank) (sev : Severity) : Bool :=
  b.takes sev && (sev != .advisory || b.advisoryEnable)

/-- R158: a fault that raises the threshold counter by one. -/
def Bank.counts (b : Bank) (sev : Severity) : Bool :=
  sev == .recoverable && b.counting && decide (b.counter < Config.maxCounter)

/-- R158: the step from 4094 to 4095, which sets the threshold flag and raises THRESHOLD. -/
def Bank.reachesThreshold (b : Bank) (sev : Severity) : Bool :=
  b.counts sev && b.counter + 1 == Config.maxCounter

/-- R156: a TRACKING_LOST fault that the record keeps out, with another code or slab than the one held. -/
def Bank.losesFault (b : Bank) (code : FaultCode) (slab : Option SlabId) : Bool :=
  match b.record with
  | none => false
  | some r => r.severity == .trackingLost && code.severity == .trackingLost && (r.code != code || r.slab != slab)

/-- R156, R157, R158: a bank after a fault has reached it. -/
def Bank.logged (b : Bank) (code : FaultCode) (slab : Option SlabId) (port : Option Port) (stamp : Word32) : Bank :=
  { b with
    record := if b.takes code.severity then some ⟨code.severity, code, slab, port, stamp⟩ else b.record
    overflow := b.overflow || b.record.isSome
    lossUnlogged := b.lossUnlogged || b.losesFault code slab
    notified := if b.takes code.severity then b.raisesFault code.severity else b.notified
    counter := if b.counts code.severity then b.counter + 1 else b.counter
    thresholdFlag := b.thresholdFlag || b.reachesThreshold code.severity }

/-- R156, R157, R158: a fault reaches a bank, with FAULT and THRESHOLD to the SUPV port where they arise. -/
def State.logFault (s : State) (bank : BankId) (code : FaultCode) (slab : Option SlabId) (port : Option Port) : State :=
  ((s.updateBank bank fun b => b.logged code slab port s.runningSeconds).raiseWhen
      ((s.banks.get bank).raisesFault code.severity) .p0 SupvNotice.fault.bit).raiseWhen
    ((s.banks.get bank).reachesThreshold code.severity) .p0 SupvNotice.threshold.bit

/-- A fault of furnace `f` is logged to the FURNACE f bank (R155). -/
def State.logFurnace (s : State) (f : Furnace) (code : FaultCode) (slab : Option SlabId) (port : Option Port) : State :=
  s.logFault (furnaceBank f) code slab port

/-- R108, R143: the doubt flag of `f` is set, a fault is logged to its bank and DOUBT is raised. -/
def State.doubtFurnace (s : State) (f : Furnace) (code : FaultCode) (slab : Option SlabId) (port : Option Port) : State :=
  ((s.updateFurnace f fun m => { m with doubt := true }).logFurnace f code slab port).raiseSupv .doubt

/-! ### Residence and soak (R116, R117) -/

/-- R117: whether the soak check of `f` notifies its front row. -/
def State.soakDue (s : State) (f : Furnace) : Bool :=
  match (s.furnace f).rows.getLast? with
  | some r => decide (r.soakTarget ≤ r.residence) && !r.soakNotified
  | none => false

/-- Marks the last row of a map as notified. -/
def markFront : List Row → List Row
  | [] => []
  | [r] => [{ r with soakNotified := true }]
  | r :: q :: rest => r :: markFront (q :: rest)

/-- R117: the soak check of furnace `f`. -/
def State.soakCheck (s : State) (f : Furnace) : State :=
  (s.updateFurnace f fun m => { m with rows := if s.soakDue f then markFront m.rows else m.rows }).raiseWhen
    (s.soakDue f) (furnacePort f) FurnaceNotice.soak.bit

/-! ### Rows of a map (R104, R105) -/

/-- R104: the slabs of a row with their sides, the single or LEFT slab first. -/
def slabsWithSides (a : SlabId) (b : Option SlabId) : List (SlabId × Side) :=
  match b with
  | none => [(a, .single)]
  | some c => [(a, .left), (c, .right)]

/-- Whether a row holds the slab. -/
def Row.holds (r : Row) (id : SlabId) : Bool := r.slabA == id || r.slabB == some id

/-- R98: the far edge of a row. -/
def Row.far (r : Row) : Nat := r.rear + r.width

/-- R105: two adjacent rows overlap when the older one's rear edge is below the newer one's far edge. -/
def rowsOverlap (newer older : Row) : Bool := decide (older.rear < newer.far)

/-- R105: whether any two adjacent rows of a map overlap. -/
def anyOverlap : List Row → Bool
  | a :: b :: rest => rowsOverlap a b || anyOverlap (b :: rest)
  | _ => false

/-! ### The silence timer (R172) -/

/-- R172: the period of a silence code in steps of 0.1 s, 0.5 s doubled code times. -/
def silenceTenths (code : Nat) : Nat := 5 * 2 ^ code

/-- R172: the silence code of a port's role in force. -/
def State.silenceCode (s : State) (p : Port) : Nat :=
  match portRole p with
  | .supv => s.params.supvSilence
  | .crane => s.params.craneSilence
  | .furnace => s.params.furnaceSilence

/-- R172: the silence timer of `p` as it is armed under the parameters in force. -/
def State.armedSilence (s : State) (p : Port) : Timer := some (silenceTenths (s.silenceCode p))

end Sys2Proof.Machine
end

