-- ==== Sys2Proof/Machine/Clock.lean ====
section
/-!
DEFINITION. Machine/Clock.lean: the 0.1 s tick that the part takes when no command waits (log entry 1). The
timers count in steps of 0.1 s (R52, R70, R138, R172) and the running seconds advance once each second
(R183); a tick counts them down, and what falls due joins the queue as the command of its expiry.
-/

namespace Sys2Proof.Machine

/-- A timer after one step of 0.1 s. -/
def tickTimer : Timer → Timer
  | some n => some (n - 1)
  | none => none

/-- A running timer falls due at its last step. -/
def timerDue : Timer → Bool
  | some n => decide (n ≤ 1)
  | none => false

/-- The cranes' timers after one step. -/
def CraneState.ticked (c : CraneState) : CraneState :=
  { c with permitTimer := tickTimer c.permitTimer, custodyTimer := tickTimer c.custodyTimer }

/-- A furnace's charge timer after one step. -/
def FurnaceState.ticked (m : FurnaceState) : FurnaceState := { m with chargeTimer := tickTimer m.chargeTimer }

/-- A port's silence timer after one step. -/
def PortState.ticked (q : PortState) : PortState := { q with silence := tickTimer q.silence }

/-- The command of an expiry, when it falls due. -/
def dueCommand (c : Bool) (i : Instr) : List Instr := if c then [i] else []

/-- The commands that fall due at the next step of 0.1 s, in the order in which they join the queue. -/
def State.dueCommands (s : State) : List Instr :=
  dueCommand (decide (9 ≤ s.subSecond)) .runningSecondsAdvance ++
  ([Crane.c1, Crane.c2].flatMap fun k => dueCommand (timerDue (s.crane k).permitTimer) (.permitTimerExpiry k)) ++
  ([Crane.c1, Crane.c2].flatMap fun k => dueCommand (timerDue (s.crane k).custodyTimer) (.custodyTimerExpiry k)) ++
  ([Furnace.f1, Furnace.f2, Furnace.f3].flatMap fun f =>
    dueCommand (timerDue (s.furnace f).chargeTimer) (.chargeTimerExpiry f)) ++
  ([Port.p0, Port.p1, Port.p2, Port.p3, Port.p4, Port.p5].flatMap fun p =>
    dueCommand (timerDue (s.port p).silence) (.silenceTimerExpiry p))

/-- One step of 0.1 s. Without power nothing counts (R116, R183). -/
def State.tick (s : State) : State :=
  { s with
    subSecond := if s.powered then (if 9 ≤ s.subSecond then 0 else s.subSecond + 1) else s.subSecond
    cranes := if s.powered then ⟨s.cranes.c1.ticked, s.cranes.c2.ticked⟩ else s.cranes
    furnaces := if s.powered then ⟨s.furnaces.f1.ticked, s.furnaces.f2.ticked, s.furnaces.f3.ticked⟩ else s.furnaces
    ports := if s.powered then ⟨s.ports.p0.ticked, s.ports.p1.ticked, s.ports.p2.ticked, s.ports.p3.ticked,
        s.ports.p4.ticked, s.ports.p5.ticked⟩ else s.ports
    pending := if s.powered then s.pending ++ s.dueCommands else s.pending }

end Sys2Proof.Machine
end

