-- ==== Sys2Proof/Machine/Operands.lean ====
section
/-!
DEFINITION. Machine/Operands.lean: the bytes of the bodies. Reading the fields of a request body and writing
the fields of a response body, most significant byte first (R168, R175); the codes of named values (R175,
R176); the answers DONE, WAIT and REFUSE with their reason codes (R169, R176); the numbered parameters with
their ranges (R177).
-/

namespace Sys2Proof.Machine

/-! ### Reading a body -/

/-- R168: bytes read as one number, most significant byte first. -/
def beNat (bs : List Byte) : Nat := bs.foldl (fun n b => n * 256 + b.toNat) 0

/-- The field of `len` bytes at offset `off` of a body (R168). -/
def field (body : List Byte) (off len : Nat) : Nat := beNat ((body.drop off).take len)

/-- The byte at offset `off` of a body. -/
def byteAt (body : List Byte) (off : Nat) : Byte := (body.drop off).headD 0

/-- R2: an id a live slab may carry, 1 to 4,294,967,294. -/
def validSlabId (id : Nat) : Bool := decide (id ≠ 0) && decide (id < Config.allOnes)

/-! ### Writing a body -/

/-- R175: a field of one byte. -/
def u8 (n : Nat) : List Byte := [BitVec.ofNat 8 n]

/-- R175: a field of two bytes. -/
def u16 (n : Nat) : List Byte := [BitVec.ofNat 8 (n / 256), BitVec.ofNat 8 n]

/-- R175: a field of four bytes. -/
def u32 (n : Nat) : List Byte :=
  [BitVec.ofNat 8 (n / 16777216), BitVec.ofNat 8 (n / 65536), BitVec.ofNat 8 (n / 256), BitVec.ofNat 8 n]

/-- R175: yes is 1 and no is 0. -/
def yesNo (b : Bool) : List Byte := u8 b.toNat

/-- Field presence (introduction): an absent slab id is carried as 0. -/
def slabField (id : Option SlabId) : List Byte := u32 (id.getD 0)

/-- R175: a list of ids of varying length, preceded by its count. -/
def idList (ids : List SlabId) : List Byte := u8 ids.length ++ ids.flatMap u32

/-! ### Codes of named values (R175: from 0 in the order their rule or table lists them) -/

/-- R179: CONFIG, RUN. -/
def Mode.code : Mode → Nat
  | .config => 0
  | .run => 1

/-- R162, R170: SUPV, CRANE, FURNACE. -/
def roleNumber : Role → Nat
  | .supv => 0
  | .crane => 1
  | .furnace => 2

/-- The table of section 9.4: OFFLINE, ACTIVE, PARKED, LOST. -/
def LinkState.code : LinkState → Nat
  | .offline => 0
  | .active => 1
  | .parked => 2
  | .lost => 3

/-- R176: COLD, WARM, HOT. -/
def TempClass.code : TempClass → Nat
  | .cold => 0
  | .warm => 1
  | .hot => 2

/-- R176: the temperature class with that code. -/
def tempClassOf : Nat → Option TempClass
  | 0 => some .cold
  | 1 => some .warm
  | 2 => some .hot
  | _ => none

/-- R176: SINGLE, LEFT, RIGHT. -/
def Side.code : Side → Nat
  | .single => 0
  | .left => 1
  | .right => 2

/-- R48: NONE, FIRST, SECOND. -/
def roleCode : Option Partner → Nat
  | none => 0
  | some q => match q.role with
    | .first => 1
    | .second => 2

/-- R2, R3: LISTED, PERMITTED, LIFTED, ON_LANE, AT_ENTRY, IN_FURNACE, DOUBTFUL. -/
def Place.code : Place → Nat
  | .listed => 0
  | .permitted _ => 1
  | .lifted _ _ => 2
  | .onLane => 3
  | .atEntry _ _ => 4
  | .inFurnace _ _ => 5
  | .doubtful _ => 6

/-- R183: the reset record as one byte. -/
def ResetRecord.byte (r : ResetRecord) : List Byte :=
  u8 (r.powerOn.toNat + 2 * r.restart.toNat + 4 * r.clearAll.toNat)

/-- R176: the hold set as one byte. -/
def HoldSet.byte (h : HoldSet) : List Byte :=
  u8 (h.supv.toNat + 2 * h.portParked.toNat + 4 * h.portLost.toNat)

/-- R135, R137, R149, R150 with R175: the slab ids and sides of a row, preceded by their number. -/
def rowSlabs (a : SlabId) (b : Option SlabId) : List Byte :=
  u8 (slabsWithSides a b).length ++ (slabsWithSides a b).flatMap fun x => u32 x.1 ++ u8 x.2.code

/-- R136, R137 with R175: the slab ids of a row, preceded by their number. -/
def rowIds (a : SlabId) (b : Option SlabId) : List Byte := idList (a :: b.toList)

/-- R176: the slab description, 14 bytes. -/
def SlabRecord.description (r : SlabRecord) : List Byte :=
  u32 r.id ++ u16 r.length ++ u16 r.width ++ u16 r.thickness ++ [r.heatingClass] ++ u8 r.tempClass.code ++
    u8 (furnaceNumber r.destination) ++ yesNo r.pairable

/-! ### Answers (R169, R176) -/

/-- R176: the refusal reasons. -/
inductive RefuseReason where
  | frame
  | kind
  | range
  | parked
  | lost
  | notRunning
  | full
  | duplicate
  | unknownSlab
  | orderFixed
  | inCustody
  | inUse
  | state
  | size
  | admission
  | late
  | empty
  | mismatch
  | role
  | inconsistent
deriving DecidableEq, Repr

/-- R176: the wait reasons. -/
inductive WaitReason where
  | noneListed
  | noCredit
  | holding
  | admission
  | turn
  | laneDoubtful
  | noRow
  | headElsewhere
  | pairIncomplete
  | walksNeeded
  | fullLength
  | fullRows
  | held
  | doubtful
  | busy
deriving DecidableEq, Repr

/-- R176: the code of a refusal reason. -/
def RefuseReason.code : RefuseReason → Nat
  | .frame => 1
  | .kind => 2
  | .range => 3
  | .parked => 4
  | .lost => 5
  | .notRunning => 6
  | .full => 7
  | .duplicate => 8
  | .unknownSlab => 9
  | .orderFixed => 10
  | .inCustody => 11
  | .inUse => 12
  | .state => 13
  | .size => 14
  | .admission => 15
  | .late => 16
  | .empty => 17
  | .mismatch => 18
  | .role => 19
  | .inconsistent => 20

/-- R176: the code of a wait reason. -/
def WaitReason.code : WaitReason → Nat
  | .noneListed => 1
  | .noCredit => 2
  | .holding => 3
  | .admission => 4
  | .turn => 5
  | .laneDoubtful => 6
  | .noRow => 7
  | .headElsewhere => 8
  | .pairIncomplete => 9
  | .walksNeeded => 10
  | .fullLength => 11
  | .fullRows => 12
  | .held => 13
  | .doubtful => 14
  | .busy => 15

/-- R169: the three answers to a request, the two others with the detail their rule names (R175). -/
inductive Response where
  | done (body : List Byte)
  | wait (reason : WaitReason) (detail : List Byte)
  | refuse (reason : RefuseReason) (detail : List Byte)
deriving DecidableEq, Repr

/-- R176: the response kinds. -/
def Response.kindCode : Response → Byte
  | .done _ => 0x81
  | .wait _ _ => 0x82
  | .refuse _ _ => 0x83

/-- R175: the body of a response. -/
def Response.body : Response → List Byte
  | .done b => b
  | .wait r d => u8 r.code ++ d
  | .refuse r d => u8 r.code ++ d

/-- An answer with which nothing changes. -/
def refused (s : State) (r : RefuseReason) : State × Response := (s, .refuse r [])

/-- A wait with which nothing changes. -/
def waits (s : State) (r : WaitReason) (detail : List Byte) : State × Response := (s, .wait r detail)

/-! ### Parameters (R177) -/

/-- R177: the parameters of one furnace, 0x1f01 to 0x1f0C. -/
inductive FurnaceParam where
  | effectiveLength
  | hearthWidth
  | stroke
  | gap
  | sideClearance
  | centreClearance
  | doubleRow
  | heatingFactor
  | warmPercent
  | hotPercent
  | admissionMask
  | admissionMatch
deriving DecidableEq, Repr

/-- R177: the numbered parameters. -/
inductive ParamId where
  | craneCount
  | furnaceCount
  | laneCapacity
  | lowWater
  | pairWidthDifference
  | pairThicknessDifference
  | furnace (f : Furnace) (q : FurnaceParam)
  | permitPeriod
  | custodyPeriod
  | chargePeriod
  | supvSilence
  | craneSilence
  | furnaceSilence
deriving DecidableEq, Repr

/-- R177: the furnace parameter whose number ends in that byte. -/
def furnaceParamOf : Nat → Option FurnaceParam
  | 0x01 => some .effectiveLength
  | 0x02 => some .hearthWidth
  | 0x03 => some .stroke
  | 0x04 => some .gap
  | 0x05 => some .sideClearance
  | 0x06 => some .centreClearance
  | 0x07 => some .doubleRow
  | 0x08 => some .heatingFactor
  | 0x09 => some .warmPercent
  | 0x0A => some .hotPercent
  | 0x0B => some .admissionMask
  | 0x0C => some .admissionMatch
  | _ => none

/-- R177: the global parameter whose number ends in that byte. -/
def globalParamOf : Nat → Option ParamId
  | 0x01 => some .craneCount
  | 0x02 => some .furnaceCount
  | 0x03 => some .laneCapacity
  | 0x04 => some .lowWater
  | 0x05 => some .pairWidthDifference
  | 0x06 => some .pairThicknessDifference
  | _ => none

/-- R177: the timer parameter whose number ends in that byte. -/
def timerParamOf : Nat → Option ParamId
  | 0x01 => some .permitPeriod
  | 0x02 => some .custodyPeriod
  | 0x03 => some .chargePeriod
  | 0x04 => some .supvSilence
  | 0x05 => some .craneSilence
  | 0x06 => some .furnaceSilence
  | _ => none

/-- R177: the parameter with that number; every other number is unknown. -/
def paramOfNumber (n : Nat) : Option ParamId :=
  match n / 256 with
  | 0x01 => globalParamOf (n % 256)
  | 0x11 => (furnaceParamOf (n % 256)).map (ParamId.furnace .f1)
  | 0x12 => (furnaceParamOf (n % 256)).map (ParamId.furnace .f2)
  | 0x13 => (furnaceParamOf (n % 256)).map (ParamId.furnace .f3)
  | 0x20 => timerParamOf (n % 256)
  | _ => none

/-- R177: the number of furnace `f`'s hearth width parameter, 0x1f02. -/
def hearthWidthNumber (f : Furnace) : Nat := 0x1002 + 0x100 * furnaceNumber f

/-- R177: the low and the high limit of a furnace parameter. -/
def FurnaceParam.limits : FurnaceParam → Nat × Nat
  | .effectiveLength => (10000, 60000)
  | .hearthWidth => (3000, 14000)
  | .stroke => (100, 800)
  | .gap => (50, 600)
  | .sideClearance => (100, 800)
  | .centreClearance => (100, 800)
  | .doubleRow => (0, 1)
  | .heatingFactor => (100, 900)
  | .warmPercent => (50, 100)
  | .hotPercent => (30, 100)
  | .admissionMask => (0, 255)
  | .admissionMatch => (0, 255)

/-- R177: the low and the high limit of a parameter. -/
def ParamId.limits : ParamId → Nat × Nat
  | .craneCount => (1, 2)
  | .furnaceCount => (1, 3)
  | .laneCapacity => (2, 8)
  | .lowWater => (0, 32)
  | .pairWidthDifference => (0, 800)
  | .pairThicknessDifference => (0, 100)
  | .furnace _ q => q.limits
  | .permitPeriod => (10, 1800)
  | .custodyPeriod => (60, 3600)
  | .chargePeriod => (30, 600)
  | .supvSilence => (0, 7)
  | .craneSilence => (0, 7)
  | .furnaceSilence => (0, 7)

/-- The value of a furnace parameter. -/
def FurnaceParams.value (fp : FurnaceParams) : FurnaceParam → Nat
  | .effectiveLength => fp.effectiveLength
  | .hearthWidth => fp.hearthWidth
  | .stroke => fp.stroke
  | .gap => fp.gap
  | .sideClearance => fp.sideClearance
  | .centreClearance => fp.centreClearance
  | .doubleRow => fp.doubleRow.toNat
  | .heatingFactor => fp.heatingFactor
  | .warmPercent => fp.warmPercent
  | .hotPercent => fp.hotPercent
  | .admissionMask => fp.admissionMask.toNat
  | .admissionMatch => fp.admissionMatch.toNat

/-- The value of a parameter in force. -/
def Params.value (ps : Params) : ParamId → Nat
  | .craneCount => ps.craneCount
  | .furnaceCount => ps.furnaceCount
  | .laneCapacity => ps.laneCapacity
  | .lowWater => ps.lowWater
  | .pairWidthDifference => ps.pairWidthDifference
  | .pairThicknessDifference => ps.pairThicknessDifference
  | .furnace f q => (ps.furnace.get f).value q
  | .permitPeriod => ps.permitPeriod
  | .custodyPeriod => ps.custodyPeriod
  | .chargePeriod => ps.chargePeriod
  | .supvSilence => ps.supvSilence
  | .craneSilence => ps.craneSilence
  | .furnaceSilence => ps.furnaceSilence

/-- A furnace's parameters with one written. -/
def FurnaceParams.write (fp : FurnaceParams) (q : FurnaceParam) (v : Nat) : FurnaceParams :=
  match q with
  | .effectiveLength => { fp with effectiveLength := v }
  | .hearthWidth => { fp with hearthWidth := v }
  | .stroke => { fp with stroke := v }
  | .gap => { fp with gap := v }
  | .sideClearance => { fp with sideClearance := v }
  | .centreClearance => { fp with centreClearance := v }
  | .doubleRow => { fp with doubleRow := v != 0 }
  | .heatingFactor => { fp with heatingFactor := v }
  | .warmPercent => { fp with warmPercent := v }
  | .hotPercent => { fp with hotPercent := v }
  | .admissionMask => { fp with admissionMask := BitVec.ofNat 8 v }
  | .admissionMatch => { fp with admissionMatch := BitVec.ofNat 8 v }

/-- The parameter table with one parameter written. -/
def Params.write (ps : Params) (q : ParamId) (v : Nat) : Params :=
  match q with
  | .craneCount => { ps with craneCount := v }
  | .furnaceCount => { ps with furnaceCount := v }
  | .laneCapacity => { ps with laneCapacity := v }
  | .lowWater => { ps with lowWater := v }
  | .pairWidthDifference => { ps with pairWidthDifference := v }
  | .pairThicknessDifference => { ps with pairThicknessDifference := v }
  | .furnace f q => { ps with furnace := ps.furnace.set f ((ps.furnace.get f).write q v) }
  | .permitPeriod => { ps with permitPeriod := v }
  | .custodyPeriod => { ps with custodyPeriod := v }
  | .chargePeriod => { ps with chargePeriod := v }
  | .supvSilence => { ps with supvSilence := v }
  | .craneSilence => { ps with craneSilence := v }
  | .furnaceSilence => { ps with furnaceSilence := v }

/-- R178: a value clamped to the nearest limit of its range. -/
def ParamId.clamp (q : ParamId) (v : Nat) : Nat := min (max v q.limits.1) q.limits.2

/-- R84: the first seven parameters of a furnace form its geometry. -/
def FurnaceParam.isGeometry : FurnaceParam → Bool
  | .effectiveLength | .hearthWidth | .stroke | .gap | .sideClearance | .centreClearance | .doubleRow => true
  | .heatingFactor | .warmPercent | .hotPercent | .admissionMask | .admissionMatch => false

/-- R94: the geometry parameters whose write is tested against the live records. The stroke, the gap and the effective
length are not, because no verdict on a live record depends on them. -/
def FurnaceParam.boundsRecords : FurnaceParam → Bool
  | .hearthWidth | .sideClearance | .centreClearance | .doubleRow => true
  | .effectiveLength | .stroke | .gap => false
  | .heatingFactor | .warmPercent | .hotPercent | .admissionMask | .admissionMatch => false

end Sys2Proof.Machine
end

