-- ==== Sys2Proof/Machine/Flags.lean ====
section
/-!
DEFINITION. Machine/Flags.lean: what follows from the state at once. The furnace status, the RDY and ATTN
lines and the data out of a port, and the notices that the manual raises on a change: SEQ_LOW, CREDIT, TURN,
HOLD and ROW_READY are each raised "in every event" that changes what they tell of, so one operation,
`settle`, compares the state before an event with the state after it.
-/

namespace Sys2Proof.Machine

/-! ### Furnace status (R107) -/

/-- R107: the furnace status. -/
inductive FurnaceStatus where
  | opened
  | held
  | doubtful
deriving DecidableEq, Repr

/-- R107: the hold set is empty. -/
def HoldSet.isEmpty (h : HoldSet) : Bool := !h.supv && !h.portParked && !h.portLost

/-- R107: the status follows from the doubt flag and the hold set. -/
def FurnaceState.status (m : FurnaceState) : FurnaceStatus :=
  if m.doubt then .doubtful else if m.hold.isEmpty then .opened else .held

/-- R175: OPEN, HELD, DOUBTFUL, in the order of R107. -/
def FurnaceStatus.code : FurnaceStatus → Nat
  | .opened => 0
  | .held => 1
  | .doubtful => 2

/-- R107: furnace `f` is OPEN. -/
def State.isOpen (s : State) (f : Furnace) : Bool := (s.furnace f).status == .opened

/-- R127: the entry operation is CHARGING. -/
def EntryOp.isCharging : EntryOp → Bool
  | .charging _ _ _ _ => true
  | .idle _ => false

/-- R130: furnace `f` is ready for a row. -/
def State.ready (s : State) (f : Furnace) : Bool :=
  (match s.headRow with
    | .single _ | .pair _ _ => true
    | .empty | .incomplete _ => false) &&
  s.headFurnace == some f && s.isOpen f && !s.laneDoubt && !(s.furnace f).op.isCharging

/-! ### The lines of a port (R163, R173) -/

/-- R163: RDY is high in RESPONSE_READY only. -/
def PortState.rdy (q : PortState) : Bool :=
  match q.exchange with
  | .responseReady _ => true
  | _ => false

/-- R173: ATTN is high while the set holds a kind that the mask enables. -/
def PortState.attn (q : PortState) : Bool := q.notices &&& q.mask != 0

/-- R163, R165 to R167: the byte the part shifts out as byte `i` of a selection, counted from the machine's
entry into its present state; nothing while SEL is low in IDLE and RESPONSE_READY. In RESPONSE_READY the first
byte out of a selection is byte 0 of the response; a selection that the part ignores reads 0xFF throughout, in
IDLE (R167) and after the processing in which it was made (R165). -/
def PortState.dataOut (q : PortState) (i : Nat) : Option Byte :=
  match q.exchange with
  | .idle => if q.sel = .released then none else some 0xFF
  | .receiving _ _ | .processing _ _ => some 0xFF
  | .responseReady frame =>
    match q.sel with
    | .released => none
    | .taken => some (frame.getD i 0xFF)
    | .ignored => some 0xFF
  | .reading frame => some (frame.getD i 0xFF)

/-! ### Notices raised on a change -/

/-- R37: an event lowers the LISTED count from above the low-water mark to the mark. -/
def fallsToMark (before after : State) : Bool :=
  decide (after.params.lowWater < before.listedCount) && after.listedCount == after.params.lowWater

/-- R44: an event raises credits free from 0 to 1 or more. -/
def creditAppears (before after : State) : Bool :=
  before.creditsFree == 0 && decide (0 < after.creditsFree)

/-- R44: crane `k` is among the cranes that a CREDIT notice reaches. -/
def State.creditReaches (s : State) (k : Crane) : Bool :=
  (s.port (cranePort k)).link == .active && s.craneHoldsNothing k

/-- R44: CREDIT to the port of crane `k`. -/
def creditRaised (before after : State) (k : Crane) : Bool :=
  creditAppears before after && after.creditReaches k

/-- R72: after the event the head is crane `k`'s LIFTED slab, and it was not before. -/
def turnRaised (before after : State) (k : Crane) : Bool := after.carriesHead k && !before.carriesHead k

/-- R109: the event changes whether furnace `f` is OPEN. -/
def holdRaised (before after : State) (f : Furnace) : Bool := before.isOpen f != after.isOpen f

/-- R130: after the event `f` is ready, and it was not before. -/
def rowReadyRaised (before after : State) (f : Furnace) : Bool := after.ready f && !before.ready f

/-- R44, R72: CREDIT and TURN to the port of crane `k`, on the state `t` reached so far. -/
def settleCrane (before after : State) (k : Crane) (t : State) : State :=
  (t.raiseWhen (creditRaised before after k) (cranePort k) CraneNotice.credit.bit).raiseWhen
    (turnRaised before after k) (cranePort k) CraneNotice.turn.bit

/-- R109, R130: HOLD to the port of furnace `f` and to the SUPV port, and ROW_READY to the port of `f`. -/
def settleFurnace (before after : State) (f : Furnace) (t : State) : State :=
  ((t.raiseWhen (holdRaised before after f) (furnacePort f) FurnaceNotice.hold.bit).raiseWhen
      (holdRaised before after f) .p0 SupvNotice.hold.bit).raiseWhen
    (rowReadyRaised before after f) (furnacePort f) FurnaceNotice.rowReady.bit

/-- R37, R44, R72, R109, R130: the state after an event that led from `before` to `after`, with the notices
that the change raises. -/
def settle (before after : State) : State :=
  settleFurnace before after .f3 (settleFurnace before after .f2 (settleFurnace before after .f1
    (settleCrane before after .c2 (settleCrane before after .c1
      (after.raiseWhen (fallsToMark before after) .p0 SupvNotice.seqLow.bit)))))

/-- A request that is taken: the event's change settles, and the DONE body is read from the state after it. -/
def taken (before after : State) (body : State → List Byte) : State × Response :=
  (settle before after, .done (body (settle before after)))

end Sys2Proof.Machine
end

