-- ==== Sys2Proof/Machine/Frames.lean ====
section
/-!
DEFINITION. Machine/Frames.lean: frames and the judgement of requests. The check byte (R168), the request
kinds with their roles (R176), the six tests of R169, and the response frame that ends a request (R165).
-/

namespace Sys2Proof.Machine

/-! ### Frames (R168) -/

/-- R168: one shift of the running value of the check byte. -/
def crcShift (v : Byte) : Byte := if v.msb then (v <<< 1) ^^^ 0x07 else v <<< 1

/-- R168: one byte taken into the running value, with its eight shifts. -/
def crcByte (v b : Byte) : Byte :=
  crcShift (crcShift (crcShift (crcShift (crcShift (crcShift (crcShift (crcShift (v ^^^ b))))))))

/-- R168: the CRC-8 of a sequence of bytes, with polynomial 0x07 and initial value 0x00. -/
def crc8 (bytes : List Byte) : Byte := bytes.foldl crcByte 0

/-- R168: kind, body length and body of a frame. -/
def frameHead (kind : Byte) (body : List Byte) : List Byte := kind :: BitVec.ofNat 8 body.length :: body

/-- R168: a whole frame, with its check byte. -/
def frameOf (kind : Byte) (body : List Byte) : List Byte := frameHead kind body ++ [crc8 (frameHead kind body)]

/-- R165, R168: the response frame of an answer. -/
def Response.frame (r : Response) : List Byte := frameOf r.kindCode r.body

/-- R169, test 1: the byte count is N + 3 with N the length byte, from 3 to 63, and N at most 60. -/
def countPasses (kept : List Byte) (count : Nat) : Bool :=
  decide (3 ≤ count) && decide (count ≤ Config.maxFrame) && decide ((byteAt kept 1).toNat ≤ Config.maxBody)
    && count == (byteAt kept 1).toNat + 3

/-- R169, test 2: the check byte matches. -/
def checkPasses (kept : List Byte) : Bool :=
  crc8 (kept.take ((byteAt kept 1).toNat + 2)) == byteAt kept ((byteAt kept 1).toNat + 2)

/-- R169: a good frame passes tests 1 and 2. -/
def goodFrame (kept : List Byte) (count : Nat) : Bool := countPasses kept count && checkPasses kept

/-- R168: the body of a frame that passes test 1. -/
def frameBody (kept : List Byte) : List Byte := (kept.drop 2).take (byteAt kept 1).toNat

/-! ### Request kinds (R176) -/

/-- R176: the request kinds. -/
inductive Kind where
  | hello
  | status
  | noticeRead
  | noticeClear
  | noticeMask
  | park
  | mapRead
  | slabAnnounce
  | slabRead
  | seqMove
  | seqWithdraw
  | seqRead
  | laneRead
  | holdSet
  | holdRelease
  | dischargeTake
  | slabResolve
  | doubtList
  | rowRemove
  | mapWalk
  | rowShift
  | confirmFurnace
  | confirmLane
  | faultRead
  | faultClear
  | thresholdSet
  | advisoryEnable
  | paramRead
  | paramWrite
  | start
  | restart
  | clearAll
  | resetRecordClear
  | permitAsk
  | permitReturn
  | liftReport
  | setdownAsk
  | depositReport
  | setAsideReport
  | chargeAsk
  | chargeBegin
  | chargeEnd
  | chargeAbort
  | walkReport
  | dischargeAsk
  | dischargeReport
deriving DecidableEq, Repr

/-- R176: the kind with that code; a code not in the table is unknown. -/
def kindOfCode (code : Byte) : Option Kind :=
  match code.toNat with
  | 0x01 => some .hello
  | 0x02 => some .status
  | 0x03 => some .noticeRead
  | 0x04 => some .noticeClear
  | 0x05 => some .noticeMask
  | 0x06 => some .park
  | 0x07 => some .mapRead
  | 0x10 => some .slabAnnounce
  | 0x11 => some .slabRead
  | 0x12 => some .seqMove
  | 0x13 => some .seqWithdraw
  | 0x14 => some .seqRead
  | 0x15 => some .laneRead
  | 0x18 => some .holdSet
  | 0x19 => some .holdRelease
  | 0x1A => some .dischargeTake
  | 0x20 => some .slabResolve
  | 0x21 => some .doubtList
  | 0x22 => some .rowRemove
  | 0x23 => some .mapWalk
  | 0x24 => some .rowShift
  | 0x25 => some .confirmFurnace
  | 0x26 => some .confirmLane
  | 0x28 => some .faultRead
  | 0x29 => some .faultClear
  | 0x2A => some .thresholdSet
  | 0x2B => some .advisoryEnable
  | 0x30 => some .paramRead
  | 0x31 => some .paramWrite
  | 0x32 => some .start
  | 0x33 => some .restart
  | 0x34 => some .clearAll
  | 0x35 => some .resetRecordClear
  | 0x40 => some .permitAsk
  | 0x41 => some .permitReturn
  | 0x42 => some .liftReport
  | 0x43 => some .setdownAsk
  | 0x44 => some .depositReport
  | 0x45 => some .setAsideReport
  | 0x50 => some .chargeAsk
  | 0x51 => some .chargeBegin
  | 0x52 => some .chargeEnd
  | 0x53 => some .chargeAbort
  | 0x54 => some .walkReport
  | 0x55 => some .dischargeAsk
  | 0x56 => some .dischargeReport
  | _ => none

/-- R176: the code of a kind. -/
def Kind.code : Kind → Byte
  | .hello => 0x01
  | .status => 0x02
  | .noticeRead => 0x03
  | .noticeClear => 0x04
  | .noticeMask => 0x05
  | .park => 0x06
  | .mapRead => 0x07
  | .slabAnnounce => 0x10
  | .slabRead => 0x11
  | .seqMove => 0x12
  | .seqWithdraw => 0x13
  | .seqRead => 0x14
  | .laneRead => 0x15
  | .holdSet => 0x18
  | .holdRelease => 0x19
  | .dischargeTake => 0x1A
  | .slabResolve => 0x20
  | .doubtList => 0x21
  | .rowRemove => 0x22
  | .mapWalk => 0x23
  | .rowShift => 0x24
  | .confirmFurnace => 0x25
  | .confirmLane => 0x26
  | .faultRead => 0x28
  | .faultClear => 0x29
  | .thresholdSet => 0x2A
  | .advisoryEnable => 0x2B
  | .paramRead => 0x30
  | .paramWrite => 0x31
  | .start => 0x32
  | .restart => 0x33
  | .clearAll => 0x34
  | .resetRecordClear => 0x35
  | .permitAsk => 0x40
  | .permitReturn => 0x41
  | .liftReport => 0x42
  | .setdownAsk => 0x43
  | .depositReport => 0x44
  | .setAsideReport => 0x45
  | .chargeAsk => 0x50
  | .chargeBegin => 0x51
  | .chargeEnd => 0x52
  | .chargeAbort => 0x53
  | .walkReport => 0x54
  | .dischargeAsk => 0x55
  | .dischargeReport => 0x56

/-- R176: whether a kind is allowed to a role. -/
def Kind.allowedTo (k : Kind) (r : Role) : Bool :=
  match k with
  | .hello | .status | .noticeRead | .noticeClear | .noticeMask | .park => true
  | .mapRead => r != .crane
  | .slabAnnounce | .slabRead | .seqMove | .seqWithdraw | .seqRead | .laneRead => r == .supv
  | .holdSet | .holdRelease | .dischargeTake | .slabResolve | .doubtList | .rowRemove => r == .supv
  | .mapWalk | .rowShift | .confirmFurnace | .confirmLane | .faultRead | .faultClear => r == .supv
  | .thresholdSet | .advisoryEnable | .paramRead | .paramWrite | .start | .restart => r == .supv
  | .clearAll | .resetRecordClear => r == .supv
  | .permitAsk | .permitReturn | .liftReport | .setdownAsk | .depositReport | .setAsideReport => r == .crane
  | .chargeAsk | .chargeBegin | .chargeEnd | .chargeAbort | .walkReport => r == .furnace
  | .dischargeAsk | .dischargeReport => r == .furnace

/-- R169: whether a kind is allowed in a link state. -/
def Kind.allowedIn (k : Kind) (l : LinkState) : Bool :=
  match l with
  | .active => true
  | .parked => k == .hello || k == .status || k == .noticeRead || k == .noticeClear || k == .noticeMask
  | .lost => k == .hello
  | .offline => k == .hello || k == .status

/-- R169, test 6: the mode is CONFIG, the port is not P0 and the kind is neither HELLO nor STATUS. -/
def State.notRunning (s : State) (p : Port) (k : Kind) : Bool :=
  s.mode == .config && p != .p0 && !(k == .hello || k == .status)

/-- R169, tests 4 to 6: the refusal of a kind that the role allows, by link state and mode. -/
def State.standingRefusal (s : State) (p : Port) (k : Kind) : Option RefuseReason :=
  if k.allowedIn (s.port p).link then (if s.notRunning p k then some .notRunning else none)
  else if (s.port p).link = .parked then some .parked
  else some .lost

/-! ### Taking a request (R165, R169) -/

/-- R165: the response is prepared and the machine of `p` enters RESPONSE_READY. -/
def State.respond (s : State) (p : Port) (r : Response) : State :=
  s.updatePort p fun q => { q with exchange := .responseReady r.frame }

/-- The state in which a rule leaves the part, with its answer given to port `p`. -/
def answered (p : Port) (a : State × Response) : State := a.1.respond p a.2

/-- R169, test 3 for a kind that is not allowed to the role, or no kind at all: KIND_REFUSED. -/
def State.refuseKind (s : State) (p : Port) : State × Response :=
  refused (s.logFault .link .kindRefused none (some p)) .kind

/-- R169, tests 1 and 2: FRAME_CHECK. -/
def State.refuseFrame (s : State) (p : Port) : State × Response :=
  refused (s.logFault .link .frameCheck none (some p)) .frame

/-- R169, tests 3 to 6, and the rule that owns the kind. -/
def judged (p : Port) (k : Kind) (rule : State → State × Response) (s : State) : State × Response :=
  if k.allowedTo (portRole p) then
    match s.standingRefusal p k with
    | some r => refused s r
    | none => rule s
  else s.refuseKind p

/-- A request of kind `k` on port `p`, as a good frame at the end of its processing. A part without power
and a port that is not present take none (R162, R180). -/
def request (p : Port) (k : Kind) (rule : State → State × Response) (s : State) : Host.Outcome State Fault Refusal :=
  .next (if s.powered && s.present p then answered p (judged p k rule s) else s)

/-- An event of the part itself: without power nothing happens (R180). -/
def event (g : State → State) (s : State) : Host.Outcome State Fault Refusal := .next (if s.powered then g s else s)

/-- A rule of the Lane Unit, for the crane of the port (R45). -/
def forCrane (p : Port) (rule : Crane → State → State × Response) (s : State) : State × Response :=
  match portCrane p with
  | some k => rule k s
  | none => s.refuseKind p

/-- A rule of a Furnace Map, for the furnace of the port (R112). -/
def forFurnace (p : Port) (rule : Furnace → State → State × Response) (s : State) : State × Response :=
  match portFurnace p with
  | some f => rule f s
  | none => s.refuseKind p

end Sys2Proof.Machine
end

