-- ==== Sys2Proof/Machine/Planning.lean ====
section
/-!
DEFINITION. Machine/Planning.lean: the Charge Planner (chapter 5). It holds no state; each computation reads
the records, the map and the parameters as they stand (R82).
-/

namespace Sys2Proof.Machine

/-- R87: the admission filter of a furnace admits a heating class. -/
def FurnaceParams.admits (fp : FurnaceParams) (heat : Byte) : Bool :=
  heat &&& fp.admissionMask == fp.admissionMatch &&& fp.admissionMask

/-- R88: the single-row size fit of a slab of that length. -/
def FurnaceParams.sizeFits (fp : FurnaceParams) (length : Nat) : Bool :=
  decide (length + 2 * fp.sideClearance ≤ fp.hearthWidth)

/-- R90, condition 8: the pair width fit. -/
def FurnaceParams.pairFits (fp : FurnaceParams) (lengthA lengthB : Nat) : Bool :=
  decide (lengthA + lengthB + fp.centreClearance + 2 * fp.sideClearance ≤ fp.hearthWidth)

/-- The difference of two figures, taken without sign (R90, conditions 9 and 10). -/
def difference (a b : Nat) : Nat := (a - b) + (b - a)

/-- R92, R93, R146: the pairing test may take `b` as the second member of a pair with `a`. A dissolved pair is never
reformed, a slab that was tested and whose pair was dissolved is never paired again, and a slab that was requeued after
it had been permitted is charged single. R90 lists none of these bars among its ten conditions (log entry 30). -/
def mayBeSecond (a b : SlabRecord) : Bool :=
  !(b.pairingTested && b.pairDissolved) && !b.requeuedTested && !a.parted.contains b.id

/-- R90, R92, R93, R146: the pairing test of `a` with its successor `b`, under the parameters: the ten conditions of
R90, and that R92, R93 and R146 leave `b` free to be paired. -/
def pairingHolds (ps : Params) (a b : SlabRecord) : Bool :=
  !a.pairingTested && a.partner.isNone && b.place == .listed && b.partner.isNone && mayBeSecond a b &&
  b.destination == a.destination && (ps.furnace.get a.destination).doubleRow && a.pairable && b.pairable &&
  (ps.furnace.get a.destination).pairFits a.length b.length &&
  decide (difference a.width b.width ≤ ps.pairWidthDifference) &&
  decide (difference a.thickness b.thickness ≤ ps.pairThicknessDifference)

/-- R89, R90: the partner that the pairing test of the permitted slab finds, if it finds one. -/
def State.pairingPartner (s : State) (id : SlabId) : Option SlabId :=
  match s.slab? id, (s.successor id).bind s.slab? with
  | some a, some b => if pairingHolds s.params a b then some b.id else none
  | _, _ => none

/-- R89: the test marks the permitted slab as tested, whether a pair forms or not. -/
def State.markTested (s : State) (id : SlabId) : State :=
  s.updateSlab id fun r => { r with pairingTested := true }

/-- R89, R91: the pairing test of the permitted slab. -/
def State.pairingTest (s : State) (id : SlabId) : State :=
  match s.pairingPartner id with
  | some b => (s.markTested id).formPair id b
  | none => s.markTested id

/-- R96: the percent of a slab. -/
def FurnaceParams.percent (fp : FurnaceParams) : TempClass → Nat
  | .cold => 100
  | .warm => fp.warmPercent
  | .hot => fp.hotPercent

/-- The greatest of a list of figures. -/
def greatest (ns : List Nat) : Nat := ns.foldl max 0

/-- R95: the row width, the greatest width of the row's slabs. -/
def rowWidth (rs : List SlabRecord) : Nat := greatest (rs.map fun r => r.width)

/-- R95: the governing thickness. -/
def rowThickness (rs : List SlabRecord) : Nat := greatest (rs.map fun r => r.thickness)

/-- R95: the governing percent. -/
def FurnaceParams.rowPercent (fp : FurnaceParams) (rs : List SlabRecord) : Nat :=
  greatest (rs.map fun r => fp.percent r.tempClass)

/-- A quotient rounded up. -/
def ceilDiv (a b : Nat) : Nat := (a + (b - 1)) / b

/-- R97: the soak target, thickness times heating factor times percent, divided by 1000 and rounded up. -/
def soakTargetOf (thickness factor percent : Nat) : Nat := ceilDiv (thickness * factor * percent) 1000

/-- R97: the soak target of a row under the furnace's parameters in force. -/
def FurnaceParams.soakTarget (fp : FurnaceParams) (rs : List SlabRecord) : Nat :=
  soakTargetOf (rowThickness rs) fp.heatingFactor (fp.rowPercent rs)

/-- R99: the walk count of a planned row of width `w`. -/
def FurnaceParams.walkCount (fp : FurnaceParams) (rows : List Row) (w : Nat) : Nat :=
  match rows.head? with
  | none => 0
  | some newest => ceilDiv (w + fp.gap - newest.rear) fp.stroke

/-- R100: the verdicts of the fit test. -/
inductive Fit where
  | fits
  | fullRows
  | fullLength
deriving DecidableEq, Repr

/-- R100: the fit test of a planned row of width `w` with walk count `n`. -/
def FurnaceParams.fit (fp : FurnaceParams) (rows : List Row) (w n : Nat) : Fit :=
  if Config.maxRows ≤ rows.length then .fullRows
  else match rows.getLast? with
    | none => if w ≤ fp.effectiveLength then .fits else .fullLength
    | some front => if front.far + n * fp.stroke ≤ fp.effectiveLength then .fits else .fullLength

/-- R101: walks available, at most 255; 255 with the map empty. -/
def FurnaceParams.walksAvailable (fp : FurnaceParams) (rows : List Row) : Nat :=
  match rows.getLast? with
  | none => 255
  | some front => min 255 ((fp.effectiveLength - front.far) / fp.stroke)

/-- R102: the charge plan of a head row in a furnace, with the fit verdict that travels with it. -/
structure Plan where
  slabA : SlabId
  slabB : Option SlabId
  walks : Nat
  width : Nat
  soakTarget : Nat
  walksAvailable : Nat
  fit : Fit
deriving DecidableEq, Repr

/-- The records of the slabs of a row. -/
def State.rowRecords (s : State) (a : SlabId) (b : Option SlabId) : List SlabRecord :=
  (a :: b.toList).filterMap s.slab?

/-- R102: the plan for furnace `f` of the head row of slab `a` and, for a pair, `b`. -/
def State.planFor (s : State) (f : Furnace) (a : SlabId) (b : Option SlabId) : Plan :=
  let fp := s.furnaceParams f
  let rows := (s.furnace f).rows
  let w := rowWidth (s.rowRecords a b)
  { slabA := a
    slabB := b
    walks := fp.walkCount rows w
    width := w
    soakTarget := fp.soakTarget (s.rowRecords a b)
    walksAvailable := fp.walksAvailable rows
    fit := fp.fit rows w (fp.walkCount rows w) }

/-- R176: the charge plan, 15 bytes. -/
def Plan.bytes (q : Plan) : List Byte :=
  u32 q.slabA ++ slabField q.slabB ++ yesNo q.slabB.isSome ++ u8 q.walks ++ u16 q.width ++ u16 q.soakTarget ++
    u8 q.walksAvailable

/-- R94, first three conditions: every live record with destination `f` fits the hearth alone under the values `fp`, and
every live pair with that destination fits it in a double row. Which pairs count is log entry 16. -/
def State.recordsFit (s : State) (f : Furnace) (fp : FurnaceParams) : Bool :=
  s.register.all (fun r => r.destination != f || fp.sizeFits r.length) &&
  s.register.all (fun r =>
    match r.partner.bind fun q => s.slab? q.id with
    | some o => !(r.destination == f && o.destination == f) || (fp.doubleRow && fp.pairFits r.length o.length)
    | none => true)

/-- R94: the geometry test of a write of the parameter `g` of furnace `f`, with `fp` the values the write would store. It
passes when no condition of R94 holds that the write is tested for. A write of the stroke, the gap or the effective length
is not tested against the live records, as R94's last paragraph says (log entry 32). -/
def State.geometryPasses (s : State) (f : Furnace) (g : FurnaceParam) (fp : FurnaceParams) : Bool :=
  (!g.boundsRecords || s.recordsFit f fp) &&
  !(s.mode == .run && decide (furnaceNumber f ≤ s.params.furnaceCount) && !fp.sizeFits 1500)

end Sys2Proof.Machine
end

