-- ==== Sys2Proof/Machine/ChargeOps.lean ====
section
/-!
DEFINITION. Machine/ChargeOps.lean: CHARGE_ASK, CHARGE_BEGIN, CHARGE_END, CHARGE_ABORT and the expiry of the
charge timer (chapter 7).
-/

namespace Sys2Proof.Machine

/-! ### CHARGE_ASK (R129) and CHARGE_BEGIN (R131 to R133) -/

/-- R129: the plan of the head row for `f`, when the head row is SINGLE or PAIR. -/
def State.headPlan (s : State) (f : Furnace) : Option Plan :=
  match s.headRow with
  | .single a => some (s.planFor f a none)
  | .pair a b => some (s.planFor f a (some b))
  | .empty | .incomplete _ => none

/-- R129, check 5: the furnace of the head row, where it is not `f`. -/
def State.headElsewhere (s : State) (f : Furnace) : Option Furnace :=
  match s.headFurnace with
  | some g => if g = f then none else some g
  | none => none

/-- R129, checks 1 to 6: the wait they answer with, or the plan of the head row. -/
def State.chargeChecks (s : State) (f : Furnace) : Except Response Plan :=
  if (s.furnace f).status = .doubtful then .error (.wait .doubtful (u8 1))
  else if (s.furnace f).status = .held then .error (.wait .held (s.furnace f).hold.byte)
  else if s.laneDoubt then .error (.wait .doubtful (u8 0))
  else if (s.furnace f).op.isCharging then .error (.wait .busy [])
  else if s.headRow = .empty then .error (.wait .noRow [])
  else match s.headElsewhere f with
    | some g => .error (.wait .headElsewhere (u8 (furnaceNumber g)))
    | none =>
      match s.headPlan f with
      | none => .error (.wait .pairIncomplete [])
      | some q => .ok q

/-- R129, checks 7 and 8: the wait of a plan that does not fit. -/
def Plan.fitWait (q : Plan) : Option Response :=
  match q.fit with
  | .fits => none
  | .fullRows => some (.wait .fullRows [])
  | .fullLength => some (.wait .fullLength (u8 q.walksAvailable))

/-- R129: CHARGE_ASK. -/
def ruleChargeAsk (body : List Byte) (f : Furnace) (s : State) : State × Response :=
  if body.length ≠ 0 then refused s .range
  else match s.chargeChecks f with
    | .error w => (s, w)
    | .ok q =>
      match q.fitWait with
      | some w => (s, w)
      | none => (s, .done q.bytes)

/-- CHARGE_ASK (R129). -/
def execChargeAsk (p : Port) (body : List Byte) (s : State) : Host.Outcome State Fault Refusal :=
  request p .chargeAsk (forFurnace p (ruleChargeAsk body)) s

/-- R133, step 2: the slabs of a row become AT_ENTRY in `f` with their sides. -/
def State.toEntry (s : State) (f : Furnace) (a : SlabId) (b : Option SlabId) : State :=
  (slabsWithSides a b).foldl (fun t x => t.setPlace x.1 (.atEntry f x.2)) s

/-- R133: the entry operation of `f` begins with the plan `q`: the head row leaves the lane, its slabs become
AT_ENTRY, the record becomes CHARGING and the charge timer starts. -/
def State.beginCharge (s : State) (f : Furnace) (q : Plan) : State :=
  (State.toEntry { s with lane := s.lane.drop (slabsWithSides q.slabA q.slabB).length } f q.slabA q.slabB).updateFurnace f
    fun m => { m with op := .charging q.slabA q.slabB q.width q.soakTarget, chargeTimer := some (tenths s.params.chargePeriod) }

/-- R132, check 8: A and B name the head row. -/
def Plan.names (q : Plan) (a b : Nat) : Bool := q.slabA == a && q.slabB.getD 0 == b

/-- R131, R132, R133: CHARGE_BEGIN. -/
def ruleChargeBegin (body : List Byte) (f : Furnace) (s : State) : State × Response :=
  let a := field body 0 4
  let b := field body 4 4
  if body.length ≠ 8 || !validSlabId a || b == Config.allOnes then refused s .range
  else match s.chargeChecks f with
    | .error w => (s, w)
    | .ok q =>
      if !q.names a b then refused s .mismatch
      else match q.fitWait with
        | some w => (s, w)
        | none =>
          if q.walks ≠ 0 then waits s .walksNeeded (u8 q.walks)
          else taken s (s.beginCharge f q) fun _ => q.bytes ++ u16 s.params.chargePeriod

/-- CHARGE_BEGIN (R131). -/
def execChargeBegin (p : Port) (body : List Byte) (s : State) : Host.Outcome State Fault Refusal :=
  request p .chargeBegin (forFurnace p (ruleChargeBegin body)) s

/-! ### CHARGE_END (R134, R135) -/

/-- R127: the record of `f` becomes IDLE, and the charge timer stops. -/
def State.endOperation (s : State) (f : Furnace) (timedOut : Bool) : State :=
  s.updateFurnace f fun m => { m with op := .idle timedOut, chargeTimer := none }

/-- R135, step 3: the slabs of a row become IN_FURNACE in `f` with their sides. -/
def State.toFurnace (s : State) (f : Furnace) (a : SlabId) (b : Option SlabId) : State :=
  (slabsWithSides a b).foldl (fun t x => t.setPlace x.1 (.inFurnace f x.2)) s

/-- R135, step 3: the row that a charge of slabs `a` and `b` inserts. -/
def State.chargedRow (s : State) (f : Furnace) (a : SlabId) (b : Option SlabId) (width : Nat) : Row where
  slabA := a
  slabB := b
  rear := 0
  width := width
  residence := 0
  soakTarget := (s.furnaceParams f).soakTarget (s.rowRecords a b)
  soakNotified := false

/-- R135, step 4: the overlap check of the new row against the row behind it, `older` the newest row before. -/
def State.entryOverlap (s : State) (f : Furnace) (row : Row) (older : Option Row) : State :=
  match older with
  | some o => if rowsOverlap row o then s.doubtFurnace f .overlap (some o.slabA) (some (furnacePort f)) else s
  | none => s

/-- R135: the end of a charge of slabs `a` and `b`. A row that joins an empty map is the front row (R106). -/
def State.endCharge (s : State) (f : Furnace) (a : SlabId) (b : Option SlabId) (width : Nat) : State :=
  let row := s.chargedRow f a b width
  let t := ((s.endOperation f false).toFurnace f a b).updateFurnace f fun m => { m with rows := row :: m.rows }
  (if (s.furnace f).rows.isEmpty then t.soakCheck f else t).entryOverlap f row (s.furnace f).rows.head?

/-- R135: the DONE body of CHARGE_END. -/
def chargeEndBody (f : Furnace) (row : Row) (planned : Nat) (t : State) : List Byte :=
  rowSlabs row.slabA row.slabB ++ u16 row.soakTarget ++ u16 planned ++ u8 (t.furnace f).rows.length ++
    u8 t.creditsFree ++ u8 (t.furnace f).status.code

/-- R134, checks 2 and 3: an end or abort found IDLE, LATE with LATE_END where the operation timed out. -/
def lateEnd (f : Furnace) (timedOut : Bool) (s : State) : State × Response :=
  if timedOut then refused (s.logFurnace f .lateEnd none (some (furnacePort f))) .late else refused s .state

/-- R134, R135: CHARGE_END. -/
def ruleChargeEnd (body : List Byte) (f : Furnace) (s : State) : State × Response :=
  if body.length ≠ 0 then refused s .range
  else match (s.furnace f).op with
    | .idle timedOut => lateEnd f timedOut s
    | .charging a b width planned =>
      taken s (s.endCharge f a b width) (chargeEndBody f (s.chargedRow f a b width) planned)

/-- CHARGE_END (R134). -/
def execChargeEnd (p : Port) (body : List Byte) (s : State) : Host.Outcome State Fault Refusal :=
  request p .chargeEnd (forFurnace p (ruleChargeEnd body)) s

/-! ### CHARGE_ABORT (R136, R137) -/

/-- R136: the slabs of a row rejoin the lane at the head in their order and become ON_LANE. -/
def State.returnCharge (s : State) (f : Furnace) (a : SlabId) (b : Option SlabId) : State :=
  (a :: b.toList).foldl (fun t id => t.setPlace id .onLane)
    { s.endOperation f false with lane := a :: b.toList ++ s.lane }

/-- R137, steps 2 to 6, R138: a charge is given up. The slabs become DOUBTFUL, the record IDLE, and the
furnace doubtful with the fault. -/
def State.giveUpCharge (s : State) (f : Furnace) (a : SlabId) (b : Option SlabId) (timedOut : Bool)
    (code : FaultCode) (port : Option Port) : State :=
  (((slabsWithSides a b).foldl (fun t x => t.makeDoubtful x.1 (.atEntry f x.2)) s).endOperation f timedOut).doubtFurnace
    f code (some a) port

/-- R136: a RETURNED abort. It raises no notice. -/
def abortReturned (f : Furnace) (s : State) : State × Response :=
  match (s.furnace f).op with
  | .idle timedOut => lateEnd f timedOut s
  | .charging a b _ _ =>
    (s.returnCharge f a b, .done (u8 0 ++ rowIds a b ++ u8 (s.returnCharge f a b).lane.length))

/-- R137: a STUCK abort. -/
def abortStuck (f : Furnace) (s : State) : State × Response :=
  match (s.furnace f).op with
  | .idle timedOut => lateEnd f timedOut s
  | .charging a b _ _ =>
    taken s (s.giveUpCharge f a b false .chargeStuck (some (furnacePort f))) fun _ => u8 1 ++ rowIds a b

/-- R136: CHARGE_ABORT, by its outcome byte. -/
def ruleChargeAbort (body : List Byte) (f : Furnace) (s : State) : State × Response :=
  if body.length ≠ 1 then refused s .range
  else match field body 0 1 with
    | 0 => abortReturned f s
    | 1 => abortStuck f s
    | _ => refused s .range

/-- CHARGE_ABORT_RETURNED (R136): CHARGE_ABORT with outcome 0. -/
def execChargeAbortReturned (p : Port) (extra : List Byte) (s : State) : Host.Outcome State Fault Refusal :=
  request p .chargeAbort (forFurnace p (ruleChargeAbort (0x00 :: extra))) s

/-- CHARGE_ABORT_STUCK (R137): CHARGE_ABORT with outcome 1. -/
def execChargeAbortStuck (p : Port) (extra : List Byte) (s : State) : Host.Outcome State Fault Refusal :=
  request p .chargeAbort (forFurnace p (ruleChargeAbort (0x01 :: extra))) s

/-! ### The charge timer (R138) -/

/-- R138: the expiry of the charge timer of `f`. A timer that is STOPPED has no expiry (R135). -/
def State.chargeExpiry (s : State) (f : Furnace) : State :=
  match (s.furnace f).chargeTimer, (s.furnace f).op with
  | some _, .charging a b _ _ => settle s (s.giveUpCharge f a b true .chargeTimeout none)
  | _, _ => s

/-- CHARGE_TIMER_EXPIRY (R138). -/
def execChargeTimerExpiry (f : Furnace) (s : State) : Host.Outcome State Fault Refusal :=
  event (fun t => t.chargeExpiry f) s

end Sys2Proof.Machine
end

