-- ==== Sys2Proof/Machine/Permits.lean ====
section
/-!
DEFINITION. Machine/Permits.lean: PERMIT_ASK, PERMIT_RETURN, the expiry of the permit timer, and LANE_READ
(chapter 3).
-/

namespace Sys2Proof.Machine

/-! ### PERMIT_ASK (R45 to R49) -/

/-- R47: the grant of slab `id` to crane `k`: the state, the timer and the pairing test. -/
def State.grantPermit (s : State) (k : Crane) (id : SlabId) : State :=
  ((s.setPlace id (.permitted k)).startPermitTimer k).pairingTest id

/-- R48: the DONE body of a grant. `partner` is the partner that this grant's test formed. -/
def grantBody (r : SlabRecord) (partner : Option SlabId) (t : State) : List Byte :=
  r.description ++ slabField partner ++ u8 (roleCode (t.partner? r.id))

/-- R46: the checks of PERMIT_ASK for crane `k`, and the grant. -/
def rulePermitAsk (body : List Byte) (k : Crane) (s : State) : State × Response :=
  if body.length ≠ 0 then refused s .range
  else if s.craneHoldsSlab k then waits s .holding []
  else match s.firstListed.bind s.slab? with
    | none => waits s .noneListed []
    | some r =>
      if s.creditsFree = 0 then waits s .noCredit []
      else if !(s.furnaceParams r.destination).admits r.heatingClass then
        waits (s.logFault .sequence .admissionStall (some r.id) (some (cranePort k))) .admission (u32 r.id)
      else taken s (s.grantPermit k r.id)
        (grantBody r (((s.setPlace r.id (.permitted k)).startPermitTimer k).pairingPartner r.id))

/-- PERMIT_ASK (R45). -/
def execPermitAsk (p : Port) (body : List Byte) (s : State) : Host.Outcome State Fault Refusal :=
  request p .permitAsk (forCrane p (rulePermitAsk body)) s

/-! ### The end of a permit without a lift (R50 to R55) -/

/-- R51, R53: the permitted slab returns to LISTED at its index, the permit timer stops, and its pair
dissolves. -/
def State.undoPermit (s : State) (k : Crane) (id : SlabId) : State :=
  ((s.stopPermitTimer k).setPlace id .listed).dissolvePair id

/-- R50, R51: PERMIT_RETURN. -/
def rulePermitReturn (body : List Byte) (k : Crane) (s : State) : State × Response :=
  if body.length ≠ 4 || !validSlabId (field body 0 4) then refused s .range
  else if (s.crane k).custody.isSome then refused s .inCustody
  else match s.permitOf k with
    | none => refused s .state
    | some id =>
      if field body 0 4 ≠ id then refused s .mismatch
      else taken s ((s.undoPermit k id).logFault .sequence .permitReturned (some id) (some (cranePort k)))
        fun t => u32 id ++ u8 t.creditsFree

/-- PERMIT_RETURN (R50). -/
def execPermitReturn (p : Port) (body : List Byte) (s : State) : Host.Outcome State Fault Refusal :=
  request p .permitReturn (forCrane p (rulePermitReturn body)) s

/-- R53, R54: the lapse of crane `k`'s permit on a slab, with its fault; `notify` says whether the port
receives PERMIT_LAPSED. -/
def State.lapsePermit (s : State) (k : Crane) (id : SlabId) (notify : Bool) : State :=
  ((s.undoPermit k id).raiseWhen notify (cranePort k) CraneNotice.permitLapsed.bit).logFault .sequence .permitLapsed
    (some id) (some (cranePort k))

/-- R53: the expiry of crane `k`'s permit timer. A timer that is STOPPED has no expiry (R51, R55). -/
def State.permitExpiry (s : State) (k : Crane) : State :=
  match (s.crane k).permitTimer, s.permitOf k with
  | some _, some id => settle s (s.lapsePermit k id true)
  | _, _ => s

/-- PERMIT_TIMER_EXPIRY (R53). -/
def execPermitTimerExpiry (k : Crane) (s : State) : Host.Outcome State Fault Refusal :=
  event (fun t => t.permitExpiry k) s

/-! ### LANE_READ (R62) -/

/-- R62: the crane that holds the set-down reservation, 0 when it is free. -/
def State.reservationCrane (s : State) : Nat :=
  match s.reservation with
  | some r => craneNumber r.crane
  | none => 0

/-- R62: LANE_READ. -/
def ruleLaneRead (body : List Byte) (s : State) : State × Response :=
  if body.length ≠ 0 then refused s .range
  else (s, .done (u8 s.params.laneCapacity ++ u8 s.creditsFree ++ u8 (s.countPlaces Place.isPermitted) ++
    u8 (s.countPlaces Place.isLifted) ++ u8 (s.countPlaces Place.isAtEntry) ++ yesNo s.laneDoubt ++
    u8 s.headRow.code ++ u8 s.reservationCrane ++ idList s.lane))

/-- LANE_READ (R62). -/
def execLaneRead (p : Port) (body : List Byte) (s : State) : Host.Outcome State Fault Refusal :=
  request p .laneRead (ruleLaneRead body) s

end Sys2Proof.Machine
end

