-- ==== Sys2Proof/Machine/Custody.lean ====
section
/-!
DEFINITION. Machine/Custody.lean: LIFT_REPORT, SETDOWN_ASK, DEPOSIT_REPORT, SET_ASIDE_REPORT, the expiry of
the custody timer, and the loss of custody (chapter 4).
-/

namespace Sys2Proof.Machine

/-! ### LIFT_REPORT (R65 to R69) -/

/-- R66, R67: the slab becomes LIFTED with crane `k`, and custody begins. -/
def State.takeLift (s : State) (k : Crane) (id : SlabId) : State :=
  ((s.stopPermitTimer k).setPlace id (.lifted k false)).beginCustody k id

/-- R66: the DONE body; `result` is 0 for ACCEPTED and 1 for LATE_ACCEPTED. -/
def liftBody (result : Nat) (k : Crane) (id : SlabId) (t : State) : List Byte :=
  u8 result ++ u32 id ++ u8 (t.sequence.idxOf id) ++ u8 (roleCode (t.partner? id)) ++
    slabField ((t.partner? id).map fun q => q.id) ++ yesNo (t.carriesHead k)

/-- R67: a late lift that is accepted. -/
def State.lateLift (s : State) (k : Crane) (id : SlabId) : State :=
  (s.takeLift k id).logFault .sequence .lateLift (some id) (some (cranePort k))

/-- R68: a late lift of a LISTED slab that is refused makes it DOUBTFUL. -/
def State.lateLiftDoubt (s : State) (k : Crane) (id : SlabId) : State :=
  ((((s.dissolvePair id).leaveSequence id).makeDoubtful id (.lifted k)).logFault .lane .lateLiftDoubt (some id)
    (some (cranePort k))).raiseSupv .doubt

/-- R67, R68: a report from a crane that holds no permit. -/
def lateReport (k : Crane) (id : SlabId) (s : State) : State × Response :=
  match s.place? id with
  | none => refused s .unknownSlab
  | some .listed =>
    if s.firstListed = some id ∧ s.creditsFree ≠ 0 then taken s (s.lateLift k id) (liftBody 1 k id)
    else refused (settle s (s.lateLiftDoubt k id)) .late
  | some (.permitted _) => refused s .late
  | some (.lifted _ _) => refused s .late
  | some .onLane => refused s .state
  | some (.atEntry _ _) => refused s .state
  | some (.inFurnace _ _) => refused s .state
  | some (.doubtful _) => refused s .state

/-- R65: LIFT_REPORT. -/
def ruleLiftReport (body : List Byte) (k : Crane) (s : State) : State × Response :=
  if body.length ≠ 4 || !validSlabId (field body 0 4) then refused s .range
  else if (s.crane k).custody.isSome then refused s .inCustody
  else match s.permitOf k with
    | some id =>
      if field body 0 4 ≠ id then refused s .mismatch
      else taken s (s.takeLift k id) (liftBody 0 k id)
    | none => lateReport k (field body 0 4) s

/-- LIFT_REPORT (R65). -/
def execLiftReport (p : Port) (body : List Byte) (s : State) : Host.Outcome State Fault Refusal :=
  request p .liftReport (forCrane p (ruleLiftReport body)) s

/-! ### The custody timer (R70, R71) -/

/-- R71: an expiry of crane `k`'s custody timer on the slab it carries. -/
def State.overdue (s : State) (k : Crane) (id : SlabId) : State :=
  ((s.setPlace id (.lifted k true)).logFault .lane .custodyOverdue (some id) (some (cranePort k))).updateCrane k
    fun c => { c with custodyTimer := some (tenths s.params.custodyPeriod) }

/-- R71: the expiry of crane `k`'s custody timer. A timer that is STOPPED has no expiry. -/
def State.custodyExpiry (s : State) (k : Crane) : State :=
  match (s.crane k).custodyTimer, (s.crane k).custody with
  | some _, some id => s.overdue k id
  | _, _ => s

/-- CUSTODY_TIMER_EXPIRY (R71). -/
def execCustodyTimerExpiry (k : Crane) (s : State) : Host.Outcome State Fault Refusal :=
  event (fun t => t.custodyExpiry k) s

/-! ### SETDOWN_ASK (R73) -/

/-- R73: SETDOWN_ASK. -/
def ruleSetdownAsk (body : List Byte) (k : Crane) (s : State) : State × Response :=
  let id := field body 0 4
  if body.length ≠ 4 || !validSlabId id then refused s .range
  else if (s.crane k).custody ≠ some id then refused s .state
  else if s.laneDoubt then waits s .laneDoubtful []
  else if s.sequence.head? ≠ some id then waits s .turn []
  else ({ s with reservation := some ⟨k, id⟩ },
    .done (u8 0 ++ u32 id ++ u8 s.lane.length ++ u8 (s.lane.length + 1)))

/-- SETDOWN_ASK (R73). -/
def execSetdownAsk (p : Port) (body : List Byte) (s : State) : Host.Outcome State Fault Refusal :=
  request p .setdownAsk (forCrane p (ruleSetdownAsk body)) s

/-! ### DEPOSIT_REPORT (R75 to R77) -/

/-- R76: a deposit in turn. -/
def State.depositInTurn (s : State) (k : Crane) (id : SlabId) : State :=
  let t := s.endCustody k
  let u := if s.reservedFor k id then t.releaseReservation k
    else t.logFault .lane .depositUncleared (some id) (some (cranePort k))
  ((u.leaveSequence id).setPlace id .onLane).joinLaneTail id

/-- R77: the pair of the sequence head dissolves, if the head is a member of one. -/
def State.dissolveHeadPair (s : State) : State :=
  match s.sequence.head? with
  | some h => s.dissolvePair h
  | none => s

/-- R77: a deposit out of turn. -/
def State.depositOutOfTurn (s : State) (k : Crane) (id : SlabId) : State :=
  let t := (((s.endCustody k).dissolvePair id).dissolveHeadPair.leaveSequence id).setPlace id .onLane
  (({ t.joinLaneTail id with laneDoubt := true }).logFault .lane .outOfTurn (some id)
    (some (cranePort k))).raiseSupv .doubt

/-- R76, R77: the DONE body; `result` is 0 for IN_TURN and 1 for OUT_OF_TURN. -/
def depositBody (result : Nat) (id : SlabId) (t : State) : List Byte :=
  u8 result ++ u8 (t.lane.idxOf id + 1) ++ u8 t.creditsFree ++ u8 t.headRow.code

/-- R75: the checks that DEPOSIT_REPORT and SET_ASIDE_REPORT share; `none` when all pass. -/
def State.depositRefusal (s : State) (k : Crane) (body : List Byte) : Option RefuseReason :=
  if body.length ≠ 4 || !validSlabId (field body 0 4) then some .range
  else match (s.crane k).custody with
    | none => some .state
    | some id => if field body 0 4 = id then none else some .mismatch

/-- R75: DEPOSIT_REPORT. -/
def ruleDepositReport (body : List Byte) (k : Crane) (s : State) : State × Response :=
  let id := field body 0 4
  match s.depositRefusal k body with
  | some e => refused s e
  | none =>
    if s.sequence.head? = some id then taken s (s.depositInTurn k id) (depositBody 0 id)
    else taken s (s.depositOutOfTurn k id) (depositBody 1 id)

/-- DEPOSIT_REPORT (R75). -/
def execDepositReport (p : Port) (body : List Byte) (s : State) : Host.Outcome State Fault Refusal :=
  request p .depositReport (forCrane p (ruleDepositReport body)) s

/-! ### SET_ASIDE_REPORT (R78) -/

/-- R78: a set-aside: custody ends, a reservation of the crane is released, the slab returns to LISTED at its
index, and its pair is kept. -/
def State.setAside (s : State) (k : Crane) (id : SlabId) : State :=
  ((s.endCustody k).releaseReservation k).setPlace id .listed

/-- R78: SET_ASIDE_REPORT. -/
def ruleSetAsideReport (body : List Byte) (k : Crane) (s : State) : State × Response :=
  let id := field body 0 4
  match s.depositRefusal k body with
  | some e => refused s e
  | none => taken s (s.setAside k id) fun t => u32 id ++ u8 (t.sequence.idxOf id) ++ u8 t.creditsFree

/-- SET_ASIDE_REPORT (R78). -/
def execSetAsideReport (p : Port) (body : List Byte) (s : State) : Host.Outcome State Fault Refusal :=
  request p .setAsideReport (forCrane p (ruleSetAsideReport body)) s

/-! ### The loss of a crane port (R54, R80) -/

/-- R80: crane `k`'s custody of a slab is lost. -/
def State.custodyLost (s : State) (k : Crane) (id : SlabId) : State :=
  (((((s.endCustody k).releaseReservation k).dissolvePair id).leaveSequence id).makeDoubtful id (.lifted k)).logFault
    .lane .custodyLost (some id) (some (cranePort k)) |>.raiseSupv .doubt

/-- R54, R80: what crane `k` holds when its port is lost ends: a permit lapses without PERMIT_LAPSED, and
custody is lost. -/
def State.craneLost (s : State) (k : Crane) : State :=
  let t := match s.permitOf k with
    | some id => s.lapsePermit k id false
    | none => s
  match (t.crane k).custody with
  | some id => t.custodyLost k id
  | none => t

end Sys2Proof.Machine
end

