-- ==== Sys2Proof/Machine/FaultBanks.lean ====
section
/-!
DEFINITION. Machine/FaultBanks.lean: FAULT_READ, FAULT_CLEAR, THRESHOLD_SET and ADVISORY_ENABLE (sections 8.5
and 8.6).
-/

namespace Sys2Proof.Machine

/-- R155: the bank with that number. -/
def bankOfNumber : Nat → Option BankId
  | 0 => some .link
  | 1 => some .sequence
  | 2 => some .lane
  | 3 => some .furnace1
  | 4 => some .furnace2
  | 5 => some .furnace3
  | _ => none

/-- R155: the number of a bank. -/
def BankId.number : BankId → Nat
  | .link => 0
  | .sequence => 1
  | .lane => 2
  | .furnace1 => 3
  | .furnace2 => 4
  | .furnace3 => 5

/-- R159: severity, code, slab id, port and stamp; a bank that is not valid reads 0, 0, 0, 0xFF and 0. -/
def faultFields : Option FaultRecord → List Byte
  | none => u8 0 ++ u8 0 ++ u32 0 ++ u8 0xFF ++ u32 0
  | some r =>
    u8 r.severity.byte ++ u8 r.code.number ++ slabField r.slab ++ u8 ((r.port.map portNumber).getD 0xFF) ++
      u32 r.stamp.toNat

/-- R159, R176: the fault record, 16 bytes. -/
def Bank.bytes (b : Bank) (n : Nat) : List Byte :=
  u8 n ++ u8 (b.record.isSome.toNat + 2 * b.overflow.toNat + 4 * b.lossUnlogged.toNat + 8 * b.notified.toNat +
    16 * b.thresholdFlag.toNat) ++ faultFields b.record ++ u16 b.counter ++
    u8 (b.advisoryEnable.toNat + 2 * b.counting.toNat)

/-- R159, R160: the bank that a one-byte body names. -/
def namedBank (body : List Byte) : Option BankId := if body.length = 1 then bankOfNumber (field body 0 1) else none

/-- R159: FAULT_READ. -/
def ruleFaultRead (body : List Byte) (s : State) : State × Response :=
  match namedBank body with
  | none => refused s .range
  | some b => (s, .done ((s.banks.get b).bytes b.number))

/-- FAULT_READ (R159). -/
def execFaultRead (p : Port) (body : List Byte) (s : State) : Host.Outcome State Fault Refusal :=
  request p .faultRead (ruleFaultRead body) s

/-- R160: the record of a bank is cleared; the counter, the threshold flag and the enables stay. -/
def Bank.cleared (b : Bank) : Bank := { b with record := none, overflow := false, lossUnlogged := false, notified := false }

/-- R160: FAULT_CLEAR. -/
def ruleFaultClear (body : List Byte) (s : State) : State × Response :=
  match namedBank body with
  | none => refused s .range
  | some b => (s.updateBank b Bank.cleared, .done ((s.banks.get b).bytes b.number))

/-- FAULT_CLEAR (R160). -/
def execFaultClear (p : Port) (body : List Byte) (s : State) : Host.Outcome State Fault Refusal :=
  request p .faultClear (ruleFaultClear body) s

/-- R158: THRESHOLD_SET. -/
def ruleThresholdSet (body : List Byte) (s : State) : State × Response :=
  let start := field body 1 2
  let setting := field body 3 1
  if body.length ≠ 4 || decide (Config.maxCounter < start) || decide (1 < setting) then refused s .range
  else match bankOfNumber (field body 0 1) with
    | none => refused s .range
    | some b =>
      (s.updateBank b fun x => { x with counter := start, counting := setting == 1, thresholdFlag := false },
        .done (u8 b.number ++ u16 start ++ u8 setting))

/-- THRESHOLD_SET (R158). -/
def execThresholdSet (p : Port) (body : List Byte) (s : State) : Host.Outcome State Fault Refusal :=
  request p .thresholdSet (ruleThresholdSet body) s

/-- R157: ADVISORY_ENABLE. -/
def ruleAdvisoryEnable (body : List Byte) (s : State) : State × Response :=
  let setting := field body 1 1
  if body.length ≠ 2 || decide (1 < setting) then refused s .range
  else match bankOfNumber (field body 0 1) with
    | none => refused s .range
    | some b => (s.updateBank b fun x => { x with advisoryEnable := setting == 1 }, .done (u8 b.number ++ u8 setting))

/-- ADVISORY_ENABLE (R157). -/
def execAdvisoryEnable (p : Port) (body : List Byte) (s : State) : Host.Outcome State Fault Refusal :=
  request p .advisoryEnable (ruleAdvisoryEnable body) s

end Sys2Proof.Machine
end

