-- ==== Sys2Proof/Machine/FurnaceMaps.lean ====
section
/-!
DEFINITION. Machine/FurnaceMaps.lean: holds, walks, the running seconds and the residence clock, discharge,
the discharge log and MAP_READ (chapter 6).
-/

namespace Sys2Proof.Machine

/-! ### Holds (R107 to R111) -/

/-- R108: a hold set of `f` changed. -/
def State.changeHold (s : State) (f : Furnace) (g : HoldSet → HoldSet) : State :=
  s.updateFurnace f fun m => { m with hold := g m.hold }

/-- R110: the DONE body of HOLD_SET and HOLD_RELEASE. -/
def holdBody (f : Furnace) (t : State) : List Byte :=
  u8 (furnaceNumber f) ++ (t.furnace f).hold.byte ++ u8 (t.furnace f).status.code

/-- R110: what HOLD_SET and HOLD_RELEASE share; `on` says whether SUPV joins the hold set or leaves it. -/
def holdRequest (on : Bool) (body : List Byte) (s : State) : State × Response :=
  if body.length ≠ 1 then refused s .range
  else match s.configuredFurnace (field body 0 1) with
    | none => refused s .range
    | some f =>
      if s.mode = .config then refused s .state
      else taken s (s.changeHold f fun h => { h with supv := on }) (holdBody f)

/-- R110: HOLD_SET. -/
def ruleHoldSet (body : List Byte) (s : State) : State × Response := holdRequest true body s

/-- R110: HOLD_RELEASE. -/
def ruleHoldRelease (body : List Byte) (s : State) : State × Response := holdRequest false body s

/-- HOLD_SET (R110). -/
def execHoldSet (p : Port) (body : List Byte) (s : State) : Host.Outcome State Fault Refusal :=
  request p .holdSet (ruleHoldSet body) s

/-- HOLD_RELEASE (R110). -/
def execHoldRelease (p : Port) (body : List Byte) (s : State) : Host.Outcome State Fault Refusal :=
  request p .holdRelease (ruleHoldRelease body) s

/-! ### Walks (R112 to R114) -/

/-- R113, step 1: a row's rear edge after `c` walks. -/
def Row.moved (r : Row) (distance : Nat) : Row := { r with rear := r.rear + distance }

/-- R113, step 2: whether a row's far edge passes L. -/
def Row.passes (r : Row) (effectiveLength : Nat) : Bool := decide (effectiveLength < r.far)

/-- R113, step 2: a row whose far edge passes L is set back to L. -/
def Row.clamped (r : Row) (effectiveLength : Nat) : Row :=
  { r with rear := if r.passes effectiveLength then effectiveLength - r.width else r.rear }

/-- R113, steps 1 and 2: the rows after a walk of count `c`. -/
def FurnaceParams.walkedRows (fp : FurnaceParams) (c : Nat) (rows : List Row) : List Row :=
  rows.map fun r => (r.moved (c * fp.stroke)).clamped fp.effectiveLength

/-- R113, step 2: whether any row is clamped. -/
def FurnaceParams.walkClamps (fp : FurnaceParams) (c : Nat) (rows : List Row) : Bool :=
  rows.any fun r => (r.moved (c * fp.stroke)).passes fp.effectiveLength

/-- R113, step 3: the first slab of the older row of the first new overlap, counted from the newest. -/
def newOverlap : List Row → List Row → Option SlabId
  | a :: b :: before, c :: d :: after =>
    if rowsOverlap c d && !rowsOverlap a b then some d.slabA else newOverlap (b :: before) (d :: after)
  | _, _ => none

/-- The first slab of the front row. -/
def frontSlab (rows : List Row) : Option SlabId := rows.getLast?.map fun r => r.slabA

/-- R113: a walk of count `c` in furnace `f`, reported on port `p`. -/
def State.walk (s : State) (f : Furnace) (c : Nat) (p : Port) : State :=
  let fp := s.furnaceParams f
  let rows := (s.furnace f).rows
  let moved := fp.walkedRows c rows
  let t := s.updateFurnace f fun m => { m with rows := moved }
  let u := if fp.walkClamps c rows then t.logFurnace f .overtravel (frontSlab moved) (some p) else t
  match newOverlap rows moved with
  | some older => u.doubtFurnace f .overlap (some older) (some p)
  | none => u

/-- R114: a walk reported while the entry operation is CHARGING makes the furnace doubtful. -/
def State.walkDuringCharge (s : State) (f : Furnace) : State :=
  match (s.furnace f).op with
  | .charging a _ _ _ => s.doubtFurnace f .walkDuringCharge (some a) (some (furnacePort f))
  | .idle _ => s

/-- R112: the DONE body of a walk, given whether any row was clamped. The far edge takes two bytes, as a rear
edge does (log entry 29). -/
def walkBody (f : Furnace) (c : Nat) (clamped : Bool) (t : State) : List Byte :=
  let rows := (t.furnace f).rows
  u8 c ++ u8 rows.length ++ u16 ((rows.getLast?.map fun r => r.rear).getD 0) ++
    u16 ((rows.getLast?.map fun r => r.far).getD 0) ++ u8 ((t.furnaceParams f).walksAvailable rows) ++
    yesNo clamped ++ u8 (t.furnace f).status.code

/-- R112: WALK_REPORT. -/
def ruleWalkReport (body : List Byte) (f : Furnace) (s : State) : State × Response :=
  let c := field body 0 1
  if body.length ≠ 1 || decide (c < 1) || decide (8 < c) then refused s .range
  else taken s ((s.walk f c (furnacePort f)).walkDuringCharge f)
    (walkBody f c ((s.furnaceParams f).walkClamps c (s.furnace f).rows))

/-- WALK_REPORT (R112). -/
def execWalkReport (p : Port) (body : List Byte) (s : State) : Host.Outcome State Fault Refusal :=
  request p .walkReport (forFurnace p (ruleWalkReport body)) s

/-! ### The running seconds and the residence clock (R116, R117, R183) -/

/-- R116: a row gains one second of residence, up to 65,535 s. -/
def Row.aged (r : Row) : Row := { r with residence := min Config.maxResidence (r.residence + 1) }

/-- R116: every row of the map of `f` gains one second, and the soak check is made on its front row. -/
def State.ageMap (s : State) (f : Furnace) : State :=
  (s.updateFurnace f fun m => { m with rows := m.rows.map Row.aged }).soakCheck f

/-- R116, R183: the running seconds counter advances and every row of every map gains one second. -/
def State.advanceSeconds (s : State) : State :=
  State.ageMap (State.ageMap (State.ageMap { s with runningSeconds := s.runningSeconds + 1 } .f1) .f2) .f3

/-- RUNNING_SECONDS_ADVANCE (R116). -/
def execRunningSecondsAdvance (s : State) : Host.Outcome State Fault Refusal :=
  event State.advanceSeconds s

/-! ### Discharge (R118 to R122) -/

/-- R118: the front row is at stop. -/
def FurnaceParams.atStop (fp : FurnaceParams) (r : Row) : Bool := decide (fp.effectiveLength < r.far + fp.stroke)

/-- R118: the DONE body of DISCHARGE_ASK. For EMPTY the soak state follows from a residence and a target
that read 0 (log entry 12). The field remaining takes two bytes, as a residence does (log entry 29). -/
def State.dischargeAskBody (s : State) (f : Furnace) : List Byte :=
  let rows := (s.furnace f).rows
  let fp := s.furnaceParams f
  let tail := u8 rows.length ++ u8 (fp.walksAvailable rows) ++ u8 (s.furnace f).status.code
  match rows.getLast? with
  | none => u8 0 ++ u32 0 ++ u8 Side.single.code ++ u32 0 ++ u16 0 ++ u16 0 ++ u8 0 ++ u16 0 ++ yesNo false ++ tail
  | some r =>
    u8 1 ++ u32 r.slabA ++ u8 (if r.slabB.isSome then Side.left.code else Side.single.code) ++ slabField r.slabB ++
      u16 r.residence ++ u16 r.soakTarget ++ u8 (if r.soakTarget ≤ r.residence then 0 else 1) ++
      u16 (r.soakTarget - r.residence) ++ yesNo (fp.atStop r) ++ tail

/-- R118: DISCHARGE_ASK. -/
def ruleDischargeAsk (body : List Byte) (f : Furnace) (s : State) : State × Response :=
  if body.length ≠ 0 then refused s .range else (s, .done (s.dischargeAskBody f))

/-- DISCHARGE_ASK (R118). -/
def execDischargeAsk (p : Port) (body : List Byte) (s : State) : Host.Outcome State Fault Refusal :=
  request p .dischargeAsk (forFurnace p (ruleDischargeAsk body)) s

/-- R123: a full log drops its oldest record, sets the overrun flag and logs LOG_OVERRUN to the bank of `f`. -/
def State.makeRoom (s : State) (f : Furnace) : State :=
  if Config.maxLog ≤ s.log.length then
    State.logFurnace { s with log := s.log.drop 1, logOverrun := true } f .logOverrun (s.log.head?.map fun r => r.slab) none
  else s

/-- R123: a record joins the tail of the log; when the log held none, DISCHARGE is raised. -/
def State.pushDischarge (s : State) (f : Furnace) (r : DischargeRecord) : State :=
  State.raiseWhen { s.makeRoom f with log := (s.makeRoom f).log ++ [r] } s.log.isEmpty .p0 SupvNotice.discharge.bit

/-- R121: the discharge record of a slab of a row of `f`. -/
def State.dischargeRecord (s : State) (f : Furnace) (r : Row) (id : SlabId) (side : Side) : DischargeRecord where
  slab := id
  furnace := f
  side := side
  residence := r.residence
  soakTarget := r.soakTarget
  underheat := decide (r.residence < r.soakTarget)
  doubtfulMap := (s.furnace f).doubt
  edited := ((s.slab? id).map fun x => x.edited).getD false
  stamp := s.runningSeconds

/-- R120, step 3: the record of a slab enters the log, and then the slab is freed. -/
def State.dischargeSlab (s : State) (f : Furnace) (r : Row) (x : SlabId × Side) : State :=
  (s.pushDischarge f (s.dischargeRecord f r x.1 x.2)).freeSlab x.1

/-- R120: the discharge of the front row `r` of `f`. -/
def State.dischargeFront (s : State) (f : Furnace) (r : Row) : State :=
  let t := s.updateFurnace f fun m => { m with rows := m.rows.dropLast }
  let u := if r.residence < r.soakTarget then t.logFurnace f .underheat (some r.slabA) (some (furnacePort f)) else t
  ((slabsWithSides r.slabA r.slabB).foldl (fun v x => v.dischargeSlab f r x) u).soakCheck f

/-- R120: the log drops a record to take those of the row. -/
def dropsRecord (s : State) (r : Row) : Bool :=
  decide (Config.maxLog < s.log.length + (slabsWithSides r.slabA r.slabB).length)

/-- R120: the DONE body of DISCHARGE_REPORT. -/
def dischargeBody (f : Furnace) (r : Row) (dropped : Bool) (t : State) : List Byte :=
  u32 r.slabA ++ slabField r.slabB ++ u16 r.residence ++ u16 r.soakTarget ++
    yesNo (decide (r.residence < r.soakTarget)) ++ u8 (t.furnace f).rows.length ++ u8 t.log.length ++ yesNo dropped

/-- R119, R120: DISCHARGE_REPORT. -/
def ruleDischargeReport (body : List Byte) (f : Furnace) (s : State) : State × Response :=
  let id := field body 0 4
  if body.length ≠ 4 || id == Config.allOnes then refused s .range
  else match (s.furnace f).rows.getLast? with
    | none => refused (s.logFurnace f .dischargeEmpty none (some (furnacePort f))) .empty
    | some r =>
      if id ≠ 0 && !r.holds id then
        refused (settle s (s.doubtFurnace f .dischargeMismatch (some id) (some (furnacePort f)))) .mismatch
      else taken s (s.dischargeFront f r) (dischargeBody f r (dropsRecord s r))

/-- DISCHARGE_REPORT (R119). -/
def execDischargeReport (p : Port) (body : List Byte) (s : State) : Host.Outcome State Fault Refusal :=
  request p .dischargeReport (forFurnace p (ruleDischargeReport body)) s

/-! ### DISCHARGE_TAKE (R124) -/

/-- R176: the 15 bytes of a discharge record as DISCHARGE_TAKE returns it, with the records left and the
overrun flag before the take. -/
def DischargeRecord.bytes (r : DischargeRecord) (left : Nat) (overrun : Bool) : List Byte :=
  u32 r.slab ++ u8 (furnaceNumber r.furnace) ++ u8 r.side.code ++ u16 r.residence ++ u16 r.soakTarget ++
    u8 (r.underheat.toNat + 2 * r.doubtfulMap.toNat + 4 * r.edited.toNat + 8 * left + 128 * overrun.toNat) ++
    u32 r.stamp.toNat

/-- R124: DISCHARGE_TAKE. -/
def ruleDischargeTake (body : List Byte) (s : State) : State × Response :=
  let c := field body 0 1
  if body.length ≠ 1 || decide (c < 1) || decide (4 < c) then refused s .range
  else ({ s with log := s.log.drop c, logOverrun := false },
    .done ((s.log.take c).flatMap fun r => r.bytes (s.log.drop c).length s.logOverrun))

/-- DISCHARGE_TAKE (R124). -/
def execDischargeTake (p : Port) (body : List Byte) (s : State) : Host.Outcome State Fault Refusal :=
  request p .dischargeTake (ruleDischargeTake body) s

/-! ### MAP_READ (R125) -/

/-- R125: a row entry of MAP_READ. -/
def Row.bytes (r : Row) : List Byte :=
  rowSlabs r.slabA r.slabB ++ u16 r.rear ++ u16 r.width ++ u16 r.residence ++ u16 r.soakTarget ++ yesNo r.soakNotified

/-- R125: the DONE body of MAP_READ. -/
def State.mapReadBody (s : State) (f : Furnace) (start : Nat) : List Byte :=
  let m := s.furnace f
  let page := (m.rows.drop start).take 2
  u8 (furnaceNumber f) ++ u8 m.status.code ++ m.hold.byte ++ u8 m.op.isCharging.toNat ++ u8 m.rows.length ++
    u8 start ++ u8 page.length ++ page.flatMap Row.bytes

/-- R125: a furnace port reads its own map alone; a body without a furnace byte names none. A byte that is not the
number of the port's own furnace fails, also one that is the number of no furnace (0, or above 3), so that it is
answered ROLE and not RANGE (DESIGN CHOICE, log entry 33). -/
def mayReadMap (p : Port) (body : List Byte) : Bool :=
  match portFurnace p with
  | some f => body.isEmpty || furnaceNumber f == field body 0 1
  | none => true

/-- R125: MAP_READ, its two refusals in the order in which the rule lists them (log entry 22). -/
def ruleMapRead (p : Port) (body : List Byte) (s : State) : State × Response :=
  let start := field body 1 1
  if !mayReadMap p body then refused s .role
  else if body.length ≠ 2 then refused s .range
  else match s.configuredFurnace (field body 0 1) with
    | none => refused s .range
    | some f => if 47 < start then refused s .range else (s, .done (s.mapReadBody f start))

/-- MAP_READ (R125). -/
def execMapRead (p : Port) (body : List Byte) (s : State) : Host.Outcome State Fault Refusal :=
  request p .mapRead (ruleMapRead p body) s

end Sys2Proof.Machine
end

