-- ==== Sys2Proof/Machine/Ports.lean ====
section
/-!
DEFINITION. Machine/Ports.lean: HELLO, PARK, the notice requests, and the expiry of the silence timer
(sections 9.4 and 9.5).
-/

namespace Sys2Proof.Machine

/-! ### HELLO (R170) -/

/-- R170, steps 1 to 4: the port becomes ACTIVE, its notice set is emptied, its mask filled, its timer armed. -/
def State.openPort (s : State) (p : Port) : State :=
  s.updatePort p fun q =>
    { q with link := .active, notices := 0, mask := roleKinds (portRole p), silence := s.armedSilence p }

/-- R108, R170, step 5: for a furnace port, PORT_PARKED and PORT_LOST leave the hold set. -/
def State.unparkFurnace (s : State) (p : Port) : State :=
  match portFurnace p with
  | some f => s.changeHold f fun h => { h with portParked := false, portLost := false }
  | none => s

/-- R72, R130, R170, step 5: TURN to a crane that carries the head, ROW_READY to a furnace that is ready. -/
def State.greet (s : State) (p : Port) : State :=
  match portCrane p, portFurnace p with
  | some k, _ => s.raiseWhen (s.carriesHead k) p CraneNotice.turn.bit
  | none, some f => s.raiseWhen (s.ready f) p FurnaceNotice.rowReady.bit
  | none, none => s

/-- R170: the state after a HELLO on port `p`. -/
def State.hello (s : State) (p : Port) : State := (settle s ((s.openPort p).unparkFurnace p)).greet p

/-- R170: the crane or furnace index of a port, 0 for SUPV. -/
def portIndex (p : Port) : Nat :=
  match portCrane p, portFurnace p with
  | some k, _ => craneNumber k
  | none, some f => furnaceNumber f
  | none, none => 0

/-- R170: the DONE body of HELLO, given the link state before it. -/
def helloBody (p : Port) (before : LinkState) (t : State) : List Byte :=
  u8 (portNumber p) ++ u8 (roleNumber (portRole p)) ++ u8 (portIndex p) ++ u8 t.mode.code ++ u8 before.code ++ [(t.port p).notices]

/-- R170: HELLO. -/
def ruleHello (p : Port) (body : List Byte) (s : State) : State × Response :=
  if body.length ≠ 0 then refused s .range else (s.hello p, .done (helloBody p (s.port p).link (s.hello p)))

/-- HELLO (R170). -/
def execHello (p : Port) (body : List Byte) (s : State) : Host.Outcome State Fault Refusal :=
  request p .hello (ruleHello p body) s

/-! ### PARK (R79, R140, R171) -/

/-- R171: the reasons of PARK_NACK. -/
inductive ParkRefusal where
  | role
  | custody
  | charging
deriving DecidableEq, Repr

/-- R175: ROLE, CUSTODY, CHARGING, in the order of R171. -/
def ParkRefusal.code : ParkRefusal → Nat
  | .role => 0
  | .custody => 1
  | .charging => 2

/-- R171: why a PARK on port `p` is answered PARK_NACK; `none` when it is answered PARK_ACK. -/
def State.parkRefusal (s : State) (p : Port) : Option ParkRefusal :=
  match portCrane p, portFurnace p with
  | some k, _ => if s.craneHoldsNothing k && !s.holdsReservation k then none else some .custody
  | none, some f => if (s.furnace f).op.isCharging then some .charging else none
  | none, none => some .role

/-- R171: the port becomes PARKED and its silence timer stops; for a furnace port, PORT_PARKED joins the
hold set. -/
def State.parkPort (s : State) (p : Port) : State :=
  let t := s.updatePort p fun q => { q with link := .parked, silence := none }
  match portFurnace p with
  | some f => t.changeHold f fun h => { h with portParked := true }
  | none => t

/-- R171: PARK. PARK_NACK is 0 and carries its reason; PARK_ACK is 1. -/
def rulePark (p : Port) (body : List Byte) (s : State) : State × Response :=
  if body.length ≠ 0 then refused s .range
  else match s.parkRefusal p with
    | some e => (s, .done (u8 0 ++ u8 e.code))
    | none => taken s (s.parkPort p) fun _ => u8 1

/-- PARK (R171). -/
def execPark (p : Port) (body : List Byte) (s : State) : Host.Outcome State Fault Refusal :=
  request p .park (rulePark p body) s

/-! ### The notice requests (R174) -/

/-- R174: NOTICE_READ. -/
def ruleNoticeRead (p : Port) (body : List Byte) (s : State) : State × Response :=
  if body.length ≠ 0 then refused s .range else (s, .done [(s.port p).notices, (s.port p).mask])

/-- NOTICE_READ (R174). -/
def execNoticeRead (p : Port) (body : List Byte) (s : State) : Host.Outcome State Fault Refusal :=
  request p .noticeRead (ruleNoticeRead p body) s

/-- R174: a kinds byte that names kinds of the port's role alone. -/
def kindsInRole (p : Port) (kinds : Byte) : Bool := kinds &&& ~~~(roleKinds (portRole p)) == 0

/-- R174: NOTICE_CLEAR. -/
def ruleNoticeClear (p : Port) (body : List Byte) (s : State) : State × Response :=
  let kinds := byteAt body 0
  if body.length ≠ 1 || !kindsInRole p kinds then refused s .range
  else (s.updatePort p fun q => { q with notices := q.notices &&& ~~~kinds }, .done [(s.port p).notices &&& ~~~kinds])

/-- NOTICE_CLEAR (R174). -/
def execNoticeClear (p : Port) (body : List Byte) (s : State) : Host.Outcome State Fault Refusal :=
  request p .noticeClear (ruleNoticeClear p body) s

/-- R174: NOTICE_MASK. -/
def ruleNoticeMask (p : Port) (body : List Byte) (s : State) : State × Response :=
  let kinds := byteAt body 0
  if body.length ≠ 1 || !kindsInRole p kinds then refused s .range
  else (s.updatePort p fun q => { q with mask := kinds }, .done [kinds, (s.port p).notices])

/-- NOTICE_MASK (R174). -/
def execNoticeMask (p : Port) (body : List Byte) (s : State) : Host.Outcome State Fault Refusal :=
  request p .noticeMask (ruleNoticeMask p body) s

/-! ### The loss of a port (R172) -/

/-- R108, R172: the loss of furnace `f`'s port; in RUN alone it touches the furnace. -/
def State.controllerLost (s : State) (f : Furnace) : State :=
  if s.mode = .run then
    (s.changeHold f fun h => { h with portLost := true }).doubtFurnace f .controllerLost none (some (furnacePort f))
  else s

/-- R172, step 4: the role effects of the loss of port `p`. -/
def State.roleLoss (s : State) (p : Port) : State :=
  match portCrane p, portFurnace p with
  | some k, _ => s.craneLost k
  | none, some f => s.controllerLost f
  | none, none => s

/-- R172: the loss of port `p`. -/
def State.losePort (s : State) (p : Port) : State :=
  (((s.updatePort p fun q => { q with link := .lost, silence := none }).logFault .link .portSilent none (some p)).raiseWhen
    (p != .p0) .p0 SupvNotice.portLost.bit).roleLoss p

/-- R172: the expiry of the silence timer of `p`. It runs while the port is ACTIVE; a timer that is stopped
has no expiry. -/
def State.silenceExpiry (s : State) (p : Port) : State :=
  if (s.port p).link = .active ∧ (s.port p).silence ≠ none then settle s (s.losePort p) else s

/-- SILENCE_TIMER_EXPIRY (R172). -/
def execSilenceTimerExpiry (p : Port) (s : State) : Host.Outcome State Fault Refusal :=
  event (fun t => t.silenceExpiry p) s

end Sys2Proof.Machine
end

