-- ==== Sys2Proof/Machine/SlabRegister.lean ====
section
/-!
DEFINITION. Machine/SlabRegister.lean: SLAB_ANNOUNCE (with SEQ_INSERT) and SLAB_READ (chapter 1).
-/

namespace Sys2Proof.Machine

/-! ### SLAB_ANNOUNCE (R9 to R15, R27) -/

/-- R9, R176: the fields of an 18-byte SLAB_ANNOUNCE body. -/
structure Announcement where
  id : Nat
  length : Nat
  width : Nat
  thickness : Nat
  heatingClass : Byte
  tempClass : Nat
  destination : Nat
  pairable : Nat
  position : Nat
deriving DecidableEq, Repr

/-- R176: the announcement that a body carries. -/
def announcementOf (body : List Byte) : Announcement where
  id := field body 0 4
  length := field body 4 2
  width := field body 6 2
  thickness := field body 8 2
  heatingClass := byteAt body 10
  tempClass := field body 11 1
  destination := field body 12 1
  pairable := field body 13 1
  position := field body 14 4

/-- R11: the record that an announcement within its ranges describes, LISTED and fresh (R14, R89). -/
def State.announcedRecord (s : State) (a : Announcement) : Option SlabRecord :=
  if validSlabId a.id && decide (1500 ≤ a.length ∧ a.length ≤ 5200) && decide (900 ≤ a.width ∧ a.width ≤ 2500)
      && decide (120 ≤ a.thickness ∧ a.thickness ≤ 450) && decide (a.pairable ≤ 1)
      && decide (a.position < Config.allOnes) then
    match tempClassOf a.tempClass, s.configuredFurnace a.destination with
    | some t, some f =>
      some { id := a.id, length := a.length, width := a.width, thickness := a.thickness, heatingClass := a.heatingClass,
             tempClass := t, destination := f, pairable := a.pairable == 1, place := .listed, partner := none,
             edited := false, pairingTested := false, pairDissolved := false, requeuedTested := false, parted := [] }
    | _, _ => none
  else none

/-- R10, checks 6 and 7, R13: where the entry would stand, or the refusal. Position 0 is the tail. -/
def State.announceIndex (s : State) (position : Nat) : Except RefuseReason Nat :=
  if Config.maxSequence ≤ s.sequence.length then .error .full
  else if position = 0 then .ok s.sequence.length
  else if position ∉ s.sequence then .error .unknownSlab
  else if s.isFixed position then .error .orderFixed
  else .ok (s.sequence.idxOf position)

/-- R10: the seven checks in their order, with the record and the index when all pass. -/
def State.announceChecks (s : State) (a : Announcement) : Except RefuseReason (SlabRecord × Nat) :=
  if Config.maxSlabs ≤ s.liveCount then .error .full
  else if s.live a.id then .error .duplicate
  else match s.announcedRecord a with
    | none => .error .range
    | some r =>
      if !(s.furnaceParams r.destination).sizeFits r.length then .error .size
      else if !(s.furnaceParams r.destination).admits r.heatingClass then .error .admission
      else match s.announceIndex a.position with
        | .error e => .error e
        | .ok i => .ok (r, i)

/-- R14: the record is created and its entry joins the sequence. -/
def State.createSlab (s : State) (r : SlabRecord) (i : Nat) : State :=
  { s.joinSequence i r.id with register := insertRecord r s.register }

/-- R9, R10, R14: SLAB_ANNOUNCE. -/
def ruleSlabAnnounce (body : List Byte) (s : State) : State × Response :=
  if s.mode = .config then refused s .state
  else if body.length ≠ 18 then refused s .range
  else match s.announceChecks (announcementOf body) with
    | .error e => refused s e
    | .ok (r, i) => taken s (s.createSlab r i) fun t => u32 r.id ++ u8 i ++ u8 t.sequence.length ++ u16 t.liveCount

/-- SLAB_ANNOUNCE (R9). -/
def execSlabAnnounce (p : Port) (body : List Byte) (s : State) : Host.Outcome State Fault Refusal :=
  request p .slabAnnounce (ruleSlabAnnounce body) s

/-! ### SLAB_READ (R18, R19) -/

/-- R19: the row of a map that holds the slab, with the number of rows between it and the front. -/
def State.rowOf (s : State) (f : Furnace) (id : SlabId) : Option (Row × Nat) :=
  let rows := (s.furnace f).rows
  (rows.find? fun r => r.holds id).map fun r => (r, rows.length - 1 - rows.findIdx fun x => x.holds id)

/-- R19: crane and custody overdue. -/
def Place.craneFields : Place → List Byte
  | .permitted k => u8 (craneNumber k) ++ yesNo false
  | .lifted k overdue => u8 (craneNumber k) ++ yesNo overdue
  | _ => u8 0 ++ yesNo false

/-- R19: fixed and sequence index of an entry of the sequence; absent fields read no and 0. -/
def State.sequenceFields (s : State) (id : SlabId) : List Byte :=
  if id ∈ s.sequence then yesNo (s.isFixed id) ++ u8 (s.sequence.idxOf id) else yesNo false ++ u8 0

/-- R19: the lane place, 1 at the head. -/
def State.laneField (s : State) (id : SlabId) : List Byte :=
  u8 (if id ∈ s.lane then s.lane.idxOf id + 1 else 0)

/-- R19, R4: furnace and side; absent, they read 0 and SINGLE. -/
def Place.furnaceFields : Place → List Byte
  | .atEntry f side => u8 (furnaceNumber f) ++ u8 side.code
  | .inFurnace f side => u8 (furnaceNumber f) ++ u8 side.code
  | _ => u8 0 ++ u8 Side.single.code

/-- R19: partner id and role. -/
def partnerFields (q : Option Partner) : List Byte := slabField (q.map fun x => x.id) ++ u8 (roleCode q)

/-- R19: rear edge, row width, rows ahead, residence, soak target and soak notified of the slab's row. -/
def rowFields (x : Option (Row × Nat)) : List Byte :=
  match x with
  | some (r, ahead) =>
    u16 r.rear ++ u16 r.width ++ u8 ahead ++ u16 r.residence ++ u16 r.soakTarget ++ yesNo r.soakNotified
  | none => u16 0 ++ u16 0 ++ u8 0 ++ u16 0 ++ u16 0 ++ yesNo false

/-- The row of an IN_FURNACE slab. -/
def State.rowOfPlace (s : State) (id : SlabId) : Place → Option (Row × Nat)
  | .inFurnace f _ => s.rowOf f id
  | _ => none

/-- R19: the last known state and its details, crane, furnace and side (log entry 11). -/
def Place.lastKnownFields : Place → List Byte
  | .doubtful (.lifted k) => u8 (Place.code (.lifted k false)) ++ u8 (craneNumber k) ++ u8 0 ++ u8 Side.single.code
  | .doubtful (.atEntry f side) => u8 (Place.code (.atEntry f side)) ++ u8 0 ++ u8 (furnaceNumber f) ++ u8 side.code
  | .doubtful (.inFurnace f side) => u8 (Place.code (.inFurnace f side)) ++ u8 0 ++ u8 (furnaceNumber f) ++ u8 side.code
  | _ => u8 0 ++ u8 0 ++ u8 0 ++ u8 Side.single.code

/-- R19: the DONE body of SLAB_READ. -/
def State.slabReadBody (s : State) (r : SlabRecord) : List Byte :=
  r.description ++ u8 r.place.code ++ r.place.craneFields ++ s.sequenceFields r.id ++ s.laneField r.id ++
    r.place.furnaceFields ++ partnerFields r.partner ++ rowFields (s.rowOfPlace r.id r.place) ++
    r.place.lastKnownFields ++ yesNo r.edited

/-- R18: SLAB_READ. -/
def ruleSlabRead (body : List Byte) (s : State) : State × Response :=
  if body.length ≠ 4 || !validSlabId (field body 0 4) then refused s .range
  else match s.slab? (field body 0 4) with
    | none => refused s .unknownSlab
    | some r => (s, .done (s.slabReadBody r))

/-- SLAB_READ (R18). -/
def execSlabRead (p : Port) (body : List Byte) (s : State) : Host.Outcome State Fault Refusal :=
  request p .slabRead (ruleSlabRead body) s

end Sys2Proof.Machine
end

