-- ==== Sys2Proof/Machine/Sequence.lean ====
section
/-!
DEFINITION. Machine/Sequence.lean: SEQ_MOVE, SEQ_WITHDRAW and SEQ_READ (chapter 2).
-/

namespace Sys2Proof.Machine

/-! ### SEQ_MOVE (R28 to R31) -/

/-- R29: checks 2 to 6 of SEQ_MOVE; `none` when all pass. Position 0 is the tail. -/
def State.moveRefusal (s : State) (id position : Nat) : Option RefuseReason :=
  if !s.live id then some .unknownSlab
  else if id ∉ s.sequence then some .state
  else if s.isFixed id then some .orderFixed
  else if position = 0 then none
  else if position ∉ s.sequence then some .unknownSlab
  else if s.isFixed position then some .orderFixed
  else none

/-- R30: the order after the move. A move before the slab itself leaves the order as it was. -/
def movedOrder (seq : List SlabId) (id position : Nat) : List SlabId :=
  if position = id then seq
  else
    let rest := seq.filter fun x => x != id
    let i := if position = 0 then rest.length else rest.idxOf position
    rest.take i ++ id :: rest.drop i

/-- R28, R29, R30: SEQ_MOVE. -/
def ruleSeqMove (body : List Byte) (s : State) : State × Response :=
  let id := field body 0 4
  let position := field body 4 4
  if s.mode = .config then refused s .state
  else if body.length ≠ 8 || !validSlabId id || position == Config.allOnes then refused s .range
  else match s.moveRefusal id position with
    | some e => refused s e
    | none => taken s { s with sequence := movedOrder s.sequence id position } fun t =>
        u32 id ++ u8 (t.sequence.idxOf id) ++ u8 t.sequence.length

/-- SEQ_MOVE (R28). -/
def execSeqMove (p : Port) (body : List Byte) (s : State) : Host.Outcome State Fault Refusal :=
  request p .seqMove (ruleSeqMove body) s

/-! ### SEQ_WITHDRAW (R32 to R36) -/

/-- R33: the withdrawal of a LISTED slab: its pair dissolves, its entry leaves, its record is freed. -/
def State.withdrawListed (s : State) (id : SlabId) : State :=
  ((s.dissolvePair id).leaveSequence id).freeSlab id

/-- R34: the withdrawal of a slab PERMITTED to crane `k`: its permit timer stops, PERMIT_LAPSED goes to the
crane's port, and the slab is withdrawn. -/
def State.withdrawPermitted (s : State) (id : SlabId) (k : Crane) : State :=
  ((s.stopPermitTimer k).raiseCrane k .permitLapsed).withdrawListed id

/-- R33: the DONE body, with the state withdrawn, the crane number and the former partner. -/
def withdrawBody (r : SlabRecord) (crane : Nat) (t : State) : List Byte :=
  u32 r.id ++ u8 r.place.code ++ u8 crane ++ slabField (r.partner.map fun q => q.id) ++ u8 t.sequence.length ++
    u8 t.listedCount ++ u16 t.liveCount

/-- R32: SEQ_WITHDRAW. -/
def ruleSeqWithdraw (body : List Byte) (s : State) : State × Response :=
  if s.mode = .config then refused s .state
  else if body.length ≠ 4 || !validSlabId (field body 0 4) then refused s .range
  else match s.slab? (field body 0 4) with
    | none => refused s .unknownSlab
    | some r =>
      match r.place with
      | .listed => taken s (s.withdrawListed r.id) (withdrawBody r 0)
      | .permitted k => taken s (s.withdrawPermitted r.id k) (withdrawBody r (craneNumber k))
      | .lifted _ _ => refused s .inCustody
      | .onLane | .atEntry _ _ | .inFurnace _ _ | .doubtful _ => refused s .state

/-- SEQ_WITHDRAW (R32). -/
def execSeqWithdraw (p : Port) (body : List Byte) (s : State) : Host.Outcome State Fault Refusal :=
  request p .seqWithdraw (ruleSeqWithdraw body) s

/-! ### SEQ_READ (R38) -/

/-- R38, R144: a page of up to 12 ids from the start index. -/
def pageOf (ids : List SlabId) (start : Nat) : List SlabId := (ids.drop start).take 12

/-- R38: SEQ_READ. -/
def ruleSeqRead (body : List Byte) (s : State) : State × Response :=
  let start := field body 0 1
  if body.length ≠ 1 || decide (63 < start) then refused s .range
  else (s, .done (u8 s.sequence.length ++ u8 s.listedCount ++ u8 s.fixedSpan ++ u8 start ++
    idList (pageOf s.sequence start)))

/-- SEQ_READ (R38). -/
def execSeqRead (p : Port) (body : List Byte) (s : State) : Host.Outcome State Fault Refusal :=
  request p .seqRead (ruleSeqRead body) s

end Sys2Proof.Machine
end

