-- ==== Sys2Proof/Machine/Doubt.lean ====
section
/-!
DEFINITION. Machine/Doubt.lean: DOUBT_LIST, the four outcomes of SLAB_RESOLVE, ROW_REMOVE, MAP_WALK,
ROW_SHIFT, CONFIRM_FURNACE and CONFIRM_LANE (chapter 8).
-/

namespace Sys2Proof.Machine

/-! ### DOUBT_LIST (R144) -/

/-- R144: DOUBT_LIST. -/
def ruleDoubtList (body : List Byte) (s : State) : State × Response :=
  let start := field body 0 2
  if body.length ≠ 2 || decide (383 < start) then refused s .range
  else (s, .done (u16 s.doubtfulCount ++ u16 start ++ idList (pageOf s.doubtList start)))

/-- DOUBT_LIST (R144). -/
def execDoubtList (p : Port) (body : List Byte) (s : State) : Host.Outcome State Fault Refusal :=
  request p .doubtList (ruleDoubtList body) s

/-! ### SLAB_RESOLVE (R145 to R149) -/

/-- R145: the DONE body of REMOVE. -/
def removeBody (id : SlabId) (t : State) : List Byte := u32 id ++ u8 2 ++ u16 t.liveCount ++ u16 t.doubtfulCount

/-- R145: the REMOVE outcome. -/
def resolveRemove (id : SlabId) (s : State) : State × Response := taken s (s.freeSlab id) (removeBody id)

/-- R146: the slab becomes LISTED and joins the sequence directly behind the fixed span, which is the head
when the span is empty. A slab that had been permitted before it became doubtful is noted as one to be charged
single. -/
def State.requeue (s : State) (id : SlabId) : State :=
  ((s.resolveTo id .listed).updateSlab id SlabRecord.requeued).joinSequence s.fixedSpan id

/-- R146: the REQUEUE outcome. -/
def resolveRequeue (id : SlabId) (s : State) : State × Response :=
  if Config.maxSequence ≤ s.sequence.length then refused s .full
  else taken s (s.requeue id) fun t => u32 id ++ u8 0 ++ u8 s.fixedSpan ++ u8 t.sequence.length

/-- R147: the TO_LANE_TAIL outcome. -/
def resolveToLaneTail (id : SlabId) (s : State) : State × Response :=
  if s.creditsFree = 0 then refused s .full
  else taken s ((s.resolveTo id .onLane).joinLaneTail id) fun t =>
    u32 id ++ u8 1 ++ u8 (t.lane.idxOf id + 1) ++ u8 t.creditsFree ++ u8 t.headRow.code

/-- R148: the fields of a PLACE body after the slab id and the outcome. `side` is the side of the first
slab, 0 SINGLE, 1 LEFT, 2 RIGHT; `second` is 0 for a single row. -/
structure Placing where
  furnace : Nat
  rear : Nat
  residence : Nat
  second : Nat
  side : Nat
deriving DecidableEq, Repr

/-- R148: the placing that a 15-byte body carries. -/
def placingOf (body : List Byte) : Placing where
  furnace := field body 5 1
  rear := field body 6 2
  residence := field body 8 2
  second := field body 10 4
  side := field body 14 1

/-- R148, check 1: the fields of a placing are in range. -/
def Placing.inRange (q : Placing) (id : SlabId) : Bool :=
  decide (q.side ≤ 2) && q.second != Config.allOnes && q.second != id && (q.side == 0) == (q.second == 0)

/-- R148, R149: the single or LEFT slab of the row, and the RIGHT slab of a row of two. -/
def Placing.slabs (q : Placing) (id : SlabId) : SlabId × Option SlabId :=
  if q.second = 0 then (id, none) else if q.side = 1 then (id, some q.second) else (q.second, some id)

/-- R148, checks 2 and 3: the second slab is live and DOUBTFUL. -/
def State.secondRefusal (s : State) (second : Nat) : Option RefuseReason :=
  if second = 0 then none
  else match s.place? second with
    | none => some .unknownSlab
    | some pl => if pl.isDoubtful then none else some .state

/-- R148: the row's place in the list, before the first row whose rear edge is greater than `rear`. -/
def placeIndex (rows : List Row) (rear : Nat) : Nat := rows.findIdx fun r => decide (rear < r.rear)

/-- R128, R148, check 4: the rows that count against the limit of 48 for an insertion other than the
operation's own CHARGE_END. -/
def FurnaceState.rowsHeld (m : FurnaceState) : Nat := m.rows.length + m.op.isCharging.toNat

/-- R148, check 5: the row fits across the hearth. -/
def FurnaceParams.rowFits (fp : FurnaceParams) (rs : List SlabRecord) : Bool :=
  match rs with
  | [r] => fp.sizeFits r.length
  | [r, q] => fp.doubleRow && fp.pairFits r.length q.length
  | _ => false

/-- R148, check 7, R152, check 4: a row from `rear` to `far` overlaps neither neighbour. -/
def clearOfNeighbours (newer older : Option Row) (rear far : Nat) : Bool :=
  (match newer with
    | some n => decide (n.far ≤ rear)
    | none => true) &&
  (match older with
    | some o => decide (far ≤ o.rear)
    | none => true)

/-- R148, check 7: the row at its place in the list overlaps neither neighbour. -/
def placeIsClear (rows : List Row) (rear far : Nat) : Bool :=
  clearOfNeighbours (if placeIndex rows rear = 0 then none else rows[placeIndex rows rear - 1]?)
    rows[placeIndex rows rear]? rear far

/-- R148: the checks of PLACE for slab `id`, with the furnace when all pass. -/
def State.placeChecks (s : State) (id : SlabId) (q : Placing) : Except RefuseReason Furnace :=
  match s.configuredFurnace q.furnace with
  | none => .error .range
  | some f =>
    if !q.inRange id then .error .range
    else match s.secondRefusal q.second with
      | some e => .error e
      | none =>
        let rs := s.rowRecords (q.slabs id).1 (q.slabs id).2
        if Config.maxRows ≤ (s.furnace f).rowsHeld then .error .full
        else if !(s.furnaceParams f).rowFits rs then .error .range
        else if (s.furnaceParams f).effectiveLength < q.rear + rowWidth rs then .error .range
        else if !placeIsClear (s.furnace f).rows q.rear (q.rear + rowWidth rs) then .error .range
        else .ok f

/-- R149, step 1: the row that a placing lays. -/
def State.placedRow (s : State) (f : Furnace) (a : SlabId) (b : Option SlabId) (q : Placing) : Row where
  slabA := a
  slabB := b
  rear := q.rear
  width := rowWidth (s.rowRecords a b)
  residence := q.residence
  soakTarget := (s.furnaceParams f).soakTarget (s.rowRecords a b)
  soakNotified := false

/-- R5, R149: the two slabs of a placed row form a pair, LEFT as FIRST and RIGHT as SECOND. -/
def State.formRowPair (s : State) (a : SlabId) (b : Option SlabId) : State :=
  match b with
  | some c => s.formPair a c
  | none => s

/-- R149: a placing is taken: the row joins the list, its slabs become IN_FURNACE and edited, a pair of two
forms, and the soak check is made when the row is now the front row. -/
def State.placeRow (s : State) (f : Furnace) (a : SlabId) (b : Option SlabId) (q : Placing) : State :=
  let rows := (s.furnace f).rows
  let i := placeIndex rows q.rear
  let t := s.updateFurnace f fun m => { m with rows := rows.take i ++ s.placedRow f a b q :: rows.drop i }
  let u := ((slabsWithSides a b).foldl (fun v x => v.resolveTo x.1 (.inFurnace f x.2)) t).formRowPair a b
  if i = rows.length then u.soakCheck f else u

/-- R149: the DONE body of PLACE. -/
def placeBody (f : Furnace) (row : Row) (i : Nat) (t : State) : List Byte :=
  rowSlabs row.slabA row.slabB ++ u8 i ++ u8 (t.furnace f).rows.length ++ u16 row.soakTarget

/-- R148, R149: the PLACE outcome. -/
def resolvePlace (body : List Byte) (id : SlabId) (s : State) : State × Response :=
  let q := placingOf body
  let slabs := q.slabs id
  match s.placeChecks id q with
  | .error e => refused s e
  | .ok f => taken s (s.placeRow f slabs.1 slabs.2 q)
      (placeBody f (s.placedRow f slabs.1 slabs.2 q) (placeIndex (s.furnace f).rows q.rear))

/-- R145, check 1: the outcome byte, the length of the body for it, and the slab id are in range. -/
def resolveInRange (body : List Byte) : Bool :=
  decide (field body 4 1 ≤ 3) && decide (5 ≤ body.length) &&
    body.length == (if field body 4 1 = 3 then 15 else 5) && validSlabId (field body 0 4)

/-- R145: SLAB_RESOLVE, by its outcome byte. -/
def ruleSlabResolve (body : List Byte) (s : State) : State × Response :=
  let id := field body 0 4
  if s.mode = .config then refused s .state
  else if !resolveInRange body then refused s .range
  else match s.place? id with
    | none => refused s .unknownSlab
    | some pl =>
      if !pl.isDoubtful then refused s .state
      else match field body 4 1 with
        | 0 => resolveRequeue id s
        | 1 => resolveToLaneTail id s
        | 2 => resolveRemove id s
        | _ => resolvePlace body id s

/-- R145: the body of a SLAB_RESOLVE of a slab with an outcome byte and what follows it. -/
def resolveBody (slab : Word32) (outcome : Byte) (extra : List Byte) : List Byte :=
  u32 slab.toNat ++ outcome :: extra

/-- SLAB_RESOLVE_REQUEUE (R146): SLAB_RESOLVE with outcome 0. -/
def execSlabResolveRequeue (p : Port) (slab : Word32) (extra : List Byte) (s : State) : Host.Outcome State Fault Refusal :=
  request p .slabResolve (ruleSlabResolve (resolveBody slab 0x00 extra)) s

/-- SLAB_RESOLVE_TO_LANE_TAIL (R147): SLAB_RESOLVE with outcome 1. -/
def execSlabResolveToLaneTail (p : Port) (slab : Word32) (extra : List Byte) (s : State) : Host.Outcome State Fault Refusal :=
  request p .slabResolve (ruleSlabResolve (resolveBody slab 0x01 extra)) s

/-- SLAB_RESOLVE_REMOVE (R145): SLAB_RESOLVE with outcome 2. -/
def execSlabResolveRemove (p : Port) (slab : Word32) (extra : List Byte) (s : State) : Host.Outcome State Fault Refusal :=
  request p .slabResolve (ruleSlabResolve (resolveBody slab 0x02 extra)) s

/-- SLAB_RESOLVE_PLACE (R148, R149): SLAB_RESOLVE with outcome 3. -/
def execSlabResolvePlace (p : Port) (slab : Word32) (extra : List Byte) (s : State) : Host.Outcome State Fault Refusal :=
  request p .slabResolve (ruleSlabResolve (resolveBody slab 0x03 extra)) s

/-! ### ROW_REMOVE (R150) -/

/-- R150, R152: checks 2 and 3, the slab is IN_FURNACE in `f`; with its row when both pass. -/
def State.rowInFurnace (s : State) (f : Furnace) (id : SlabId) : Except RefuseReason Row :=
  match s.place? id with
  | none => .error .unknownSlab
  | some (.inFurnace g _) =>
    if g = f then
      match (s.furnace f).rows.find? fun r => r.holds id with
      | some r => .ok r
      | none => .error .state
    else .error .state
  | some _ => .error .state

/-- R150: the row that holds the slab leaves the list of `f`, and its slabs become DOUBTFUL. -/
def State.removeRow (s : State) (f : Furnace) (row : Row) : State :=
  let rows := (s.furnace f).rows
  let t := s.updateFurnace f fun m => { m with rows := rows.filter fun r => !r.holds row.slabA }
  let u := (slabsWithSides row.slabA row.slabB).foldl (fun v x => v.makeDoubtful x.1 (.inFurnace f x.2)) t
  (if frontSlab rows = some row.slabA then u.soakCheck f else u).raiseSupv .doubt

/-- R150: the DONE body of ROW_REMOVE. -/
def rowRemoveBody (f : Furnace) (r : Row) (t : State) : List Byte :=
  rowSlabs r.slabA r.slabB ++ u16 r.rear ++ u16 r.width ++ u16 r.residence ++ u16 r.soakTarget ++
    yesNo r.soakNotified ++ u8 (t.furnace f).rows.length

/-- R150: ROW_REMOVE. -/
def ruleRowRemove (body : List Byte) (s : State) : State × Response :=
  if s.mode = .config then refused s .state
  else if body.length ≠ 5 || !validSlabId (field body 1 4) then refused s .range
  else match s.configuredFurnace (field body 0 1) with
    | none => refused s .range
    | some f =>
      match s.rowInFurnace f (field body 1 4) with
      | .error e => refused s e
      | .ok row =>
        if (s.furnace f).op.isCharging then refused s .state
        else taken s (s.removeRow f row) (rowRemoveBody f row)

/-- ROW_REMOVE (R150). -/
def execRowRemove (p : Port) (body : List Byte) (s : State) : Host.Outcome State Fault Refusal :=
  request p .rowRemove (ruleRowRemove body) s

/-! ### MAP_WALK (R151) -/

/-- R151: MAP_WALK. -/
def ruleMapWalk (body : List Byte) (s : State) : State × Response :=
  let c := field body 1 1
  if s.mode = .config then refused s .state
  else if body.length ≠ 2 || decide (c < 1) || decide (8 < c) then refused s .range
  else match s.configuredFurnace (field body 0 1) with
    | none => refused s .range
    | some f =>
      taken s (s.walk f c .p0) (walkBody f c ((s.furnaceParams f).walkClamps c (s.furnace f).rows))

/-- MAP_WALK (R151). -/
def execMapWalk (p : Port) (body : List Byte) (s : State) : Host.Outcome State Fault Refusal :=
  request p .mapWalk (ruleMapWalk body) s

/-! ### ROW_SHIFT (R152) -/

/-- R152, check 4: the row of slab `id` may stand at `rear` between its neighbours. -/
def shiftIsClear (rows : List Row) (id : SlabId) (rear width : Nat) : Bool :=
  let i := rows.findIdx fun r => r.holds id
  decide (rear + width ≤ 65535) &&
    clearOfNeighbours (if i = 0 then none else rows[i - 1]?) rows[i + 1]? rear (rear + width)

/-- R152: the rear edge of the row that holds the slab becomes `rear`. -/
def State.shiftRow (s : State) (f : Furnace) (id : SlabId) (rear : Nat) : State :=
  s.updateFurnace f fun m => { m with rows := m.rows.map fun r => if r.holds id then { r with rear := rear } else r }

/-- R152: ROW_SHIFT. -/
def ruleRowShift (body : List Byte) (s : State) : State × Response :=
  let id := field body 1 4
  let rear := field body 5 2
  if s.mode = .config then refused s .state
  else if body.length ≠ 7 || !validSlabId id then refused s .range
  else match s.configuredFurnace (field body 0 1) with
    | none => refused s .range
    | some f =>
      match s.rowInFurnace f id with
      | .error e => refused s e
      | .ok row =>
        if !shiftIsClear (s.furnace f).rows id rear row.width then refused s .range
        else if decide ((s.furnaceParams f).effectiveLength < rear + row.width) && !(s.furnace f).doubt then refused s .range
        else (s.shiftRow f id rear, .done (u32 id ++ u16 row.rear ++ u16 rear ++
          u8 ((s.furnaceParams f).walksAvailable ((s.shiftRow f id rear).furnace f).rows)))

/-- ROW_SHIFT (R152). -/
def execRowShift (p : Port) (body : List Byte) (s : State) : Host.Outcome State Fault Refusal :=
  request p .rowShift (ruleRowShift body) s

/-! ### Confirmation (R153, R154) -/

/-- R153: the map of `f` may be confirmed: its record is not CHARGING, no two adjacent rows overlap, and the
front row ends within L. -/
def State.confirmable (s : State) (f : Furnace) : Bool :=
  !(s.furnace f).op.isCharging && !anyOverlap (s.furnace f).rows &&
    (match (s.furnace f).rows.getLast? with
      | some r => decide (r.far ≤ (s.furnaceParams f).effectiveLength)
      | none => true)

/-- R153: CONFIRM_FURNACE. -/
def ruleConfirmFurnace (body : List Byte) (s : State) : State × Response :=
  if s.mode = .config then refused s .state
  else if body.length ≠ 1 then refused s .range
  else match s.configuredFurnace (field body 0 1) with
    | none => refused s .range
    | some f =>
      if !s.confirmable f then refused s .state
      else taken s (s.updateFurnace f fun m => { m with doubt := false }) fun t =>
        u8 (furnaceNumber f) ++ u8 (t.furnace f).status.code ++ (t.furnace f).hold.byte

/-- CONFIRM_FURNACE (R153). -/
def execConfirmFurnace (p : Port) (body : List Byte) (s : State) : Host.Outcome State Fault Refusal :=
  request p .confirmFurnace (ruleConfirmFurnace body) s

/-- R154: CONFIRM_LANE. -/
def ruleConfirmLane (body : List Byte) (s : State) : State × Response :=
  if s.mode = .config then refused s .state
  else if body.length ≠ 0 then refused s .range
  else taken s { s with laneDoubt := false } fun t => u8 t.lane.length ++ u8 t.headRow.code ++ u8 t.creditsFree

/-- CONFIRM_LANE (R154). -/
def execConfirmLane (p : Port) (body : List Byte) (s : State) : Host.Outcome State Fault Refusal :=
  request p .confirmLane (ruleConfirmLane body) s

end Sys2Proof.Machine
end

