-- ==== Sys2Proof/Machine/Store.lean ====
section
/-!
DEFINITION. Machine/Store.lean: the parameter requests, START, the retained store, power-on, RESTART,
recovery, CLEAR_ALL, loss of power, the reset record and STATUS (chapter 10). The retained store is the
retained part of State itself, since each event's changes are retained as the event is taken (R180).
-/

namespace Sys2Proof.Machine

/-! ### Parameters (R177, R178) -/

/-- R178: PARAM_READ. -/
def ruleParamRead (body : List Byte) (s : State) : State × Response :=
  if body.length ≠ 2 then refused s .range
  else match paramOfNumber (field body 0 2) with
    | none => refused s .range
    | some q => (s, .done (u16 (field body 0 2) ++ u32 (s.params.value q) ++ u32 q.limits.1 ++ u32 q.limits.2))

/-- PARAM_READ (R178). -/
def execParamRead (p : Port) (body : List Byte) (s : State) : Host.Outcome State Fault Refusal :=
  request p .paramRead (ruleParamRead body) s

/-- R84, R94, R178, steps 3 to 6: the refusal of a write of the clamped value `v`. -/
def State.writeRefusal (s : State) (q : ParamId) (v : Nat) : Option RefuseReason :=
  match q with
  | .craneCount | .furnaceCount => if s.mode = .config then none else some .state
  | .laneCapacity => if v < s.creditsHeld then some .inUse else none
  | .furnace f g =>
    if !g.isGeometry then none
    else if !(s.furnace f).rows.isEmpty || (s.furnace f).op.isCharging then some .inUse
    else if !s.geometryPasses f g ((s.furnaceParams f).write g v) then some .inUse
    else none
  | .lowWater | .pairWidthDifference | .pairThicknessDifference => none
  | .permitPeriod | .custodyPeriod | .chargePeriod | .supvSilence | .craneSilence | .furnaceSilence => none

/-- R162: a port whose presence changes takes the state of a port that is not present, or of one newly
present, which are the same. -/
def PortState.afterPresence (q : PortState) (before after : Bool) : PortState := if before = after then q else .fresh

/-- R162, R178: the parameter takes the value, and ports go into or out of presence in the same event. -/
def State.writeParam (s : State) (q : ParamId) (v : Nat) : State :=
  let t := { s with params := s.params.write q v }
  let change := fun (p : Port) (x : PortState) => x.afterPresence (s.present p) (t.present p)
  { t with ports := ⟨change .p0 s.ports.p0, change .p1 s.ports.p1, change .p2 s.ports.p2, change .p3 s.ports.p3,
      change .p4 s.ports.p4, change .p5 s.ports.p5⟩ }

/-- R178: PARAM_WRITE. The result is 0 for STORED and 1 for CLAMPED. -/
def ruleParamWrite (body : List Byte) (s : State) : State × Response :=
  let v := field body 2 4
  if body.length ≠ 6 then refused s .range
  else match paramOfNumber (field body 0 2) with
    | none => refused s .range
    | some q =>
      match s.writeRefusal q (q.clamp v) with
      | some e => refused s e
      | none => taken s (s.writeParam q (q.clamp v)) fun _ => u8 (if q.clamp v = v then 0 else 1) ++ u32 (q.clamp v)

/-- PARAM_WRITE (R178). -/
def execParamWrite (p : Port) (body : List Byte) (s : State) : Host.Outcome State Fault Refusal :=
  request p .paramWrite (ruleParamWrite body) s

/-! ### START (R179) -/

/-- R179: the first configured furnace whose geometry fails the check of START. -/
def State.inconsistentFurnace (s : State) : Option Furnace :=
  s.configured.find? fun f => !(s.furnaceParams f).sizeFits 1500

/-- R179: START. -/
def ruleStart (body : List Byte) (s : State) : State × Response :=
  if body.length ≠ 0 then refused s .range
  else if s.mode = .run then refused s .state
  else match s.inconsistentFurnace with
    | some f => (s, .refuse .inconsistent (u16 (hearthWidthNumber f)))
    | none => ({ s with mode := .run },
      .done (u8 Mode.run.code ++ u8 s.params.craneCount ++ u8 s.params.furnaceCount ++ u32 s.runningSeconds.toNat))

/-- START (R179). -/
def execStart (p : Port) (body : List Byte) (s : State) : Host.Outcome State Fault Refusal :=
  request p .start (ruleStart body) s

/-! ### Start-up (R180, R181) -/

/-- R167: what a selection in progress becomes when the machine of its port enters IDLE under it. -/
def Selection.dropped : Selection → Selection
  | .released => .released
  | .taken | .ignored => .ignored

/-- R81, R167, R173, R181: every port takes its start values; `keepSel` keeps the SEL lines as the masters
drive them, so that a selection in progress goes on and is ignored. Otherwise they start released (log entry 26). -/
def ByPort.fresh (v : ByPort PortState) (keepSel : Bool) : ByPort PortState :=
  let g := fun (q : PortState) => { PortState.fresh with sel := if keepSel then q.sel.dropped else .released }
  ⟨g v.p0, g v.p1, g v.p2, g v.p3, g v.p4, g v.p5⟩

/-- R181: PORT_PARKED and PORT_LOST leave the hold set of a furnace, and its charge timer stops. -/
def FurnaceState.restarted (m : FurnaceState) : FurnaceState :=
  { m with chargeTimer := none, hold := { m.hold with portParked := false, portLost := false } }

/-- R181: the state that is not retained takes its start values. -/
def State.coldStart (s : State) (keepSel : Bool) : State :=
  { s with
    subSecond := 0
    reservation := none
    cranes := ⟨.fresh, .fresh⟩
    furnaces := ⟨s.furnaces.f1.restarted, s.furnaces.f2.restarted, s.furnaces.f3.restarted⟩
    banks := ⟨.fresh, .fresh, .fresh, .fresh, .fresh, .fresh⟩
    ports := s.ports.fresh keepSel }

/-- R180, R181, R182: every tracked list, map, record and log is empty, every doubt flag is clear, and every
parameter is at its default in mode CONFIG. -/
def State.erased (s : State) : State :=
  { s with
    mode := .config
    params := .default
    register := []
    doubtList := []
    sequence := []
    lane := []
    laneDoubt := false
    furnaces := ⟨.fresh, .fresh, .fresh⟩
    log := []
    logOverrun := false }

/-- R181, recovery, steps 1 and 4: every PERMITTED slab returns to LISTED and its pair dissolves. -/
def State.recoverPermits (s : State) : State :=
  s.sequence.foldl (fun t id =>
    match t.place? id with
    | some (.permitted _) => (t.setPlace id .listed).dissolvePair id
    | _ => t) s

/-- R181, recovery, steps 2 and 4: every LIFTED slab, from the sequence head towards the tail, leaves the
sequence and becomes DOUBTFUL. -/
def State.recoverCustody (s : State) : State :=
  s.sequence.foldl (fun t id =>
    match t.place? id with
    | some (.lifted k _) => (t.leaveSequence id).makeDoubtful id (.lifted k)
    | _ => t) s

/-- R141, R181, recovery, steps 3 and 4: the slabs of a CHARGING operation of `f` become DOUBTFUL, and the
record becomes IDLE with timed out no. -/
def State.recoverEntry (s : State) (f : Furnace) : State :=
  let t : State := match (s.furnace f).op with
    | .charging a b _ _ => (slabsWithSides a b).foldl (fun v x => v.makeDoubtful x.1 (.atEntry f x.2)) s
    | .idle _ => s
  t.updateFurnace f fun m => { m with op := .idle false, chargeTimer := none }

/-- R181, recovery, step 5: a furnace whose map holds a row becomes doubtful. No DOUBT is raised. -/
def State.recoverDoubt (s : State) (f : Furnace) : State :=
  if (s.furnace f).rows.isEmpty then s
  else (s.updateFurnace f fun m => { m with doubt := true }).logFurnace f .furnaceRecovery none none

/-- R181: recovery. -/
def State.recover (s : State) : State :=
  let t := State.recoverEntry (State.recoverEntry (State.recoverEntry s.recoverPermits.recoverCustody .f1) .f2) .f3
  let u := State.logFault { t with laneDoubt := true } .lane .laneRecovery none none
  State.recoverDoubt (State.recoverDoubt (State.recoverDoubt u .f1) .f2) .f3

/-- R181: start-up. The state that is not retained takes its start values, and the part goes on according
to the store. -/
def State.startUp (s : State) (keepSel : Bool) : State :=
  let t := s.coldStart keepSel
  if !t.storeWritten then { t.erased with runningSeconds := 0, storeWritten := true }
  else match t.mode with
    | .config => t
    | .run => t.recover

/-- R181, R183: power-on sets POWER_ON in the reset record and clears the other two. -/
def State.powerUp (s : State) : State :=
  { s.startUp false with powered := true, resetRecord := ⟨true, false, false⟩ }

/-- POWER_ON (R181). -/
def execPowerOn (s : State) : Host.Outcome State Fault Refusal := .next s.powerUp

/-- LOSS_OF_POWER (R180): the retained store keeps what it holds, and all else is lost. Until the next
power-on the state that is not retained stands at its start values (log entry 4). -/
def execLossOfPower (s : State) : Host.Outcome State Fault Refusal :=
  event (fun t => { t.coldStart false with powered := false }) s

/-! ### RESTART, CLEAR_ALL and the reset record (R181 to R183) -/

/-- R181, R183: RESTART takes start-up without loss of power and sets RESTART in the reset record. -/
def State.restart (s : State) : State :=
  { s.startUp true with resetRecord := { s.resetRecord with restart := true } }

/-- R181: RESTART. -/
def ruleRestart (body : List Byte) (s : State) : State × Response :=
  if body.length ≠ 0 then refused s .range
  else (s.restart, .done (u8 s.restart.mode.code ++ s.restart.resetRecord.byte ++ u16 s.restart.doubtfulCount ++
    u32 s.restart.runningSeconds.toNat))

/-- RESTART (R181). -/
def execRestart (p : Port) (body : List Byte) (s : State) : Host.Outcome State Fault Refusal :=
  request p .restart (ruleRestart body) s

/-- R182: a crane or furnace port is ACTIVE. -/
def State.anyControllerActive (s : State) : Bool :=
  [Port.p1, Port.p2, Port.p3, Port.p4, Port.p5].any fun p => (s.port p).link == .active

/-- R182: the erasure of CLEAR_ALL. The fault banks, the running seconds and the reset record are kept, the
latter gaining CLEAR_ALL. -/
def State.clearAll (s : State) : State :=
  { s.erased with
    reservation := none
    cranes := ⟨.fresh, .fresh⟩
    ports := s.ports.fresh true
    resetRecord := { s.resetRecord with clearAll := true } }

/-- R182: CLEAR_ALL. -/
def ruleClearAll (body : List Byte) (s : State) : State × Response :=
  if body.length ≠ 0 then refused s .range
  else if s.anyControllerActive then refused s .state
  else (s.clearAll, .done (u8 s.clearAll.mode.code ++ s.clearAll.resetRecord.byte))

/-- CLEAR_ALL (R182). -/
def execClearAll (p : Port) (body : List Byte) (s : State) : Host.Outcome State Fault Refusal :=
  request p .clearAll (ruleClearAll body) s

/-- R183: RESET_RECORD_CLEAR. -/
def ruleResetRecordClear (body : List Byte) (s : State) : State × Response :=
  if body.length ≠ 0 then refused s .range
  else ({ s with resetRecord := ⟨false, false, false⟩ }, .done (ResetRecord.byte ⟨false, false, false⟩))

/-- RESET_RECORD_CLEAR (R183). -/
def execResetRecordClear (p : Port) (body : List Byte) (s : State) : Host.Outcome State Fault Refusal :=
  request p .resetRecordClear (ruleResetRecordClear body) s

/-! ### STATUS (R184) -/

/-- R184: the DONE body of STATUS for the asking port. -/
def State.statusBody (s : State) (p : Port) : List Byte :=
  u8 s.mode.code ++ s.resetRecord.byte ++ u8 (s.port p).link.code ++ u8 s.creditsFree ++ u8 s.lane.length ++
    yesNo s.laneDoubt ++ u8 s.params.furnaceCount ++
    (s.configured.flatMap fun f => u8 (s.furnace f).status.code ++ u8 (s.furnace f).rows.length) ++
    u16 s.doubtfulCount ++ u32 s.runningSeconds.toNat

/-- R184: STATUS. -/
def ruleStatus (p : Port) (body : List Byte) (s : State) : State × Response :=
  if body.length ≠ 0 then refused s .range else (s, .done (s.statusBody p))

/-- STATUS (R184). -/
def execStatus (p : Port) (body : List Byte) (s : State) : Host.Outcome State Fault Refusal :=
  request p .status (ruleStatus p body) s

end Sys2Proof.Machine
end

