-- ==== Sys2Proof/Machine/Exchange.lean ====
section
/-!
DEFINITION. Machine/Exchange.lean: the exchange machine of a port (section 9.2). Each event is taken on a
port that is present (R162); an event whose rule asks for another state of the machine than the one it finds
is none of that port's, and changes nothing (log entry 2).
-/

namespace Sys2Proof.Machine

/-- An event on port `p`: a port that is not present ignores SEL and shifts nothing (R162). -/
def portEvent (p : Port) (g : State → State) (s : State) : Host.Outcome State Fault Refusal :=
  event (fun t => if t.present p then g t else t) s

/-- The machine of port `p` and its SEL line changed. -/
def State.setExchange (s : State) (p : Port) (x : Exchange) (sel : Selection) : State :=
  s.updatePort p fun q => { q with exchange := x, sel := sel }

/-- R165: FRAME_WHILE_BUSY is logged at the assertion of SEL in PROCESSING. -/
def State.logBusy (s : State) (p : Port) : State := s.logFault .link .frameWhileBusy none (some p)

/-- R163 to R166: SEL is asserted on port `p`. In IDLE the machine enters RECEIVING; a selection made in
PROCESSING is logged and ignored until its release; in RESPONSE_READY nothing follows before the first clock
edge. -/
def State.assertSel (s : State) (p : Port) : State :=
  if (s.port p).sel ≠ .released then s
  else match (s.port p).exchange with
    | .idle => s.setExchange p (.receiving [] 0) .taken
    | .processing kept count => (s.logBusy p).setExchange p (.processing kept count) .ignored
    | .responseReady frame => s.setExchange p (.responseReady frame) .taken
    | .receiving _ _ | .reading _ => s

/-- SEL_ASSERT (R164). -/
def execSelAssert (p : Port) (s : State) : Host.Outcome State Fault Refusal := portEvent p (fun t => t.assertSel p) s

/-- R164: of all bytes received the first 63 are kept, and every one is counted. -/
def keepBytes (kept : List Byte) (bytes : List Byte) : List Byte := (kept ++ bytes).take Config.maxFrame

/-- R172: a good frame re-arms the silence timer of an ACTIVE port. -/
def State.rearm (s : State) (p : Port) (good : Bool) : State :=
  s.updatePort p fun q => { q with silence := if good && q.link == .active then s.armedSilence p else q.silence }

/-- R164, R169, R172: SEL is released in RECEIVING after these bytes. A release in IDLE, PROCESSING or
RESPONSE_READY ends a selection that the part ignored (R165, R166, R167). -/
def State.endFrame (s : State) (p : Port) (bytes : List Byte) : State :=
  match (s.port p).exchange with
  | .receiving kept count =>
    (s.setExchange p (.processing (keepBytes kept bytes) (count + bytes.length)) .released).rearm p
      (goodFrame (keepBytes kept bytes) (count + bytes.length))
  | .reading _ => s
  | x => s.setExchange p x .released

/-- FRAME_END (R164): the bits of a partial byte are dropped. -/
def execFrameEnd (p : Port) (bytes : List Byte) (_partialBits : Nat) (s : State) : Host.Outcome State Fault Refusal :=
  portEvent p (fun t => t.endFrame p bytes) s

/-- FRAME_WHILE_BUSY (R165): a selection made during PROCESSING. -/
def execFrameWhileBusy (p : Port) (s : State) : Host.Outcome State Fault Refusal :=
  portEvent p (fun t =>
    match (t.port p).exchange with
    | .processing _ _ => t.logBusy p
    | _ => t) s

/-- R166: a selection in RESPONSE_READY is a readout, and RDY drops. A selection that the part ignores is
none (R165), and the model leaves RDY high through it (log entry 31). -/
def State.beginReadout (s : State) (p : Port) : State :=
  match (s.port p).exchange with
  | .responseReady frame => if (s.port p).sel = .ignored then s else s.setExchange p (.reading frame) .taken
  | _ => s

/-- READOUT (R166): the machine is in READING, with RDY low. -/
def execReadout (p : Port) (s : State) : Host.Outcome State Fault Refusal := portEvent p (fun t => t.beginReadout p) s

/-- R166: a first byte other than 0x00 in RESPONSE_READY: the response is discarded, and the byte is byte 0 of
a new frame. A first byte of 0x00 is a readout. A selection that the part ignores shifts nothing in (R165). -/
def State.discardResponse (s : State) (p : Port) (first : Byte) : State :=
  match (s.port p).exchange with
  | .responseReady _ =>
    if first = 0 then s.beginReadout p
    else if (s.port p).sel = .ignored then s
    else (s.logFault .link .responseDiscarded none (some p)).setExchange p (.receiving [first] 1) .taken
  | _ => s

/-- RESPONSE_DISCARDED (R166). -/
def execResponseDiscarded (p : Port) (first : Byte) (s : State) : Host.Outcome State Fault Refusal :=
  portEvent p (fun t => t.discardResponse p first) s

/-- READOUT_END (R166): the response is discarded and the machine enters IDLE. A release outside RECEIVING
and READING ends a selection that the part ignored (R165, R166, R167). -/
def execReadoutEnd (p : Port) (s : State) : Host.Outcome State Fault Refusal :=
  portEvent p (fun t =>
    match (t.port p).exchange with
    | .reading _ => t.setExchange p .idle .released
    | .receiving _ _ => t
    | x => t.setExchange p x .released) s

/-- R165, R176: the rule that owns a request kind. -/
def ruleOf (p : Port) (body : List Byte) : Kind → State → State × Response
  | .hello => ruleHello p body
  | .status => ruleStatus p body
  | .noticeRead => ruleNoticeRead p body
  | .noticeClear => ruleNoticeClear p body
  | .noticeMask => ruleNoticeMask p body
  | .park => rulePark p body
  | .mapRead => ruleMapRead p body
  | .slabAnnounce => ruleSlabAnnounce body
  | .slabRead => ruleSlabRead body
  | .seqMove => ruleSeqMove body
  | .seqWithdraw => ruleSeqWithdraw body
  | .seqRead => ruleSeqRead body
  | .laneRead => ruleLaneRead body
  | .holdSet => ruleHoldSet body
  | .holdRelease => ruleHoldRelease body
  | .dischargeTake => ruleDischargeTake body
  | .slabResolve => ruleSlabResolve body
  | .doubtList => ruleDoubtList body
  | .rowRemove => ruleRowRemove body
  | .mapWalk => ruleMapWalk body
  | .rowShift => ruleRowShift body
  | .confirmFurnace => ruleConfirmFurnace body
  | .confirmLane => ruleConfirmLane body
  | .faultRead => ruleFaultRead body
  | .faultClear => ruleFaultClear body
  | .thresholdSet => ruleThresholdSet body
  | .advisoryEnable => ruleAdvisoryEnable body
  | .paramRead => ruleParamRead body
  | .paramWrite => ruleParamWrite body
  | .start => ruleStart body
  | .restart => ruleRestart body
  | .clearAll => ruleClearAll body
  | .resetRecordClear => ruleResetRecordClear body
  | .permitAsk => forCrane p (rulePermitAsk body)
  | .permitReturn => forCrane p (rulePermitReturn body)
  | .liftReport => forCrane p (ruleLiftReport body)
  | .setdownAsk => forCrane p (ruleSetdownAsk body)
  | .depositReport => forCrane p (ruleDepositReport body)
  | .setAsideReport => forCrane p (ruleSetAsideReport body)
  | .chargeAsk => forFurnace p (ruleChargeAsk body)
  | .chargeBegin => forFurnace p (ruleChargeBegin body)
  | .chargeEnd => forFurnace p (ruleChargeEnd body)
  | .chargeAbort => forFurnace p (ruleChargeAbort body)
  | .walkReport => forFurnace p (ruleWalkReport body)
  | .dischargeAsk => forFurnace p (ruleDischargeAsk body)
  | .dischargeReport => forFurnace p (ruleDischargeReport body)

/-- R169: the judgement of the frame held on port `p`, with the answer to it. -/
def judgeFrame (p : Port) (kept : List Byte) (count : Nat) (s : State) : State × Response :=
  if !goodFrame kept count then s.refuseFrame p
  else match kindOfCode (byteAt kept 0) with
    | none => s.refuseKind p
    | some k => judged p k (ruleOf p (frameBody kept) k) s

/-- PROCESSING_END (R165). -/
def execProcessingEnd (p : Port) (s : State) : Host.Outcome State Fault Refusal :=
  portEvent p (fun t =>
    match (t.port p).exchange with
    | .processing kept count => answered p (judgeFrame p kept count t)
    | _ => t) s

end Sys2Proof.Machine
end

