-- ==== Sys2Proof/Machine/Dispatch.lean ====
section
/-!
DEFINITION. Machine/Dispatch.lean: the meaning of each command, one arm per constructor.
-/

namespace Sys2Proof.Machine

/-- The effect of a command on everything but the queue. -/
def exec (i : Instr) (s : State) : Host.Outcome State Fault Refusal :=
  match i with
  | .powerOn => Sys2Proof.Machine.execPowerOn s
  | .runningSecondsAdvance => Sys2Proof.Machine.execRunningSecondsAdvance s
  | .permitTimerExpiry k => Sys2Proof.Machine.execPermitTimerExpiry k s
  | .custodyTimerExpiry k => Sys2Proof.Machine.execCustodyTimerExpiry k s
  | .chargeTimerExpiry f => Sys2Proof.Machine.execChargeTimerExpiry f s
  | .silenceTimerExpiry p => Sys2Proof.Machine.execSilenceTimerExpiry p s
  | .selAssert p => Sys2Proof.Machine.execSelAssert p s
  | .frameEnd p bytes partialBits => Sys2Proof.Machine.execFrameEnd p bytes partialBits s
  | .processingEnd p => Sys2Proof.Machine.execProcessingEnd p s
  | .frameWhileBusy p => Sys2Proof.Machine.execFrameWhileBusy p s
  | .readout p => Sys2Proof.Machine.execReadout p s
  | .responseDiscarded p first => Sys2Proof.Machine.execResponseDiscarded p first s
  | .readoutEnd p => Sys2Proof.Machine.execReadoutEnd p s
  | .hello p body => Sys2Proof.Machine.execHello p body s
  | .status p body => Sys2Proof.Machine.execStatus p body s
  | .noticeRead p body => Sys2Proof.Machine.execNoticeRead p body s
  | .noticeClear p body => Sys2Proof.Machine.execNoticeClear p body s
  | .noticeMask p body => Sys2Proof.Machine.execNoticeMask p body s
  | .park p body => Sys2Proof.Machine.execPark p body s
  | .mapRead p body => Sys2Proof.Machine.execMapRead p body s
  | .slabAnnounce p body => Sys2Proof.Machine.execSlabAnnounce p body s
  | .slabRead p body => Sys2Proof.Machine.execSlabRead p body s
  | .seqMove p body => Sys2Proof.Machine.execSeqMove p body s
  | .seqWithdraw p body => Sys2Proof.Machine.execSeqWithdraw p body s
  | .seqRead p body => Sys2Proof.Machine.execSeqRead p body s
  | .laneRead p body => Sys2Proof.Machine.execLaneRead p body s
  | .holdSet p body => Sys2Proof.Machine.execHoldSet p body s
  | .holdRelease p body => Sys2Proof.Machine.execHoldRelease p body s
  | .dischargeTake p body => Sys2Proof.Machine.execDischargeTake p body s
  | .slabResolveRequeue p slab extra => Sys2Proof.Machine.execSlabResolveRequeue p slab extra s
  | .slabResolveToLaneTail p slab extra => Sys2Proof.Machine.execSlabResolveToLaneTail p slab extra s
  | .slabResolveRemove p slab extra => Sys2Proof.Machine.execSlabResolveRemove p slab extra s
  | .slabResolvePlace p slab extra => Sys2Proof.Machine.execSlabResolvePlace p slab extra s
  | .doubtList p body => Sys2Proof.Machine.execDoubtList p body s
  | .rowRemove p body => Sys2Proof.Machine.execRowRemove p body s
  | .mapWalk p body => Sys2Proof.Machine.execMapWalk p body s
  | .rowShift p body => Sys2Proof.Machine.execRowShift p body s
  | .confirmFurnace p body => Sys2Proof.Machine.execConfirmFurnace p body s
  | .confirmLane p body => Sys2Proof.Machine.execConfirmLane p body s
  | .faultRead p body => Sys2Proof.Machine.execFaultRead p body s
  | .faultClear p body => Sys2Proof.Machine.execFaultClear p body s
  | .thresholdSet p body => Sys2Proof.Machine.execThresholdSet p body s
  | .advisoryEnable p body => Sys2Proof.Machine.execAdvisoryEnable p body s
  | .paramRead p body => Sys2Proof.Machine.execParamRead p body s
  | .paramWrite p body => Sys2Proof.Machine.execParamWrite p body s
  | .start p body => Sys2Proof.Machine.execStart p body s
  | .restart p body => Sys2Proof.Machine.execRestart p body s
  | .clearAll p body => Sys2Proof.Machine.execClearAll p body s
  | .resetRecordClear p body => Sys2Proof.Machine.execResetRecordClear p body s
  | .permitAsk p body => Sys2Proof.Machine.execPermitAsk p body s
  | .permitReturn p body => Sys2Proof.Machine.execPermitReturn p body s
  | .liftReport p body => Sys2Proof.Machine.execLiftReport p body s
  | .setdownAsk p body => Sys2Proof.Machine.execSetdownAsk p body s
  | .depositReport p body => Sys2Proof.Machine.execDepositReport p body s
  | .setAsideReport p body => Sys2Proof.Machine.execSetAsideReport p body s
  | .chargeAsk p body => Sys2Proof.Machine.execChargeAsk p body s
  | .chargeBegin p body => Sys2Proof.Machine.execChargeBegin p body s
  | .chargeEnd p body => Sys2Proof.Machine.execChargeEnd p body s
  | .chargeAbortReturned p extra => Sys2Proof.Machine.execChargeAbortReturned p extra s
  | .chargeAbortStuck p extra => Sys2Proof.Machine.execChargeAbortStuck p extra s
  | .walkReport p body => Sys2Proof.Machine.execWalkReport p body s
  | .dischargeAsk p body => Sys2Proof.Machine.execDischargeAsk p body s
  | .dischargeReport p body => Sys2Proof.Machine.execDischargeReport p body s
  | .lossOfPower => Sys2Proof.Machine.execLossOfPower s

end Sys2Proof.Machine
end

