-- ==== Sys2Proof/Safety.lean ====
section
/-!
DEFINITION. Safety.lean: what counts as a safe run of the part, in the terms the statements use. The laws that
every command keeps (the bounds of its lists and counters, the emptiness of CONFIG, and the account in which
every slab stands in exactly one place), what must hold for a request to reach the rule that owns it, and what
a command that keeps to its own port leaves alone.
-/

namespace Sys2Proof.Machine

/-! ### Requests that reach their rule (R162, R169, R180) -/

/-- Requests of port `p` reach their rules: the part has power (R180), the port is present (R162) and ACTIVE,
and the mode is RUN or the port is P0 (R169, tests 4 to 6). -/
abbrev State.serves (s : State) (p : Port) : Prop :=
  s.powered = true ∧ s.present p = true ∧ (s.port p).link = .active ∧ (s.mode = .run ∨ p = .p0)

/-- The state with the response DONE of that body ready on port `p` (R165, R168). -/
def State.done (s : State) (p : Port) (body : List Byte) : State := s.respond p (.done body)

/-! ### Bounds -/

/-- The bounds the rules give the lists, counters and sets of the part. -/
structure Bounds (s : State) : Prop where
  /-- R1. -/
  register : s.register.length ≤ 384
  /-- R21. -/
  sequence : s.sequence.length ≤ 64
  /-- R104, R128: a map and the row at its entry. -/
  rows : ∀ f : Furnace, (s.furnace f).rowsHeld ≤ 48
  /-- R104, R116. -/
  residence : ∀ f : Furnace, ∀ r ∈ (s.furnace f).rows, r.residence ≤ 65535
  /-- R123. -/
  log : s.log.length ≤ 16
  /-- R158. -/
  counter : ∀ b : BankId, (s.banks.get b).counter ≤ 4095
  /-- R173: a port's notice set holds kinds of its role alone. -/
  notices : ∀ p : Port, kindsInRole p (s.port p).notices = true
  /-- R173: so does its mask. -/
  mask : ∀ p : Port, kindsInRole p (s.port p).mask = true
  /-- R177. -/
  params : ∀ q : ParamId, q.limits.1 ≤ s.params.value q ∧ s.params.value q ≤ q.limits.2
  /-- R162: a port that is not present. -/
  absent : ∀ p : Port, s.present p = false → s.port p = { PortState.fresh with sel := (s.port p).sel }

/-! ### CONFIG tracks nothing (R9, R179) -/

/-- R179: the register, the sequence, the lane and every map are empty, and no permit, custody or charge timer
runs; with them the doubt list and the entry operations. -/
structure TracksNothing (s : State) : Prop where
  register : s.register = []
  doubtList : s.doubtList = []
  sequence : s.sequence = []
  lane : s.lane = []
  reservation : s.reservation = none
  cranes : ∀ k : Crane, s.crane k = CraneState.fresh
  maps : ∀ f : Furnace, (s.furnace f).rows = [] ∧ (s.furnace f).op.isCharging = false ∧ (s.furnace f).chargeTimer = none

/-! ### The account (R1, R3, R5, R40, R64, R142) -/

/-- The slabs of an entry operation with their sides (R127). -/
def EntryOp.slabs : EntryOp → List (SlabId × Side)
  | .idle _ => []
  | .charging a b _ _ => slabsWithSides a b

/-- The slabs of a map with their sides, newest row first (R104). -/
def FurnaceState.mapSlabs (m : FurnaceState) : List (SlabId × Side) := m.rows.flatMap fun r => slabsWithSides r.slabA r.slabB

/-- R3: the collection that a location state names holds the slab. -/
def State.holdsAt (s : State) (id : SlabId) : Place → Prop
  | .listed | .permitted _ | .lifted _ _ => id ∈ s.sequence
  | .onLane => id ∈ s.lane
  | .atEntry f side => (id, side) ∈ (s.furnace f).op.slabs
  | .inFurnace f side => (id, side) ∈ (s.furnace f).mapSlabs
  | .doubtful _ => id ∈ s.doubtList

/-- R3: a location state whose slabs the charge sequence holds. -/
def Place.isInSequence : Place → Bool
  | .listed | .permitted _ | .lifted _ _ => true
  | .onLane | .atEntry _ _ | .inFurnace _ _ | .doubtful _ => false

/-- The other role of a pair (R5). -/
def PairRole.other : PairRole → PairRole
  | .first => .second
  | .second => .first

/-- The account agrees with itself: every live slab stands in exactly the collection its location state names
(R3), no id stands twice (R1, R21, R56, R142), partner fields name each other (R5), a DOUBTFUL slab has no
partner (R142), custody and LIFTED slabs agree (R64), and the credits held do not exceed the lane capacity
(R40). -/
structure Account (s : State) : Prop where
  /-- R1: no two live records carry the same id; the register stands in rising order. -/
  ids : (s.register.map fun r => r.id).Pairwise (· < ·)
  /-- R2. -/
  valid : ∀ r ∈ s.register, validSlabId r.id = true
  /-- R3: every live record's collection holds it. -/
  held : ∀ r ∈ s.register, s.holdsAt r.id r.place
  /-- R3, R21: every entry of the sequence is live and LISTED, PERMITTED or LIFTED. -/
  sequence : ∀ id ∈ s.sequence, ∃ r ∈ s.register, r.id = id ∧ r.place.isInSequence = true
  /-- R3, R56: every entry of the lane is ON_LANE. -/
  lane : ∀ id ∈ s.lane, ∃ r ∈ s.register, r.id = id ∧ r.place = .onLane
  /-- R3, R142: every entry of the doubt list is DOUBTFUL, and single. -/
  doubt : ∀ id ∈ s.doubtList, ∃ r ∈ s.register, r.id = id ∧ r.place.isDoubtful = true ∧ r.partner = none
  /-- R3, R127: the slabs of an entry operation are AT_ENTRY with the side it holds. -/
  entry : ∀ f : Furnace, ∀ x ∈ (s.furnace f).op.slabs, ∃ r ∈ s.register, r.id = x.1 ∧ r.place = .atEntry f x.2
  /-- R3, R104: the slabs of a row are IN_FURNACE with the side it gives. -/
  rows : ∀ f : Furnace, ∀ x ∈ (s.furnace f).mapSlabs, ∃ r ∈ s.register, r.id = x.1 ∧ r.place = .inFurnace f x.2
  /-- R21, R56, R142: no id stands twice. -/
  once : s.sequence.Nodup ∧ s.lane.Nodup ∧ s.doubtList.Nodup
  /-- R3: no slab stands twice at an entry or in a map. -/
  onceInFurnace : ∀ f : Furnace, (((s.furnace f).op.slabs.map Prod.fst)).Nodup ∧ ((s.furnace f).mapSlabs.map Prod.fst).Nodup
  /-- R5: a partner field names a live record whose partner field names it back. -/
  partners : ∀ r ∈ s.register, ∀ q : Partner, r.partner = some q → q.id ≠ r.id ∧
    ∃ o ∈ s.register, o.id = q.id ∧ o.partner = some ⟨r.id, q.role.other⟩
  /-- R64: a crane's custody is the slab LIFTED with it. -/
  custody : ∀ k : Crane, ∀ id : SlabId, (s.crane k).custody = some id → ∃ r ∈ s.register, r.id = id ∧ ∃ o, r.place = .lifted k o
  /-- R64: a slab LIFTED with a crane is its custody, while the part has power. -/
  lifted : s.powered = true → ∀ r ∈ s.register, ∀ k o, r.place = .lifted k o → (s.crane k).custody = some r.id
  /-- R40. -/
  credits : s.creditsHeld ≤ s.params.laneCapacity
  /-- R9, R179. -/
  config : s.mode = .config → TracksNothing s

/-- R73: only the custodian of the sequence head holds the set-down reservation, and for that slab. -/
def ReservationSound (s : State) : Prop :=
  ∀ v : Reservation, s.reservation = some v → (s.crane v.crane).custody = some v.slab ∧ s.sequence.head? = some v.slab

/-- R5, R92, R93: `r'` is the record `r` after its pair, if it was a member of one, has dissolved: the partner field is
empty, a dissolved pair is noted with its partner, and nothing else but the place may have changed. -/
def SlabRecord.becomesSingle (r r' : SlabRecord) : Prop :=
  r' = { r with place := r'.place, partner := none, pairDissolved := r.pairDissolved || r.partner.isSome, parted := r'.parted } ∧
    ∀ id, id ∈ r'.parted ↔ id ∈ r.parted ∨ ∃ q, r.partner = some q ∧ q.id = id

/-! ### What a command may reach -/

/-- The port of a command that carries one. -/
def commandPort : Instr → Option Port
  | .powerOn | .runningSecondsAdvance | .lossOfPower => none
  | .permitTimerExpiry _ | .custodyTimerExpiry _ | .chargeTimerExpiry _ => none
  | .silenceTimerExpiry p | .selAssert p | .frameEnd p _ _ | .processingEnd p | .frameWhileBusy p => some p
  | .readout p | .responseDiscarded p _ | .readoutEnd p => some p
  | .hello p _ | .status p _ | .noticeRead p _ | .noticeClear p _ | .noticeMask p _ | .park p _ => some p
  | .mapRead p _ | .slabAnnounce p _ | .slabRead p _ | .seqMove p _ | .seqWithdraw p _ => some p
  | .seqRead p _ | .laneRead p _ | .holdSet p _ | .holdRelease p _ | .dischargeTake p _ => some p
  | .slabResolveRequeue p _ _ | .slabResolveToLaneTail p _ _ | .slabResolveRemove p _ _ => some p
  | .slabResolvePlace p _ _ | .doubtList p _ | .rowRemove p _ | .mapWalk p _ | .rowShift p _ => some p
  | .confirmFurnace p _ | .confirmLane p _ | .faultRead p _ | .faultClear p _ | .thresholdSet p _ => some p
  | .advisoryEnable p _ | .paramRead p _ | .paramWrite p _ | .start p _ | .restart p _ => some p
  | .clearAll p _ | .resetRecordClear p _ | .permitAsk p _ | .permitReturn p _ | .liftReport p _ => some p
  | .setdownAsk p _ | .depositReport p _ | .setAsideReport p _ | .chargeAsk p _ | .chargeBegin p _ => some p
  | .chargeEnd p _ | .chargeAbortReturned p _ | .chargeAbortStuck p _ | .walkReport p _ => some p
  | .dischargeAsk p _ | .dischargeReport p _ => some p

/-- The frame that a port's machine holds in PROCESSING is a good frame of that kind (R169). -/
def State.holdsGoodFrame (s : State) (p : Port) (k : Kind) : Prop :=
  ∃ kept count, (s.port p).exchange = .processing kept count ∧ goodFrame kept count = true ∧ kindOfCode (byteAt kept 0) = some k

/-- The command stands for a request of that kind on port `p`: a PROCESSING_END of a good frame of the kind,
or the row of the kind itself where the statement names it. -/
def processes (c : Instr) (s : State) (p : Port) (k : Kind) : Prop := c = .processingEnd p ∧ s.holdsGoodFrame p k

/-- R176: the row of the table that stands for a request of a kind with a body on port `p`. SLAB_RESOLVE and
CHARGE_ABORT have a row for each value of their outcome byte, and none for a body without one of these values. -/
def Kind.row (k : Kind) (p : Port) (body : List Byte) : Option Instr :=
  match k with
  | .hello => some (.hello p body)
  | .status => some (.status p body)
  | .noticeRead => some (.noticeRead p body)
  | .noticeClear => some (.noticeClear p body)
  | .noticeMask => some (.noticeMask p body)
  | .park => some (.park p body)
  | .mapRead => some (.mapRead p body)
  | .slabAnnounce => some (.slabAnnounce p body)
  | .slabRead => some (.slabRead p body)
  | .seqMove => some (.seqMove p body)
  | .seqWithdraw => some (.seqWithdraw p body)
  | .seqRead => some (.seqRead p body)
  | .laneRead => some (.laneRead p body)
  | .holdSet => some (.holdSet p body)
  | .holdRelease => some (.holdRelease p body)
  | .dischargeTake => some (.dischargeTake p body)
  | .slabResolve =>
    let slab : Word32 := BitVec.ofNat 32 (field body 0 4)
    match body.drop 4 with
    | 0x00#8 :: extra => some (.slabResolveRequeue p slab extra)
    | 0x01#8 :: extra => some (.slabResolveToLaneTail p slab extra)
    | 0x02#8 :: extra => some (.slabResolveRemove p slab extra)
    | 0x03#8 :: extra => some (.slabResolvePlace p slab extra)
    | _ => none
  | .doubtList => some (.doubtList p body)
  | .rowRemove => some (.rowRemove p body)
  | .mapWalk => some (.mapWalk p body)
  | .rowShift => some (.rowShift p body)
  | .confirmFurnace => some (.confirmFurnace p body)
  | .confirmLane => some (.confirmLane p body)
  | .faultRead => some (.faultRead p body)
  | .faultClear => some (.faultClear p body)
  | .thresholdSet => some (.thresholdSet p body)
  | .advisoryEnable => some (.advisoryEnable p body)
  | .paramRead => some (.paramRead p body)
  | .paramWrite => some (.paramWrite p body)
  | .start => some (.start p body)
  | .restart => some (.restart p body)
  | .clearAll => some (.clearAll p body)
  | .resetRecordClear => some (.resetRecordClear p body)
  | .permitAsk => some (.permitAsk p body)
  | .permitReturn => some (.permitReturn p body)
  | .liftReport => some (.liftReport p body)
  | .setdownAsk => some (.setdownAsk p body)
  | .depositReport => some (.depositReport p body)
  | .setAsideReport => some (.setAsideReport p body)
  | .chargeAsk => some (.chargeAsk p body)
  | .chargeBegin => some (.chargeBegin p body)
  | .chargeEnd => some (.chargeEnd p body)
  | .chargeAbort =>
    match body with
    | 0x00#8 :: extra => some (.chargeAbortReturned p extra)
    | 0x01#8 :: extra => some (.chargeAbortStuck p extra)
    | _ => none
  | .walkReport => some (.walkReport p body)
  | .dischargeAsk => some (.dischargeAsk p body)
  | .dischargeReport => some (.dischargeReport p body)

/-- R180: the retained store of `t` is that of `s`. -/
structure SameStore (s t : State) : Prop where
  register : t.register = s.register
  doubtList : t.doubtList = s.doubtList
  sequence : t.sequence = s.sequence
  lane : t.lane = s.lane
  laneDoubt : t.laneDoubt = s.laneDoubt
  maps : ∀ f : Furnace, (t.furnace f).rows = (s.furnace f).rows ∧ (t.furnace f).op = (s.furnace f).op ∧
    (t.furnace f).doubt = (s.furnace f).doubt ∧ (t.furnace f).hold.supv = (s.furnace f).hold.supv
  log : t.log = s.log
  logOverrun : t.logOverrun = s.logOverrun
  params : t.params = s.params
  mode : t.mode = s.mode
  runningSeconds : t.runningSeconds = s.runningSeconds
  resetRecord : t.resetRecord = s.resetRecord
  storeWritten : t.storeWritten = s.storeWritten

/-- R181: the state that is not retained stands at its start values. -/
structure AtStartValues (s : State) : Prop where
  banks : ∀ b : BankId, s.banks.get b = Bank.fresh
  cranes : ∀ k : Crane, s.crane k = CraneState.fresh
  reservation : s.reservation = none
  chargeTimers : ∀ f : Furnace, (s.furnace f).chargeTimer = none
  holds : ∀ f : Furnace, (s.furnace f).hold.portParked = false ∧ (s.furnace f).hold.portLost = false
  ports : ∀ p : Port, s.port p = { PortState.fresh with sel := (s.port p).sel }
  subSecond : s.subSecond = 0

/-- A run is safe when every state in it keeps the bounds, the account and the reservation law. -/
structure Safe (s : State) : Prop where
  bounds : Bounds s
  account : Account s
  reservation : ReservationSound s

end Sys2Proof.Machine
end

