-- ==== Sys2Proof/Certificates/Slice0/Obligations.lean ====
section
/-!
DEFINITION. Certificates/Slice0/Obligations.lean: the statements for the provers. They stand in the order of
OBLIGATIONS.json: steps and the queue; the laws every step keeps; rules of the whole part; the shared
operations; frames and fields; the planner's sums; and for every command its effect, as the next state that
exec answers.
-/

open Sys2Proof Sys2Proof.Machine

/-! ### Steps and the queue -/

/-- A step takes the command at the front of the queue. The queue is the model's (log entry 1). -/
def Obligations.StepTakesFrontCommand : Prop :=
  ∀ (c : Instr) (rest : List Instr) (s : State), s.pending = c :: rest → step s = exec c { s with pending := rest }

/-- On an empty queue 0.1 s passes (the model's choice, log entry 1): every running timer goes down by one step
(R52, R70, R138, R172), what falls due joins the queue once, and nothing else changes. -/
def Obligations.EmptyQueueLetsTimePass : Prop :=
  ∀ s : State, s.pending = [] → s.powered = true →
    ∃ t, step s = .next t ∧ SameStore s t ∧ t.powered = true ∧ t.banks = s.banks ∧ t.reservation = s.reservation ∧
      t.subSecond = (if 9 ≤ s.subSecond then 0 else s.subSecond + 1) ∧
      (∀ k : Crane, t.crane k = { s.crane k with
        permitTimer := (s.crane k).permitTimer.map fun n => n - 1
        custodyTimer := (s.crane k).custodyTimer.map fun n => n - 1 }) ∧
      (∀ f : Furnace, t.furnace f = { s.furnace f with chargeTimer := (s.furnace f).chargeTimer.map fun n => n - 1 }) ∧
      (∀ p : Port, t.port p = { s.port p with silence := (s.port p).silence.map fun n => n - 1 }) ∧
      (Instr.runningSecondsAdvance ∈ t.pending ↔ 9 ≤ s.subSecond) ∧
      (∀ k : Crane, Instr.permitTimerExpiry k ∈ t.pending ↔ ∃ n, (s.crane k).permitTimer = some n ∧ n ≤ 1) ∧
      (∀ k : Crane, Instr.custodyTimerExpiry k ∈ t.pending ↔ ∃ n, (s.crane k).custodyTimer = some n ∧ n ≤ 1) ∧
      (∀ f : Furnace, Instr.chargeTimerExpiry f ∈ t.pending ↔ ∃ n, (s.furnace f).chargeTimer = some n ∧ n ≤ 1) ∧
      (∀ p : Port, Instr.silenceTimerExpiry p ∈ t.pending ↔ ∃ n, (s.port p).silence = some n ∧ n ≤ 1) ∧
      t.pending.Nodup ∧
      ∀ c ∈ t.pending, c = .runningSecondsAdvance ∨ (∃ k, c = .permitTimerExpiry k ∨ c = .custodyTimerExpiry k) ∨
        (∃ f, c = .chargeTimerExpiry f) ∨ ∃ p, c = .silenceTimerExpiry p

/-- Every command answers a next state and changes nothing of the queue (log entry 1); without power a command other
than POWER_ON changes nothing at all (log entry 4). -/
def Obligations.EveryCommandKeepsQueue : Prop :=
  ∀ (c : Instr) (s : State), ∃ t, exec c s = .next t ∧ t.pending = s.pending ∧
    (s.powered = false → c ≠ .powerOn → t = s)

/-! ### The laws that every step keeps -/

/-- The bounds of the lists, counters, notice sets and parameters hold after every step (R1, R21, R104, R116,
R123, R128, R158, R162, R173, R177). -/
def Obligations.BoundsKept : Prop :=
  ∀ s t : State, Bounds s → step s = .next t → Bounds t

/-- R9, R179: in CONFIG the register, the sequence, the lane and every map stay empty, and no permit, custody
or charge timer runs. -/
def Obligations.ConfigTracksNothing : Prop :=
  ∀ s t : State, (s.mode = .config → TracksNothing s) → step s = .next t → t.mode = .config → TracksNothing t

/-- R1, R3, R5, R40, R64, R142: after every step every live slab stands in exactly the collection its location
state names, pairs name each other, and the credits held stay within the lane capacity. -/
def Obligations.AccountKept : Prop :=
  ∀ s t : State, Account s → step s = .next t → Account t

/-- R73: only the custodian of the sequence head holds the set-down reservation, after every step. -/
def Obligations.ReservationKept : Prop :=
  ∀ s t : State, Account s → ReservationSound s → step s = .next t → ReservationSound t

/-- The part right after its first power-on keeps all these laws. -/
def Obligations.ResetIsSafe : Prop := Safe State.reset ∧ TracksNothing State.reset

/-! ### Rules of the whole part -/

/-- R97, R104, R115: while a row stays in its map its slabs, its width and its soak target do not change, its
residence does not fall, and soak notified stays yes. -/
def Obligations.RowsKeepTheirFigures : Prop :=
  ∀ s t : State, Account s → Bounds s → step s = .next t → ∀ f : Furnace, ∀ r ∈ (s.furnace f).rows,
    ∀ r' ∈ (t.furnace f).rows, r'.slabA = r.slabA →
      r'.slabB = r.slabB ∧ r'.width = r.width ∧ r'.soakTarget = r.soakTarget ∧ r.residence ≤ r'.residence ∧
        (r.soakNotified = true → r'.soakNotified = true)

/-- R2, R7, R89, R92, R93, R146: a record's description is kept for its life; edited, pairing tested, pair dissolved and
requeued tested, once yes, stay yes; and a slab that it was parted from stays so while it is live (what is noted of a
dissolved pair and of a requeue is the model's reading, log entry 30). -/
def Obligations.RecordsKeepTheirDescription : Prop :=
  ∀ s t : State, Account s → step s = .next t → ∀ r ∈ s.register, ∀ r' ∈ t.register, r'.id = r.id →
    r'.length = r.length ∧ r'.width = r.width ∧ r'.thickness = r.thickness ∧ r'.heatingClass = r.heatingClass ∧
      r'.tempClass = r.tempClass ∧ r'.destination = r.destination ∧ r'.pairable = r.pairable ∧
      (r.edited = true → r'.edited = true) ∧ (r.pairingTested = true → r'.pairingTested = true) ∧
      (r.pairDissolved = true → r'.pairDissolved = true) ∧ (r.requeuedTested = true → r'.requeuedTested = true) ∧
      ∀ id ∈ r.parted, (∃ o ∈ t.register, o.id = id) → id ∈ r'.parted

/-- R179, R183: the part enters RUN only through a START and leaves it only through a CLEAR_ALL, both on P0; and the running
seconds counter moves by its advance alone, by one and modulo 2 to the 32. -/
def Obligations.ModeAndSecondsHaveOneCause : Prop :=
  ∀ (c : Instr) (s t : State), s.storeWritten = true → exec c s = .next t →
    (s.mode = .run → t.mode = .config → c = .clearAll .p0 [] ∨ processes c s .p0 .clearAll) ∧
    (s.mode = .config → t.mode = .run → c = .start .p0 [] ∨ processes c s .p0 .start) ∧
    (t.runningSeconds = s.runningSeconds ∨ (c = .runningSecondsAdvance ∧ t.runningSeconds = s.runningSeconds + 1))

/-- R156, R158: only FAULT_CLEAR and a start-up empty a valid record or lower its severity, and only THRESHOLD_SET and a
start-up lower a threshold counter; each of them also as the frame that a PROCESSING_END takes. A start-up is POWER_ON or
RESTART; LOSS_OF_POWER puts the banks at their start values too (the model's reading of R180, log entry 4). -/
def Obligations.BanksKeepTheWorstFault : Prop :=
  ∀ (c : Instr) (s t : State) (b : BankId), exec c s = .next t → c ≠ .powerOn → c ≠ .lossOfPower →
    (∀ p body, c ≠ .restart p body) → (∀ p, ¬processes c s p .restart) →
    ((∀ p body, c ≠ .faultClear p body) → (∀ p, ¬processes c s p .faultClear) → ∀ r, (s.banks.get b).record = some r →
      ∃ r', (t.banks.get b).record = some r' ∧ (r' = r ∨ r.severity.byte < r'.severity.byte)) ∧
    ((∀ p body, c ≠ .thresholdSet p body) → (∀ p, ¬processes c s p .thresholdSet) →
      (s.banks.get b).counter ≤ (t.banks.get b).counter)

/-- R162, R169, R176: no command on a crane port changes a furnace, the discharge log, a parameter, the mode, the
reset record or the running seconds, nor anything but the notice set of another port. -/
def Obligations.CranePortsReachNoFurnace : Prop :=
  ∀ (c : Instr) (p : Port) (s t : State), commandPort c = some p → portRole p = .crane → exec c s = .next t →
    t.furnaces = s.furnaces ∧ t.log = s.log ∧ t.logOverrun = s.logOverrun ∧ t.params = s.params ∧ t.mode = s.mode ∧
      t.resetRecord = s.resetRecord ∧ t.runningSeconds = s.runningSeconds ∧
      ∀ q : Port, q ≠ p → t.port q = { s.port q with notices := (t.port q).notices }

/-- R162, R169, R176: no command on the port of furnace `f` changes another furnace, the sequence, a crane's
permit or custody timer and custody, the reservation, the lane doubt flag, a parameter, the mode, the reset
record or the running seconds, nor anything but the notice set of another port. -/
def Obligations.FurnacePortsReachTheirFurnaceAlone : Prop :=
  ∀ (c : Instr) (p : Port) (f : Furnace) (s t : State), commandPort c = some p → portFurnace p = some f →
    exec c s = .next t →
    (∀ g : Furnace, g ≠ f → t.furnace g = s.furnace g) ∧ t.sequence = s.sequence ∧ t.cranes = s.cranes ∧
      t.reservation = s.reservation ∧ t.laneDoubt = s.laneDoubt ∧ t.params = s.params ∧ t.mode = s.mode ∧
      t.resetRecord = s.resetRecord ∧ t.runningSeconds = s.runningSeconds ∧
      ∀ q : Port, q ≠ p → t.port q = { s.port q with notices := (t.port q).notices }

/-! ### The shared operations -/

/-- R37, R44, R72, R109, R130: the notices that an event from `before` to `after` raises, and that they are all
that `settle` changes. That one comparison serves every command is the model's (log entry 28). -/
def Obligations.NoticesFollowTheChange : Prop :=
  ∀ before after : State,
    settle before after = { after with ports := (settle before after).ports } ∧
    (∀ p : Port, (settle before after).port p =
      { after.port p with notices := ((settle before after).port p).notices }) ∧
    ((settle before after).port .p0).notices = (after.port .p0).notices |||
      (if after.params.lowWater < before.listedCount ∧ after.listedCount = after.params.lowWater then 0x01 else 0x00) |||
      (if before.isOpen .f1 ≠ after.isOpen .f1 ∨ before.isOpen .f2 ≠ after.isOpen .f2 ∨ before.isOpen .f3 ≠ after.isOpen .f3
        then 0x40 else 0x00) ∧
    (∀ k : Crane, after.present (cranePort k) = true →
      ((settle before after).port (cranePort k)).notices = (after.port (cranePort k)).notices |||
        (if before.creditsFree = 0 ∧ 0 < after.creditsFree ∧ (after.port (cranePort k)).link = .active ∧
            after.permitOf k = none ∧ (after.crane k).custody = none then 0x04 else 0x00) |||
        (if after.carriesHead k = true ∧ before.carriesHead k = false then 0x02 else 0x00)) ∧
    (∀ f : Furnace, after.present (furnacePort f) = true →
      ((settle before after).port (furnacePort f)).notices = (after.port (furnacePort f)).notices |||
        (if before.isOpen f ≠ after.isOpen f then 0x02 else 0x00) |||
        (if after.ready f = true ∧ before.ready f = false then 0x01 else 0x00)) ∧
    (∀ p : Port, after.present p = false → (settle before after).port p = after.port p)

/-- R156: a fault reaching a bank, by the five lines of the rule's table; the other banks are as they were. -/
def Obligations.FaultReachesBank : Prop :=
  ∀ (s : State) (bank : BankId) (code : FaultCode) (slab : Option SlabId) (port : Option Port),
    let b := s.banks.get bank
    let b' := (s.logFault bank code slab port).banks.get bank
    let fault : FaultRecord := ⟨code.severity, code, slab, port, s.runningSeconds⟩
    let raises := code.severity ≠ .advisory ∨ b.advisoryEnable = true
    (b.record = none → b'.record = some fault ∧ b'.overflow = b.overflow ∧ b'.lossUnlogged = b.lossUnlogged ∧
      (b'.notified = true ↔ raises)) ∧
    (∀ r, b.record = some r → r.severity.byte < code.severity.byte → b'.record = some fault ∧ b'.overflow = true ∧
      b'.lossUnlogged = b.lossUnlogged ∧ (b'.notified = true ↔ raises)) ∧
    (∀ r, b.record = some r → code.severity.byte ≤ r.severity.byte → code.severity ≠ .trackingLost →
      b'.record = b.record ∧ b'.overflow = true ∧ b'.lossUnlogged = b.lossUnlogged ∧ b'.notified = b.notified) ∧
    (∀ r, b.record = some r → r.severity = .trackingLost → code.severity = .trackingLost → r.code = code → r.slab = slab →
      b'.record = b.record ∧ b'.overflow = true ∧ b'.lossUnlogged = b.lossUnlogged ∧ b'.notified = b.notified) ∧
    (∀ r, b.record = some r → r.severity = .trackingLost → code.severity = .trackingLost → (r.code ≠ code ∨ r.slab ≠ slab) →
      b'.record = b.record ∧ b'.overflow = true ∧ b'.lossUnlogged = true ∧ b'.notified = b.notified) ∧
    (∀ other, other ≠ bank → (s.logFault bank code slab port).banks.get other = s.banks.get other)

/-- R157, R158: the FAULT and THRESHOLD notices of a fault, the threshold counter and its flag; nothing but the
bank and the notice set of P0 changes. -/
def Obligations.FaultNoticesAndThreshold : Prop :=
  ∀ (s : State) (bank : BankId) (code : FaultCode) (slab : Option SlabId) (port : Option Port),
    let b := s.banks.get bank
    let t := s.logFault bank code slab port
    let taken := b.record = none ∨ ∃ r, b.record = some r ∧ r.severity.byte < code.severity.byte
    let counted := code.severity = .recoverable ∧ b.counting = true ∧ b.counter < 4095
    (taken ∧ (code.severity ≠ .advisory ∨ b.advisoryEnable = true) → ¬(counted ∧ b.counter + 1 = 4095) →
      (t.port .p0).notices = (s.port .p0).notices ||| 0x04) ∧
    (taken ∧ (code.severity ≠ .advisory ∨ b.advisoryEnable = true) → counted ∧ b.counter + 1 = 4095 →
      (t.port .p0).notices = (s.port .p0).notices ||| 0x04 ||| 0x20) ∧
    (¬(taken ∧ (code.severity ≠ .advisory ∨ b.advisoryEnable = true)) → counted ∧ b.counter + 1 = 4095 →
      (t.port .p0).notices = (s.port .p0).notices ||| 0x20) ∧
    (¬(taken ∧ (code.severity ≠ .advisory ∨ b.advisoryEnable = true)) → ¬(counted ∧ b.counter + 1 = 4095) →
      t.ports = s.ports) ∧
    (counted → (t.banks.get bank).counter = b.counter + 1) ∧ (¬counted → (t.banks.get bank).counter = b.counter) ∧
    ((t.banks.get bank).thresholdFlag = true ↔ b.thresholdFlag = true ∨ (counted ∧ b.counter + 1 = 4095)) ∧
    (t.banks.get bank).counting = b.counting ∧ (t.banks.get bank).advisoryEnable = b.advisoryEnable ∧
    t = { s with banks := t.banks, ports := t.ports } ∧
    (∀ q : Port, t.port q = { s.port q with notices := (t.port q).notices }) ∧
    (∀ q : Port, q ≠ .p0 → t.port q = s.port q)

/-- R23: an entry is fixed exactly when it, or an entry behind it, is PERMITTED, LIFTED or a member of a pair. -/
def Obligations.FixedEntriesAreTheSpan : Prop :=
  ∀ (s : State) (i : Nat) (id : SlabId), s.sequence.Nodup → s.sequence[i]? = some id →
    (s.isFixed id = true ↔ ∃ j other r, i ≤ j ∧ s.sequence[j]? = some other ∧ s.slab? other = some r ∧
      ((∃ k, r.place = .permitted k) ∨ (∃ k o, r.place = .lifted k o) ∨ r.partner ≠ none))

/-! ### Frames and fields (chapter 9) -/

/-- R168, R169, R176: the frame of a request kind and a body is good, and its kind and body are read back from
it; a good frame is the frame of the kind byte and the body read from it; and a field written most significant byte
first is read back, wherever it stands in a body (R175). -/
def Obligations.FramesReadBack : Prop :=
  (∀ (k : Kind) (body : List Byte), body.length ≤ 60 →
    (frameOf k.code body).length = body.length + 3 ∧ goodFrame (frameOf k.code body) (body.length + 3) = true ∧
      kindOfCode (byteAt (frameOf k.code body) 0) = some k ∧ frameBody (frameOf k.code body) = body) ∧
  (∀ kept : List Byte, goodFrame kept kept.length = true → kept = frameOf (byteAt kept 0) (frameBody kept)) ∧
  (∀ (kind : Byte) (body : List Byte), crc8 (frameOf kind body) = 0x00) ∧ frameOf Kind.hello.code [] = [0x01, 0x00, 0x15] ∧
  ∀ (before after : List Byte) (n : Nat),
    (n < 2 ^ 8 → field (before ++ u8 n ++ after) before.length 1 = n) ∧
    (n < 2 ^ 16 → field (before ++ u16 n ++ after) before.length 2 = n) ∧
    (n < 2 ^ 32 → field (before ++ u32 n ++ after) before.length 4 = n)

/-! ### The planner's sums (chapter 5) -/

/-- R87: the filter admits a heating class exactly when the class agrees with the match in every bit that the mask
selects; with the mask at 0 it admits every class. -/
def Obligations.AdmissionFilterComparesSelectedBits : Prop :=
  ∀ (fp : FurnaceParams) (h : Byte),
    (fp.admits h = true ↔ ∀ i : Nat, i < 8 → fp.admissionMask.getLsbD i = true →
      h.getLsbD i = fp.admissionMatch.getLsbD i) ∧
    (fp.admissionMask = 0 → fp.admits h = true)

/-- R5, R90 to R93, R146: the pair forms exactly when the ten conditions of R90 hold for the permitted slab and its
successor, the two were not parted before, and the successor is neither a tested slab whose pair was dissolved nor a slab
that was requeued after it had been permitted. A pair that dissolves is not formed
again by the test, with either member as the successor of the other; its members are single then, and nothing else changes. A
pair that forms makes the one FIRST and the other SECOND, and changes nothing else. R90 lists the ten conditions alone; that
R92, R93 and R146 bar such successors is the model's reading (log entry 30). -/
def Obligations.PairFormsByTenConditions : Prop :=
  ∀ (s : State) (a b : SlabRecord), s.slab? a.id = some a → s.slab? b.id = some b →
    (s.successor a.id = some b.id → (s.pairingPartner a.id = some b.id ↔
      a.pairingTested = false ∧ a.partner = none ∧ b.place = .listed ∧ b.partner = none ∧
      b.destination = a.destination ∧ (s.furnaceParams a.destination).doubleRow = true ∧
      a.pairable = true ∧ b.pairable = true ∧
      a.length + b.length + (s.furnaceParams a.destination).centreClearance +
        2 * (s.furnaceParams a.destination).sideClearance ≤ (s.furnaceParams a.destination).hearthWidth ∧
      a.width ≤ b.width + s.params.pairWidthDifference ∧ b.width ≤ a.width + s.params.pairWidthDifference ∧
      a.thickness ≤ b.thickness + s.params.pairThicknessDifference ∧
      b.thickness ≤ a.thickness + s.params.pairThicknessDifference ∧
      (b.pairingTested = false ∨ b.pairDissolved = false) ∧ b.requeuedTested = false ∧ b.id ∉ a.parted)) ∧
    (∀ p q : PairRole, a.partner = some ⟨b.id, p⟩ → b.partner = some ⟨a.id, q⟩ →
      (s.dissolvePair a.id).pairingPartner a.id ≠ some b.id ∧ (s.dissolvePair a.id).pairingPartner b.id ≠ some a.id) ∧
    (let t := s.dissolvePair a.id
     t = { s with register := t.register } ∧ ∀ x r, s.slab? x = some r →
        (x = a.id ∨ (∃ q, r.partner = some q ∧ q.id = a.id) → ∃ r', t.slab? x = some r' ∧ r.becomesSingle r' ∧ r'.place = r.place) ∧
        (x ≠ a.id → (∀ q, r.partner = some q → q.id ≠ a.id) → t.slab? x = some r)) ∧
    (a.id ≠ b.id →
      let t := s.formPair a.id b.id
      t = { s with register := t.register } ∧ t.slab? a.id = some { a with partner := some ⟨b.id, .first⟩ } ∧
        t.slab? b.id = some { b with partner := some ⟨a.id, .second⟩ } ∧ ∀ x, x ≠ a.id → x ≠ b.id → t.slab? x = s.slab? x)

/-- R95 to R97: the figures of a row of one or two slabs, and its soak target: thickness times factor times percent,
divided by 1000 and rounded up, which lies between 360 and 40,500 s within the ranges. -/
def Obligations.RowFiguresAndSoakTarget : Prop :=
  ∀ (fp : FurnaceParams) (a b : SlabRecord),
    fp.percent .cold = 100 ∧ fp.percent .warm = fp.warmPercent ∧ fp.percent .hot = fp.hotPercent ∧
    rowWidth [a] = a.width ∧ rowThickness [a] = a.thickness ∧ fp.rowPercent [a] = fp.percent a.tempClass ∧
    rowWidth [a, b] = max a.width b.width ∧ rowThickness [a, b] = max a.thickness b.thickness ∧
    fp.rowPercent [a, b] = max (fp.percent a.tempClass) (fp.percent b.tempClass) ∧
    ∀ row : List SlabRecord, row = [a] ∨ row = [a, b] →
      let product := rowThickness row * fp.heatingFactor * fp.rowPercent row
      product ≤ 1000 * fp.soakTarget row ∧ 1000 * fp.soakTarget row < product + 1000 ∧
      ((∀ r ∈ row, 120 ≤ r.thickness ∧ r.thickness ≤ 450) → 100 ≤ fp.heatingFactor → fp.heatingFactor ≤ 900 →
        50 ≤ fp.warmPercent → fp.warmPercent ≤ 100 → 30 ≤ fp.hotPercent → fp.hotPercent ≤ 100 →
        360 ≤ fp.soakTarget row ∧ fp.soakTarget row ≤ 40500)

/-- R99: the walk count. It is the least number of walks after which the newest row leaves the planned row its
gap, at most 31 within the ranges, and each walk taken lowers it by one until it is 0. -/
def Obligations.WalkCountIsLeast : Prop :=
  ∀ (fp : FurnaceParams) (newest : Row) (older : List Row) (w : Nat), 0 < fp.stroke →
    let n := fp.walkCount (newest :: older) w
    fp.walkCount [] w = 0 ∧
    (w + fp.gap ≤ newest.rear → n = 0) ∧
    (newest.rear < w + fp.gap → n = (w + fp.gap - newest.rear + fp.stroke - 1) / fp.stroke) ∧
    w + fp.gap ≤ newest.rear + n * fp.stroke ∧
    (∀ m, m < n → newest.rear + m * fp.stroke < w + fp.gap) ∧
    (w ≤ 2500 → fp.gap ≤ 600 → 100 ≤ fp.stroke → n ≤ 31) ∧
    (∀ rest, fp.walkCount ({ newest with rear := newest.rear + fp.stroke } :: rest) w = n - 1)

/-- R100: the fit test, its row limit first, then the length. Walks that set no row back do not cure FULL_LENGTH: while the
walk count is above 0 they leave the sum of the length test unchanged, and the verdict on the walked rows, with their own
walk count, stays FULL_LENGTH however many walks are taken. -/
def Obligations.FitTestVerdicts : Prop :=
  ∀ (fp : FurnaceParams) (rows : List Row) (w n : Nat),
    (48 ≤ rows.length → fp.fit rows w n = .fullRows) ∧
    (w ≤ fp.effectiveLength → fp.fit [] w n = .fits) ∧ (fp.effectiveLength < w → fp.fit [] w n = .fullLength) ∧
    (∀ front, rows.getLast? = some front → rows.length < 48 →
      (front.rear + front.width + n * fp.stroke ≤ fp.effectiveLength → fp.fit rows w n = .fits) ∧
      (fp.effectiveLength < front.rear + front.width + n * fp.stroke → fp.fit rows w n = .fullLength)) ∧
    ∀ walks : Nat, 0 < fp.stroke →
      let walked := rows.map fun r => { r with rear := r.rear + walks * fp.stroke }
      (∀ front, rows.getLast? = some front → walks ≤ fp.walkCount rows w → ∃ moved, walked.getLast? = some moved ∧
        moved.rear + moved.width + fp.walkCount walked w * fp.stroke =
          front.rear + front.width + fp.walkCount rows w * fp.stroke) ∧
      (fp.fit rows w (fp.walkCount rows w) = .fullLength → fp.fit walked w (fp.walkCount walked w) = .fullLength)

/-- R101: walks available, and that a front row within L is at stop exactly when none is available. -/
def Obligations.WalksAvailableRoundsDown : Prop :=
  ∀ (fp : FurnaceParams) (rows : List Row), 0 < fp.stroke →
    fp.walksAvailable [] = 255 ∧
    ∀ front : Row, rows.getLast? = some front →
      (fp.effectiveLength ≤ front.rear + front.width → fp.walksAvailable rows = 0) ∧
      (∀ q, q ≤ 254 → front.rear + front.width + q * fp.stroke ≤ fp.effectiveLength →
        fp.effectiveLength < front.rear + front.width + (q + 1) * fp.stroke → fp.walksAvailable rows = q) ∧
      (front.rear + front.width + 255 * fp.stroke ≤ fp.effectiveLength → fp.walksAvailable rows = 255) ∧
      (front.rear + front.width ≤ fp.effectiveLength → (fp.walksAvailable rows = 0 ↔ fp.atStop front = true))

/-! ### Power, the clock and the timers -/

/-- R181, R183: a power-on with an empty store leaves the part at its reset state. With a CONFIG store it brings the mode, the
parameters, the discharge log and the running seconds back as stored, the state that is not retained starts at its start
values, and the reset record holds POWER_ON alone. That the store is written at the first power-on (log entry 5), that SEL is
low (log entry 26) and that start-up leaves the lists of a CONFIG store as they are, empty where they were empty (log entry
17), are the model's. [POWER_ON] -/
def Obligations.PowerOnWithEmptyStore : Prop :=
  ∀ s : State,
    (s.storeWritten = false → exec .powerOn s = .next { State.reset with pending := s.pending }) ∧
    (s.storeWritten = true → s.mode = .config → ∃ t, exec .powerOn s = .next t ∧
      t = { s with
        powered := true, resetRecord := ⟨true, false, false⟩, subSecond := 0, reservation := none
        cranes := t.cranes, furnaces := t.furnaces, banks := t.banks, ports := t.ports } ∧
      AtStartValues t ∧ (∀ p : Port, t.port p = PortState.fresh) ∧
      (∀ f : Furnace, t.furnace f = { s.furnace f with chargeTimer := none, hold := ⟨(s.furnace f).hold.supv, false, false⟩ }) ∧
      (TracksNothing s → TracksNothing t))

/-- R181: a power-on with a RUN store brings every retained item back, with every record, and recovers it: permits are undone, LIFTED
and AT_ENTRY slabs become DOUBTFUL in the order of the rule, the lane and every furnace whose map holds a row
become doubtful with their RECOVERY faults, and FAULT alone stands in a notice set. What is noted of a dissolved pair
(log entry 30), that recovery raises no DOUBT (log entry 20) and that SEL is low after a power-on (log entry 26) are the model's. [POWER_ON] -/
def Obligations.PowerOnRecoversRunStore : Prop :=
  ∀ s : State, Account s → s.storeWritten = true → s.mode = .run →
    let lifted := fun id : SlabId => match s.place? id with
      | some (.lifted _ _) => true
      | _ => false
    let touched := fun id : SlabId => match s.place? id with
      | some (.permitted _) | some (.lifted _ _) | some (.atEntry _ _) => true
      | _ => false
    ∃ t, exec .powerOn s = .next t ∧ t.powered = true ∧ t.mode = .run ∧ t.resetRecord = ⟨true, false, false⟩ ∧
      t.params = s.params ∧ t.log = s.log ∧ t.logOverrun = s.logOverrun ∧ t.lane = s.lane ∧
      t.runningSeconds = s.runningSeconds ∧ t.laneDoubt = true ∧ t.reservation = none ∧ t.subSecond = 0 ∧
      t.sequence = s.sequence.filter (fun id => !lifted id) ∧
      t.doubtList = s.doubtList ++ s.sequence.filter lifted ++
        ((s.furnace .f1).op.slabs ++ (s.furnace .f2).op.slabs ++ (s.furnace .f3).op.slabs).map Prod.fst ∧
      (∀ id, t.place? id = (s.place? id).map fun pl => match pl with
        | .permitted _ => .listed
        | .lifted k _ => .doubtful (.lifted k)
        | .atEntry f side => .doubtful (.atEntry f side)
        | other => other) ∧
      (∀ id, t.partner? id = (s.partner? id).bind fun q => if touched id || touched q.id then none else some q) ∧
      (∀ id r, s.slab? id = some r → ∃ r', t.slab? id = some r' ∧
        ((∀ q, r.partner = some q → touched id = false ∧ touched q.id = false) → r' = { r with place := r'.place }) ∧
        (∀ q, r.partner = some q → touched id = true ∨ touched q.id = true → r.becomesSingle r')) ∧
      (t.register.map fun r => r.id) = (s.register.map fun r => r.id) ∧
      (∀ k : Crane, t.crane k = CraneState.fresh) ∧
      (∀ f : Furnace, t.furnace f = { s.furnace f with
        op := .idle false
        chargeTimer := none
        hold := ⟨(s.furnace f).hold.supv, false, false⟩
        doubt := (s.furnace f).doubt || !(s.furnace f).rows.isEmpty }) ∧
      t.banks.link = Bank.fresh ∧ t.banks.sequence = Bank.fresh ∧
      t.banks.lane = { Bank.fresh with record := some ⟨.trackingLost, .laneRecovery, none, none, s.runningSeconds⟩, notified := true } ∧
      (∀ f : Furnace, t.banks.get (furnaceBank f) = if (s.furnace f).rows = [] then Bank.fresh
        else { Bank.fresh with record := some ⟨.trackingLost, .furnaceRecovery, none, none, s.runningSeconds⟩, notified := true }) ∧
      t.port .p0 = { PortState.fresh with notices := 0x04 } ∧ (∀ p : Port, p ≠ .p0 → t.port p = PortState.fresh)

/-- R167, R181, R183: RESTART takes the same event without the loss of power; it sets RESTART and keeps the other
flags of the reset record, and P0 has its answer ready. A selection in progress is ignored until its release. The tenths
of the running second start at 0 (log entry 6). [RESTART] -/
def Obligations.RestartIsStartUp : Prop :=
  ∀ s : State, s.serves .p0 → ∃ t u, exec (.restart .p0 []) s = .next t ∧ exec .powerOn s = .next u ∧
    t = { u with resetRecord := { s.resetRecord with restart := true }, ports := t.ports } ∧
    (∀ p : Port, p ≠ .p0 → t.port p = { u.port p with sel := (s.port p).sel.dropped }) ∧
    t.port .p0 = { u.port .p0 with
      sel := (s.port .p0).sel.dropped
      exchange := .responseReady (frameOf 0x81 (u8 u.mode.code ++
        ResetRecord.byte { s.resetRecord with restart := true } ++ u16 u.doubtList.length ++ u32 u.runningSeconds.toNat)) }

/-- R180: a loss of power leaves the retained store as it stands, and the rest at its start values. [LOSS_OF_POWER] -/
def Obligations.LossOfPowerKeepsStore : Prop :=
  ∀ s : State, s.powered = true →
    ∃ t, exec .lossOfPower s = .next t ∧ t.powered = false ∧ SameStore s t ∧ AtStartValues t

/-- R116, R117, R183: the running seconds advance by one, every row of every map gains one second up to 65,535, and
the front row of each map is notified when it has soaked; nothing else changes. [RUNNING_SECONDS_ADVANCE] -/
def Obligations.SecondsAgeEveryRow : Prop :=
  ∀ s : State, s.powered = true → ∃ t, exec .runningSecondsAdvance s = .next t ∧
    t = { s with runningSeconds := s.runningSeconds + 1, furnaces := t.furnaces, ports := t.ports } ∧
    (∀ p : Port, t.port p = { s.port p with notices := (t.port p).notices }) ∧
    (∀ p : Port, portFurnace p = none ∨ s.present p = false → t.port p = s.port p) ∧
    ∀ f : Furnace,
      t.furnace f = { s.furnace f with rows := (t.furnace f).rows } ∧
      (t.furnace f).rows.length = (s.furnace f).rows.length ∧
      (∀ (i : Nat) (r : Row), (s.furnace f).rows[i]? = some r → ∃ r' : Row, (t.furnace f).rows[i]? = some r' ∧
        r' = { r with residence := r'.residence, soakNotified := r'.soakNotified } ∧
        r'.residence = min 65535 (r.residence + 1) ∧
        (r'.soakNotified = true ↔ r.soakNotified = true ∨
          (i + 1 = (s.furnace f).rows.length ∧ r.soakTarget ≤ min 65535 (r.residence + 1)))) ∧
      (s.present (furnacePort f) = true → (t.port (furnacePort f)).notices = (s.port (furnacePort f)).notices |||
        (match (s.furnace f).rows.getLast? with
          | some r => if r.soakTarget ≤ min 65535 (r.residence + 1) ∧ r.soakNotified = false then 0x04 else 0x00
          | none => 0x00))

/-- R53, R71: when a running permit timer expires, the permitted slab returns to LISTED, its pair dissolves, and
PERMIT_LAPSED is raised and logged, with the notices of the change. Each expiry of a running custody timer marks the slab
overdue, logs CUSTODY_OVERDUE and re-arms the timer with the period in force. [PERMIT_TIMER_EXPIRY,
CUSTODY_TIMER_EXPIRY] -/
def Obligations.CraneTimersExpire : Prop :=
  ∀ (s : State) (k : Crane) (n : Nat) (id : SlabId), s.powered = true →
    ((s.crane k).permitTimer = some n → s.permitOf k = some id →
      exec (.permitTimerExpiry k) s = .next (settle s (State.logFault
        (((s.updateCrane k fun c => { c with permitTimer := none }).setPlace id .listed).dissolvePair id |>.raiseCrane k .permitLapsed)
        .sequence .permitLapsed (some id) (some (cranePort k))))) ∧
    ((s.crane k).custodyTimer = some n → (s.crane k).custody = some id →
      exec (.custodyTimerExpiry k) s = .next (((s.setPlace id (.lifted k true)).logFault .lane .custodyOverdue (some id)
        (some (cranePort k))).updateCrane k fun c => { c with custodyTimer := some (10 * s.params.custodyPeriod) }))

/-- R137, R138: a charge given up, by an expiry of the running charge timer or by a STUCK abort. Its slabs become
DOUBTFUL and single, the record IDLE, and the furnace doubtful; its fault is logged and DOUBT raised, with the notices of the
change: HOLD where the furnace was OPEN, and CREDIT where none was free. Of the records only those of its slabs, and of slabs
paired with them, change, and nothing else changes. The count before the ids of the STUCK answer (log entry 7) and what is noted
of a dissolved pair (log entry 30) are the model's reading. [CHARGE_TIMER_EXPIRY, CHARGE_ABORT_STUCK] -/
def Obligations.ChargeIsGivenUp : Prop :=
  ∀ (s : State) (f : Furnace) (a : SlabId) (b : Option SlabId) (w soak : Nat),
    (s.furnace f).op = .charging a b w soak → b ≠ some a → s.live a = true → (∀ c, b = some c → s.live c = true) →
    let gone := fun (u : State) (timedOut : Bool) (code : FaultCode) (port : Option Port) =>
      let logged := s.logFurnace f code (some a) port
      u = { s with
        register := u.register, doubtList := s.doubtList ++ a :: b.toList, furnaces := u.furnaces
        banks := logged.banks, ports := u.ports } ∧
      (∀ x ∈ slabsWithSides a b, u.place? x.1 = some (.doubtful (.atEntry f x.2)) ∧ u.partner? x.1 = none) ∧
      (∀ id, id ∉ a :: b.toList → u.place? id = s.place? id) ∧
      (u.register.map fun r => r.id) = (s.register.map fun r => r.id) ∧
      (∀ id r, s.slab? id = some r →
        ((id ∈ a :: b.toList ∨ ∃ q, r.partner = some q ∧ q.id ∈ a :: b.toList) → ∃ r', u.slab? id = some r' ∧ r.becomesSingle r') ∧
        (id ∉ a :: b.toList → (∀ q, r.partner = some q → q.id ∉ a :: b.toList) → u.slab? id = some r)) ∧
      u.furnace f = { s.furnace f with op := .idle timedOut, chargeTimer := none, doubt := true } ∧
      (∀ g, g ≠ f → u.furnace g = s.furnace g) ∧
      u.port .p0 = { s.port .p0 with notices := (logged.port .p0).notices ||| 0x08 } ∧
      (∀ p, p ≠ .p0 → u.port p = s.port p)
    (s.powered = true → (∃ n, (s.furnace f).chargeTimer = some n) →
      ∃ u, exec (.chargeTimerExpiry f) s = .next (settle s u) ∧ gone u true .chargeTimeout none) ∧
    (s.serves (furnacePort f) →
      ∃ u, exec (.chargeAbortStuck (furnacePort f) []) s = .next (State.done (settle s u) (furnacePort f)
        ([0x01] ++ idList (a :: b.toList))) ∧ gone u false .chargeStuck (some (furnacePort f)))

/-- R54, R80, R108, R172: when an ACTIVE port's silence timer expires, the port is LOST, PORT_SILENT is logged and
PORT_LOST raised; a crane that holds nothing loses nothing, a crane's permit lapses without PERMIT_LAPSED, its custody is lost, and in
RUN a furnace is held and doubtful. [SILENCE_TIMER_EXPIRY] -/
def Obligations.SilenceLosesThePort : Prop :=
  ∀ (s : State) (p : Port) (n : Nat), s.powered = true → (s.port p).link = .active → (s.port p).silence = some n →
    let lost := (s.updatePort p fun q => { q with link := .lost, silence := none }).logFault .link .portSilent none (some p)
    (p = .p0 → exec (.silenceTimerExpiry p) s = .next lost) ∧
    (∀ k, p = cranePort k → s.permitOf k = none → (s.crane k).custody = none →
      exec (.silenceTimerExpiry p) s = .next (lost.raiseSupv .portLost)) ∧
    (∀ k id, p = cranePort k → s.permitOf k = some id → (s.crane k).custody = none →
      exec (.silenceTimerExpiry p) s = .next (settle s (((((lost.raiseSupv .portLost).stopPermitTimer k).setPlace id .listed).dissolvePair
        id).logFault .sequence .permitLapsed (some id) (some p)))) ∧
    (∀ k id, p = cranePort k → s.permitOf k = none → (s.crane k).custody = some id →
      exec (.silenceTimerExpiry p) s = .next (settle s (State.raiseSupv (State.logFault
        ((((((lost.raiseSupv .portLost).endCustody k).releaseReservation k).dissolvePair id).leaveSequence id).makeDoubtful id (.lifted k))
        .lane .custodyLost (some id) (some p)) .doubt))) ∧
    (∀ f, p = furnacePort f → s.mode = .run →
      exec (.silenceTimerExpiry p) s = .next (settle s (((lost.raiseSupv .portLost).updateFurnace f fun m =>
        { m with hold := { m.hold with portLost := true }, doubt := true }).logFurnace f .controllerLost none (some p)
        |>.raiseSupv .doubt))) ∧
    (∀ f, p = furnacePort f → s.mode = .config → exec (.silenceTimerExpiry p) s = .next (lost.raiseSupv .portLost))

/-! ### The exchange machine of a port (section 9.2) -/

/-- R162 to R166, R172: the machine of a port. The assertion of SEL in IDLE, in PROCESSING, where it is logged and the
selection ignored until its release, and in RESPONSE_READY; the bytes of a frame, the first 63 of them kept and all of them
counted, its partial byte dropped, and a good frame re-arming the timer of an ACTIVE port; a whole selection in PROCESSING,
logged; in RESPONSE_READY a first byte of 0x00, or none, starts a readout, and any other discards the response and is byte 0
of a new frame, but in an ignored selection nothing is taken; the release of SEL in READING discards the response, and that
of an ignored selection changes nothing else. That the rows of a readout need no SEL_ASSERT before them, that
FRAME_WHILE_BUSY leaves SEL as it was and that an assertion of SEL that is asserted changes nothing are the model's
choices (log entry 2); that an ignored selection which outlasts PROCESSING leaves the response ready, with RDY high, is its
reading (log entry 31). [SEL_ASSERT, FRAME_END,
FRAME_WHILE_BUSY, READOUT, RESPONSE_DISCARDED, READOUT_END] -/
def Obligations.ExchangeMachineMoves : Prop :=
  ∀ (s : State) (p : Port), s.powered = true → s.present p = true →
    ((s.port p).exchange = .idle → (s.port p).sel = .released →
      exec (.selAssert p) s = .next (s.updatePort p fun q => { q with exchange := .receiving [] 0, sel := .taken })) ∧
    (∀ kept count, (s.port p).exchange = .processing kept count → (s.port p).sel = .released →
      exec (.selAssert p) s = .next ((s.logFault .link .frameWhileBusy none (some p)).updatePort p fun q =>
        { q with sel := .ignored })) ∧
    (∀ frame, (s.port p).exchange = .responseReady frame → (s.port p).sel = .released →
      exec (.selAssert p) s = .next (s.updatePort p fun q => { q with sel := .taken })) ∧
    ((s.port p).sel ≠ .released → exec (.selAssert p) s = .next s) ∧
    (∀ kept count bytes partialBits, (s.port p).exchange = .receiving kept count →
      exec (.frameEnd p bytes partialBits) s = .next (s.updatePort p fun q => { q with
        exchange := .processing ((kept ++ bytes).take 63) (count + bytes.length)
        sel := .released
        silence := if goodFrame ((kept ++ bytes).take 63) (count + bytes.length) = true ∧ q.link = .active
          then some (5 * 2 ^ s.silenceCode p) else q.silence })) ∧
    (∀ kept count, (s.port p).exchange = .processing kept count →
      exec (.frameWhileBusy p) s = .next (s.logFault .link .frameWhileBusy none (some p))) ∧
    (∀ frame, (s.port p).exchange = .responseReady frame → (s.port p).sel ≠ .ignored →
      exec (.readout p) s = .next (s.updatePort p fun q => { q with exchange := .reading frame, sel := .taken }) ∧
      ∀ first, first ≠ 0 → exec (.responseDiscarded p first) s =
        .next ((s.logFault .link .responseDiscarded none (some p)).updatePort p fun q =>
          { q with exchange := .receiving [first] 1, sel := .taken })) ∧
    (∀ frame, (s.port p).exchange = .responseReady frame → (s.port p).sel = .ignored →
      exec (.readout p) s = .next s ∧ ∀ first, exec (.responseDiscarded p first) s = .next s) ∧
    (∀ frame, (s.port p).exchange = .reading frame →
      exec (.readoutEnd p) s = .next (s.updatePort p fun q => { q with exchange := .idle, sel := .released })) ∧
    ((∀ kept count, (s.port p).exchange ≠ .receiving kept count) → (∀ frame, (s.port p).exchange ≠ .reading frame) →
      exec (.readoutEnd p) s = .next (s.updatePort p fun q => { q with sel := .released }) ∧
      ∀ bytes partialBits, exec (.frameEnd p bytes partialBits) s = .next (s.updatePort p fun q => { q with sel := .released }))

/-- R165, R169, R176: the judgement of the frame that a port holds, test by test, and the rule that owns the kind, for every
kind that its role, the link state and the mode let pass. The end of the processing of a good frame is the row of its kind with
its body, for SLAB_RESOLVE and CHARGE_ABORT the row of its outcome byte. A body without an outcome is answered RANGE, or STATE in
CONFIG, where STATE comes first (log entry 14); that a row stands for such a frame is the model's choice (log entry 3).
[PROCESSING_END] -/
def Obligations.FramesAreJudged : Prop :=
  ∀ (s : State) (p : Port) (kept : List Byte) (count : Nat), s.powered = true → s.present p = true →
    (s.port p).exchange = .processing kept count →
    let ends := fun (t : State) (r : Response) => exec (.processingEnd p) s = .next (t.respond p r)
    (goodFrame kept count = false → ends (s.logFault .link .frameCheck none (some p)) (.refuse .frame [])) ∧
    (goodFrame kept count = true → kindOfCode (byteAt kept 0) = none →
      ends (s.logFault .link .kindRefused none (some p)) (.refuse .kind [])) ∧
    ∀ k, goodFrame kept count = true → kindOfCode (byteAt kept 0) = some k →
      (∀ c, k.row p (frameBody kept) = some c → exec (.processingEnd p) s = exec c s) ∧
      let always := k = .hello ∨ k = .status
      let notices := k = .noticeRead ∨ k = .noticeClear ∨ k = .noticeMask
      let linked := (s.port p).link = .active ∨ k = .hello ∨ (k = .status ∧ (s.port p).link ≠ .lost) ∨
        (notices ∧ (s.port p).link = .parked)
      (k.allowedTo (portRole p) = false → ends (s.logFault .link .kindRefused none (some p)) (.refuse .kind [])) ∧
      (k.allowedTo (portRole p) = true →
        ((s.port p).link = .lost → k ≠ .hello → ends s (.refuse .lost [])) ∧
        ((s.port p).link = .offline → ¬always → ends s (.refuse .lost [])) ∧
        ((s.port p).link = .parked → ¬always → ¬notices → ends s (.refuse .parked [])) ∧
        (linked → s.mode = .config → p ≠ .p0 → ¬always → ends s (.refuse .notRunning [])) ∧
        (linked → (s.mode = .run ∨ p = .p0 ∨ always) →
          ends (ruleOf p (frameBody kept) k s).1 (ruleOf p (frameBody kept) k s).2 ∧
          (k.row p (frameBody kept) = none → ends s (.refuse (if s.mode = .config then .state else .range) []))))

/-- R163, R165 to R167, R173: RDY is high in RESPONSE_READY alone, ATTN while an enabled kind is pending, and the part shifts
out 0xFF while it receives and processes and in an ignored selection, and in a readout the response and then 0xFF; while SEL is
low nothing. That RDY stays high through an ignored selection that outlasts PROCESSING is the model's reading (log entry 31). -/
def Obligations.LinesOfAPort : Prop :=
  ∀ q : PortState,
    (q.rdy = true ↔ ∃ frame, q.exchange = .responseReady frame) ∧
    (q.attn = true ↔ ∃ i : Nat, i < 8 ∧ q.notices.getLsbD i = true ∧ q.mask.getLsbD i = true) ∧
    (∀ kept count i, q.exchange = .receiving kept count ∨ q.exchange = .processing kept count → q.dataOut i = some 0xFF) ∧
    (∀ frame i, q.exchange = .reading frame ∨ (q.exchange = .responseReady frame ∧ q.sel = .taken) →
      (∀ b, frame[i]? = some b → q.dataOut i = some b) ∧ (frame.length ≤ i → q.dataOut i = some 0xFF)) ∧
    (∀ frame i, q.exchange = .idle ∨ q.exchange = .responseReady frame →
      (q.sel = .ignored → q.dataOut i = some 0xFF) ∧ (q.sel = .released → q.dataOut i = none))

/-! ### Requests of every port -/

/-- R170: HELLO makes the port ACTIVE, empties its notice set, fills its mask and arms its timer. A furnace port's
PORT_PARKED and PORT_LOST leave the hold set; TURN goes to a crane that carries the head, ROW_READY to a furnace that is
ready. It is taken in every link state and in either mode. [HELLO] -/
def Obligations.HelloOpensThePort : Prop :=
  ∀ (s : State) (p : Port), s.powered = true → s.present p = true →
    let u := s.updatePort p fun q => { q with
      link := .active, notices := 0, mask := roleKinds (portRole p), silence := some (5 * 2 ^ s.silenceCode p) }
    let body := fun (index : Nat) (v : State) => u8 (portNumber p) ++ u8 (roleNumber (portRole p)) ++ u8 index ++ u8 s.mode.code ++
      u8 (s.port p).link.code ++ [(v.port p).notices]
    (p = .p0 → exec (.hello p []) s = .next (u.done p (body 0 u))) ∧
    (∀ k, p = cranePort k →
      let v := u.raiseWhen (s.carriesHead k) p 0x02
      exec (.hello p []) s = .next (v.done p (body (craneNumber k) v))) ∧
    (∀ f, p = furnacePort f →
      let w := settle s (u.updateFurnace f fun m => { m with hold := { m.hold with portParked := false, portLost := false } })
      let v := w.raiseWhen (w.ready f) p 0x01
      exec (.hello p []) s = .next (v.done p (body (furnaceNumber f) v)))

/-- R79, R140, R171: PARK. P0 and a crane or furnace that has work in hand are answered PARK_NACK with no change;
otherwise the port is PARKED, and a furnace is held. The bytes of the answers are the model's reading (log entry 9).
[PARK] -/
def Obligations.ParkStandsThePortDown : Prop :=
  ∀ (s : State) (p : Port), s.serves p →
    (p = .p0 → exec (.park p []) s = .next (s.done p [0x00, 0x00])) ∧
    (∀ k, p = cranePort k → (s.permitOf k ≠ none ∨ (s.crane k).custody ≠ none ∨ (∃ id, s.reservation = some ⟨k, id⟩)) →
      exec (.park p []) s = .next (s.done p [0x00, 0x01])) ∧
    (∀ f, p = furnacePort f → (s.furnace f).op.isCharging = true → exec (.park p []) s = .next (s.done p [0x00, 0x02])) ∧
    (∀ k, p = cranePort k → s.permitOf k = none → (s.crane k).custody = none → (∀ id, s.reservation ≠ some ⟨k, id⟩) →
      exec (.park p []) s = .next ((s.updatePort p fun q => { q with link := .parked, silence := none }).done p [0x01])) ∧
    (∀ f, p = furnacePort f → (s.furnace f).op.isCharging = false →
      exec (.park p []) s = .next ((settle s ((s.updatePort p fun q => { q with link := .parked, silence := none }).updateFurnace f
        fun m => { m with hold := { m.hold with portParked := true } })).done p [0x01]))

/-- R174: the notice requests, in ACTIVE and in PARKED. [NOTICE_READ, NOTICE_CLEAR, NOTICE_MASK] -/
def Obligations.NoticeRequests : Prop :=
  ∀ (s : State) (p : Port), s.powered = true → s.present p = true → (s.port p).link = .active ∨ (s.port p).link = .parked →
    (s.mode = .run ∨ p = .p0) →
    exec (.noticeRead p []) s = .next (s.done p [(s.port p).notices, (s.port p).mask]) ∧
    ∀ kinds : Byte,
      (kinds &&& ~~~(roleKinds (portRole p)) = 0 →
        exec (.noticeClear p [kinds]) s = .next ((s.updatePort p fun q => { q with notices := q.notices &&& ~~~kinds }).done p
          [(s.port p).notices &&& ~~~kinds]) ∧
        exec (.noticeMask p [kinds]) s = .next ((s.updatePort p fun q => { q with mask := kinds }).done p
          [kinds, (s.port p).notices])) ∧
      (kinds &&& ~~~(roleKinds (portRole p)) ≠ 0 →
        exec (.noticeClear p [kinds]) s = .next (s.respond p (.refuse .range [])) ∧
        exec (.noticeMask p [kinds]) s = .next (s.respond p (.refuse .range [])))

/-- R184: STATUS, in ACTIVE, PARKED and OFFLINE and in either mode, reads the fields of the rule and changes nothing but
the port's machine. That it shows no reservation, which R64 names, is the model's reading (log entry 19). [STATUS] -/
def Obligations.StatusReadsTheStanding : Prop :=
  ∀ (s : State) (p : Port), s.powered = true → s.present p = true → (s.port p).link ≠ .lost →
    exec (.status p []) s = .next (s.done p (u8 s.mode.code ++ s.resetRecord.byte ++ u8 (s.port p).link.code ++ u8 s.creditsFree ++
      u8 s.lane.length ++ yesNo s.laneDoubt ++ u8 s.params.furnaceCount ++
      (s.configured.flatMap fun f => u8 (s.furnace f).status.code ++ u8 (s.furnace f).rows.length) ++
      u16 s.doubtList.length ++ u32 s.runningSeconds.toNat))

/-- R18, R38, R62, R125, R144, R159, R178: the SUPV readings, each with the body of its rule and no change but the port's
machine. The order of the last known details (log entry 11), the count before the slabs of a row (log entry 7), the four bytes
of a limit (log entry 8) and codes that no table gives (log entry 13) are the model's reading. [SLAB_READ, SEQ_READ,
LANE_READ, MAP_READ, DOUBT_LIST, FAULT_READ, PARAM_READ] -/
def Obligations.SupvReadingsChangeNothing : Prop :=
  ∀ (s : State) (body : List Byte), s.serves .p0 →
    let entry := fun x : Row => (match x.slabB with
        | none => [0x01] ++ u32 x.slabA ++ [0x00]
        | some b => [0x02] ++ u32 x.slabA ++ [0x01] ++ u32 b ++ [0x02]) ++
      u16 x.rear ++ u16 x.width ++ u16 x.residence ++ u16 x.soakTarget ++ yesNo x.soakNotified
    let fault := fun x : Bank => match x.record with
      | none => [0x00, 0x00] ++ u32 0 ++ [0xFF] ++ u32 0
      | some r => u8 r.severity.byte ++ u8 r.code.number ++ u32 (r.slab.getD 0) ++
          u8 ((r.port.map portNumber).getD 255) ++ u32 r.stamp.toNat
    (∀ r, body.length = 4 → validSlabId (field body 0 4) = true → s.slab? (field body 0 4) = some r →
      let read := fun (inRow : List Byte) => exec (.slabRead .p0 body) s = .next (s.done .p0 (
        u32 r.id ++ u16 r.length ++ u16 r.width ++ u16 r.thickness ++ [r.heatingClass] ++ u8 r.tempClass.code ++
          u8 (furnaceNumber r.destination) ++ yesNo r.pairable ++
        (match r.place with
          | .listed => [0x00, 0x00, 0x00]
          | .permitted k => [0x01] ++ u8 (craneNumber k) ++ [0x00]
          | .lifted k overdue => [0x02] ++ u8 (craneNumber k) ++ yesNo overdue
          | .onLane => [0x03, 0x00, 0x00]
          | .atEntry _ _ => [0x04, 0x00, 0x00]
          | .inFurnace _ _ => [0x05, 0x00, 0x00]
          | .doubtful _ => [0x06, 0x00, 0x00]) ++
        (if r.id ∈ s.sequence then yesNo (s.isFixed r.id) ++ u8 (s.sequence.idxOf r.id) else [0x00, 0x00]) ++
        u8 (if r.id ∈ s.lane then s.lane.idxOf r.id + 1 else 0) ++
        (match r.place with
          | .atEntry f side | .inFurnace f side => u8 (furnaceNumber f) ++ u8 side.code
          | _ => [0x00, 0x00]) ++
        (match r.partner with
          | some ⟨id, .first⟩ => u32 id ++ [0x01]
          | some ⟨id, .second⟩ => u32 id ++ [0x02]
          | none => u32 0 ++ [0x00]) ++
        inRow ++
        (match r.place with
          | .doubtful (.lifted k) => [0x02] ++ u8 (craneNumber k) ++ [0x00, 0x00]
          | .doubtful (.atEntry f side) => [0x04, 0x00] ++ u8 (furnaceNumber f) ++ u8 side.code
          | .doubtful (.inFurnace f side) => [0x05, 0x00] ++ u8 (furnaceNumber f) ++ u8 side.code
          | _ => [0x00, 0x00, 0x00, 0x00]) ++
        yesNo r.edited))
      ((∀ f side, r.place ≠ .inFurnace f side) → read (List.replicate 10 0x00)) ∧
      (∀ f side i x, r.place = .inFurnace f side → (s.furnace f).rows[i]? = some x → x.holds r.id = true →
        (∀ j y, (s.furnace f).rows[j]? = some y → y.holds r.id = true → j = i) →
        read (u16 x.rear ++ u16 x.width ++ u8 ((s.furnace f).rows.length - 1 - i) ++ u16 x.residence ++ u16 x.soakTarget ++
          yesNo x.soakNotified))) ∧
    (∀ start : Byte, start.toNat ≤ 63 → exec (.seqRead .p0 [start]) s = .next (s.done .p0 (u8 s.sequence.length ++ u8 s.listedCount ++
      u8 s.fixedSpan ++ [start] ++ idList ((s.sequence.drop start.toNat).take 12)))) ∧
    exec (.laneRead .p0 []) s = .next (s.done .p0 (u8 s.params.laneCapacity ++ u8 s.creditsFree ++
      u8 (s.countPlaces Place.isPermitted) ++ u8 (s.countPlaces Place.isLifted) ++ u8 (s.countPlaces Place.isAtEntry) ++
      yesNo s.laneDoubt ++ u8 s.headRow.code ++ u8 s.reservationCrane ++ idList s.lane)) ∧
    (∀ f start, s.configuredFurnace (field body 0 1) = some f → body.length = 2 → start = field body 1 1 → start ≤ 47 →
      exec (.mapRead .p0 body) s = .next (s.done .p0 (u8 (furnaceNumber f) ++ u8 (s.furnace f).status.code ++ (s.furnace f).hold.byte ++
        u8 (s.furnace f).op.isCharging.toNat ++ u8 (s.furnace f).rows.length ++ u8 start ++
        u8 (((s.furnace f).rows.drop start).take 2).length ++ (((s.furnace f).rows.drop start).take 2).flatMap entry))) ∧
    (body.length = 2 → field body 0 2 ≤ 383 → exec (.doubtList .p0 body) s = .next (s.done .p0 (u16 s.doubtList.length ++
      u16 (field body 0 2) ++ idList ((s.doubtList.drop (field body 0 2)).take 12)))) ∧
    (∀ b, body.length = 1 → bankOfNumber (field body 0 1) = some b →
      let x := s.banks.get b
      exec (.faultRead .p0 body) s = .next (s.done .p0 (u8 b.number ++ u8 (x.record.isSome.toNat + 2 * x.overflow.toNat +
        4 * x.lossUnlogged.toNat + 8 * x.notified.toNat + 16 * x.thresholdFlag.toNat) ++ fault x ++ u16 x.counter ++
        u8 (x.advisoryEnable.toNat + 2 * x.counting.toNat)))) ∧
    (∀ q, body.length = 2 → paramOfNumber (field body 0 2) = some q → exec (.paramRead .p0 body) s =
      .next (s.done .p0 (u16 (field body 0 2) ++ u32 (s.params.value q) ++ u32 q.limits.1 ++ u32 q.limits.2)))

/-- R118, R125: the readings of a furnace port: DISCHARGE_ASK of its front row, and MAP_READ of its own map alone. The model's
reading are SOAKED for an empty map (log entry 12), the two bytes of remaining (log entry 29), the count before the slabs of a
row (log entry 7) and ROLE before RANGE (log entry 22). [DISCHARGE_ASK, MAP_READ] -/
def Obligations.FurnaceReadings : Prop :=
  ∀ (s : State) (f : Furnace), s.serves (furnacePort f) → f ∈ s.configured →
    let entry := fun x : Row => (match x.slabB with
        | none => [0x01] ++ u32 x.slabA ++ [0x00]
        | some b => [0x02] ++ u32 x.slabA ++ [0x01] ++ u32 b ++ [0x02]) ++
      u16 x.rear ++ u16 x.width ++ u16 x.residence ++ u16 x.soakTarget ++ yesNo x.soakNotified
    ((s.furnace f).rows = [] → exec (.dischargeAsk (furnacePort f) []) s = .next (s.done (furnacePort f)
      (u8 0 ++ u32 0 ++ u8 0 ++ u32 0 ++ u16 0 ++ u16 0 ++ u8 0 ++ u16 0 ++ u8 0 ++ u8 0 ++ u8 255 ++ u8 (s.furnace f).status.code))) ∧
    (∀ r, (s.furnace f).rows.getLast? = some r → exec (.dischargeAsk (furnacePort f) []) s = .next (s.done (furnacePort f)
      (u8 1 ++ u32 r.slabA ++ u8 (if r.slabB = none then 0 else 1) ++ u32 (r.slabB.getD 0) ++ u16 r.residence ++ u16 r.soakTarget ++
        u8 (if r.soakTarget ≤ r.residence then 0 else 1) ++ u16 (r.soakTarget - r.residence) ++
        yesNo (decide ((s.furnaceParams f).effectiveLength < r.rear + r.width + (s.furnaceParams f).stroke)) ++
        u8 (s.furnace f).rows.length ++ u8 ((s.furnaceParams f).walksAvailable (s.furnace f).rows) ++
        u8 (s.furnace f).status.code))) ∧
    (∀ start : Byte, start.toNat ≤ 47 → exec (.mapRead (furnacePort f) [BitVec.ofNat 8 (furnaceNumber f), start]) s =
      .next (s.done (furnacePort f) (u8 (furnaceNumber f) ++ u8 (s.furnace f).status.code ++ (s.furnace f).hold.byte ++
        u8 (s.furnace f).op.isCharging.toNat ++ u8 (s.furnace f).rows.length ++ [start] ++
        u8 (((s.furnace f).rows.drop start.toNat).take 2).length ++ (((s.furnace f).rows.drop start.toNat).take 2).flatMap entry))) ∧
    (∀ (g : Furnace) (start : Byte), g ≠ f → exec (.mapRead (furnacePort f) [BitVec.ofNat 8 (furnaceNumber g), start]) s =
      .next (s.respond (furnacePort f) (.refuse .role [])))

/-! ### The register and the sequence (chapters 1 and 2) -/

/-- R10, R11, R14, R27: a SLAB_ANNOUNCE that passes its seven checks creates the record, LISTED and fresh, and enters it
at the tail, or directly before an unfixed entry. [SLAB_ANNOUNCE] -/
def Obligations.AnnouncementCreatesTheRecord : Prop :=
  ∀ (s : State) (r : SlabRecord) (position i : Nat), s.serves .p0 → s.mode = .run →
    r.place = .listed → r.partner = none → r.edited = false → r.pairingTested = false → r.pairDissolved = false →
    r.requeuedTested = false → r.parted = [] →
    1 ≤ r.id → r.id ≤ 4294967294 → 1500 ≤ r.length → r.length ≤ 5200 → 900 ≤ r.width → r.width ≤ 2500 →
    120 ≤ r.thickness → r.thickness ≤ 450 → furnaceNumber r.destination ≤ s.params.furnaceCount →
    s.register.length < 384 → s.live r.id = false → s.sequence.length < 64 →
    r.length + 2 * (s.furnaceParams r.destination).sideClearance ≤ (s.furnaceParams r.destination).hearthWidth →
    (s.furnaceParams r.destination).admits r.heatingClass = true →
    (position = 0 ∧ i = s.sequence.length ∨
      0 < position ∧ position ≤ 4294967294 ∧ position ∈ s.sequence ∧ s.isFixed position = false ∧ i = s.sequence.idxOf position) →
    exec (.slabAnnounce .p0 (r.description ++ u32 position)) s = .next (State.done
      (settle s { s with register := insertRecord r s.register, sequence := s.sequence.take i ++ r.id :: s.sequence.drop i })
      .p0 (u32 r.id ++ u8 i ++ u8 (s.sequence.length + 1) ++ u16 (s.register.length + 1)))

/-- R9 to R11, R13: the answers of SLAB_ANNOUNCE that change nothing, in the order of the checks, with the ranges of every
field. That a malformed body is answered STATE in CONFIG is log entry 14. [SLAB_ANNOUNCE] -/
def Obligations.AnnouncementChecksInOrder : Prop :=
  ∀ (s : State) (body : List Byte), s.serves .p0 →
    let a := announcementOf body
    let answer := fun (e : RefuseReason) => exec (.slabAnnounce .p0 body) s = .next (s.respond .p0 (.refuse e []))
    let inRange := fun (d : Furnace) => (1 ≤ a.id ∧ a.id ≤ 4294967294) ∧ (1500 ≤ a.length ∧ a.length ≤ 5200) ∧
      (900 ≤ a.width ∧ a.width ≤ 2500) ∧ (120 ≤ a.thickness ∧ a.thickness ≤ 450) ∧ a.tempClass ≤ 2 ∧
      (a.destination = furnaceNumber d ∧ a.destination ≤ s.params.furnaceCount) ∧ a.pairable ≤ 1 ∧ a.position ≤ 4294967294
    (s.mode = .config → answer .state) ∧
    (s.mode = .run → body.length ≠ 18 → answer .range) ∧
    (s.mode = .run → body.length = 18 →
      (384 ≤ s.register.length → answer .full) ∧
      (s.register.length < 384 →
        (s.live a.id = true → answer .duplicate) ∧
        (s.live a.id = false → (¬∃ d, inRange d) → answer .range) ∧
        ∀ d, s.live a.id = false → inRange d →
          ((s.furnaceParams d).hearthWidth < a.length + 2 * (s.furnaceParams d).sideClearance → answer .size) ∧
          (a.length + 2 * (s.furnaceParams d).sideClearance ≤ (s.furnaceParams d).hearthWidth →
            ((s.furnaceParams d).admits a.heatingClass = false → answer .admission) ∧
            ((s.furnaceParams d).admits a.heatingClass = true →
              (64 ≤ s.sequence.length → answer .full) ∧
              (s.sequence.length < 64 → a.position ≠ 0 → a.position ∉ s.sequence → answer .unknownSlab) ∧
              (s.sequence.length < 64 → a.position ≠ 0 → a.position ∈ s.sequence → s.isFixed a.position = true →
                answer .orderFixed)))))

/-- R28 to R30: SEQ_MOVE. Its six checks in their order, and the move of an unfixed entry, to the tail or directly before
another unfixed entry. [SEQ_MOVE] -/
def Obligations.MoveReordersTheSequence : Prop :=
  ∀ (s : State) (body : List Byte), s.serves .p0 → s.mode = .run →
    let id := field body 0 4
    let position := field body 4 4
    let answer := fun (e : RefuseReason) => exec (.seqMove .p0 body) s = .next (s.respond .p0 (.refuse e []))
    (body.length ≠ 8 ∨ id = 0 ∨ id = 4294967295 ∨ position = 4294967295 → answer .range) ∧
    (body.length = 8 → validSlabId id = true → position ≠ 4294967295 →
      (s.live id = false → answer .unknownSlab) ∧
      (s.live id = true →
        (id ∉ s.sequence → answer .state) ∧
        (id ∈ s.sequence → s.isFixed id = true → answer .orderFixed) ∧
        (id ∈ s.sequence → s.isFixed id = false →
          (position ≠ 0 → position ∉ s.sequence → answer .unknownSlab) ∧
          (position ≠ 0 → position ∈ s.sequence → s.isFixed position = true → answer .orderFixed) ∧
          ∀ i : Nat, s.sequence.Nodup → (position = 0 ∨ position ∈ s.sequence ∧ s.isFixed position = false) →
            let rest := s.sequence.filter fun x => x != id
            (position = 0 → i = rest.length) → (position ≠ 0 → position ≠ id → i = rest.idxOf position) →
            (position = id → i = s.sequence.idxOf id) →
            exec (.seqMove .p0 body) s = .next (State.done
              (settle s { s with sequence := rest.take i ++ id :: rest.drop i }) .p0 (u32 id ++ u8 i ++ u8 s.sequence.length)))))

/-- R32 to R34, R52: SEQ_WITHDRAW of a LISTED or a PERMITTED slab takes its entry out of the sequence and frees its
record; a permit is undone first. A LIFTED slab and one outside the sequence are refused. [SEQ_WITHDRAW] -/
def Obligations.WithdrawalFreesTheSlab : Prop :=
  ∀ (s : State) (body : List Byte) (r : SlabRecord), s.serves .p0 → s.mode = .run → body.length = 4 →
    validSlabId (field body 0 4) = true → s.slab? (field body 0 4) = some r →
    let former := (r.partner.map fun q => q.id).getD 0
    let withdrawn := fun (u : State) => ((u.dissolvePair r.id).leaveSequence r.id).freeSlab r.id
    let counts := fun (t : State) => u8 t.sequence.length ++ u8 t.listedCount ++ u16 t.register.length
    (r.place = .listed → exec (.seqWithdraw .p0 body) s = .next (State.done (settle s (withdrawn s)) .p0
      (u32 r.id ++ u8 0 ++ u8 0 ++ u32 former ++ counts (withdrawn s)))) ∧
    (∀ k, r.place = .permitted k →
      let u := (s.updateCrane k fun c => { c with permitTimer := none }).raiseCrane k .permitLapsed
      exec (.seqWithdraw .p0 body) s = .next (State.done (settle s (withdrawn u)) .p0
        (u32 r.id ++ u8 1 ++ u8 (craneNumber k) ++ u32 former ++ counts (withdrawn u)))) ∧
    (∀ k o, r.place = .lifted k o → exec (.seqWithdraw .p0 body) s = .next (s.respond .p0 (.refuse .inCustody []))) ∧
    (r.place.isInSequence = false → exec (.seqWithdraw .p0 body) s = .next (s.respond .p0 (.refuse .state [])))

/-! ### The cranes and the lane (chapters 3 and 4) -/

/-- R46 to R49: PERMIT_ASK. The first check that fails answers WAIT; ADMISSION alone logs. When all pass, the first LISTED
entry is PERMITTED to the crane, its timer runs, and its pairing test is made. R50, R51: PERMIT_RETURN takes the permitted slab
back to LISTED, stops the timer, dissolves the pair and logs; with custody, with no permit and for another slab it is refused.
[PERMIT_ASK, PERMIT_RETURN] -/
def Obligations.PermitsComeAndGo : Prop :=
  ∀ (s : State) (k : Crane), s.serves (cranePort k) →
    let ask := exec (.permitAsk (cranePort k) []) s
    (s.craneHoldsSlab k = true → ask = .next (s.respond (cranePort k) (.wait .holding []))) ∧
    (s.craneHoldsSlab k = false → s.firstListed = none → ask = .next (s.respond (cranePort k) (.wait .noneListed []))) ∧
    (∀ r : SlabRecord, s.craneHoldsSlab k = false → s.firstListed = some r.id → s.slab? r.id = some r →
      (s.creditsFree = 0 → ask = .next (s.respond (cranePort k) (.wait .noCredit []))) ∧
      (s.creditsFree ≠ 0 → (s.furnaceParams r.destination).admits r.heatingClass = false → ask = .next
        ((s.logFault .sequence .admissionStall (some r.id) (some (cranePort k))).respond (cranePort k) (.wait .admission (u32 r.id)))) ∧
      (s.creditsFree ≠ 0 → (s.furnaceParams r.destination).admits r.heatingClass = true →
        let u := (s.setPlace r.id (.permitted k)).updateCrane k fun c => { c with permitTimer := some (10 * s.params.permitPeriod) }
        let tested := u.updateSlab r.id fun x => { x with pairingTested := true }
        (∀ b, u.pairingPartner r.id = some b → ask = .next (State.done (settle s (tested.formPair r.id b)) (cranePort k)
          (r.description ++ u32 b ++ [0x01]))) ∧
        (u.pairingPartner r.id = none → ask = .next (State.done (settle s tested) (cranePort k)
          (r.description ++ u32 0 ++ u8 (roleCode r.partner)))))) ∧

    ∀ body : List Byte, body.length = 4 → validSlabId (field body 0 4) = true →
    let answer := fun (e : RefuseReason) => exec (.permitReturn (cranePort k) body) s = .next (s.respond (cranePort k) (.refuse e []))
    ((s.crane k).custody ≠ none → answer .inCustody) ∧
    ((s.crane k).custody = none → s.permitOf k = none → answer .state) ∧
    ∀ id, (s.crane k).custody = none → s.permitOf k = some id →
      (field body 0 4 ≠ id → answer .mismatch) ∧
      (field body 0 4 = id →
        let t := State.logFault (((s.updateCrane k fun c => { c with permitTimer := none }).setPlace id .listed).dissolvePair id)
          .sequence .permitReturned (some id) (some (cranePort k))
        exec (.permitReturn (cranePort k) body) s = .next (State.done (settle s t) (cranePort k) (u32 id ++ u8 t.creditsFree)))

/-- R65 to R69: LIFT_REPORT. The permitted slab is LIFTED and custody begins; a crane without a permit is taken late for the
first LISTED entry while a credit is free, and makes another LISTED slab DOUBTFUL. The result bytes 0 ACCEPTED and 1 LATE_ACCEPTED are
the model's reading (log entry 13). [LIFT_REPORT] -/
def Obligations.LiftsAreTaken : Prop :=
  ∀ (s : State) (k : Crane) (body : List Byte) (id : SlabId), s.serves (cranePort k) → body.length = 4 → field body 0 4 = id →
    validSlabId id = true →
    let p := cranePort k
    let report := exec (.liftReport p body) s
    let answer := fun (e : RefuseReason) => report = .next (s.respond p (.refuse e []))
    let lifted := (s.updateCrane k fun c => { c with permitTimer := none }).setPlace id (.lifted k false) |>.updateCrane k fun c =>
      { c with custody := some id, custodyTimer := some (10 * s.params.custodyPeriod) }
    let accepted := fun (result : Byte) => [result] ++ u32 id ++ u8 (s.sequence.idxOf id) ++ u8 (roleCode (s.partner? id)) ++
      slabField ((s.partner? id).map fun q => q.id) ++ yesNo (lifted.carriesHead k)
    ((s.crane k).custody ≠ none → answer .inCustody) ∧
    ((s.crane k).custody = none →
      (∀ other, s.permitOf k = some other → other ≠ id → answer .mismatch) ∧
      (s.permitOf k = some id → report = .next (State.done (settle s lifted) p (accepted 0x00))) ∧
      (s.permitOf k = none →
        (s.place? id = none → answer .unknownSlab) ∧
        (s.place? id = some .listed → s.firstListed = some id → s.creditsFree ≠ 0 →
          report = .next (State.done (settle s (lifted.logFault .sequence .lateLift (some id) (some p))) p (accepted 0x01))) ∧
        (s.place? id = some .listed → (s.firstListed ≠ some id ∨ s.creditsFree = 0) →
          report = .next (State.respond (settle s (((((s.dissolvePair id).leaveSequence id).makeDoubtful id (.lifted k)).logFault .lane
            .lateLiftDoubt (some id) (some p)).raiseSupv .doubt)) p (.refuse .late []))) ∧
        ((∃ j, s.place? id = some (.permitted j) ∨ ∃ o, s.place? id = some (.lifted j o)) → answer .late) ∧
        (∀ pl, s.place? id = some pl → pl.isInSequence = false → answer .state)))

/-- R57: a slab that joins the lane joins its tail, and each pair that touches the lane is kept exactly when it stands in one of
the two arrangements of the rule. What is noted of a dissolved pair is the model's
reading (log entry 30). R73 to R78: With a slab in custody. SETDOWN_ASK clears the crane on an undoubtful lane when its slab is the sequence head;
a deposit in turn joins the lane tail, without a clearance it is logged; one out of turn dissolves both pairs and makes the lane
doubtful; a set-aside returns the slab to LISTED and keeps its pair. The result bytes 0 IN_TURN and 1 OUT_OF_TURN are the
model's reading (log entry 13). [SETDOWN_ASK, DEPOSIT_REPORT, SET_ASIDE_REPORT] -/
def Obligations.CustodyEnds : Prop :=
  (∀ (s : State) (id : SlabId), (s.lane ++ [id]).Nodup →
    let t := s.joinLaneTail id
    let touches := fun x => x ∈ s.lane ++ [id]
    t = { s with lane := s.lane ++ [id], register := t.register } ∧
    (∀ a b : SlabRecord, s.slab? a.id = some a → s.slab? b.id = some b → a.partner = some ⟨b.id, .first⟩ →
      b.partner = some ⟨a.id, .second⟩ → touches a.id ∨ touches b.id →
      let stands := (t.lane.getLast? = some a.id ∧ t.sequence.head? = some b.id) ∨
        ∃ i : Nat, t.lane[i]? = some a.id ∧ t.lane[i + 1]? = some b.id
      (stands → t.slab? a.id = some a ∧ t.slab? b.id = some b) ∧
      (¬stands → ∃ a' b', t.slab? a.id = some a' ∧ t.slab? b.id = some b' ∧ a.becomesSingle a' ∧ b.becomesSingle b' ∧
        a'.place = a.place ∧ b'.place = b.place)) ∧
    (∀ r : SlabRecord, s.slab? r.id = some r → (∀ q, r.partner = some q → ¬touches r.id ∧ ¬touches q.id) → t.slab? r.id = some r)) ∧
  ∀ (s : State) (k : Crane) (body : List Byte) (id : SlabId), s.serves (cranePort k) → body.length = 4 → field body 0 4 = id →
    validSlabId id = true →
    let p := cranePort k
    let free := s.updateCrane k fun c => { c with custody := none, custodyTimer := none }
    let released := { free with reservation := if s.holdsReservation k = true then none else s.reservation }
    let onLane := fun (u : State) => ((u.leaveSequence id).setPlace id .onLane).joinLaneTail id
    let deposited := fun (result : Byte) (t : State) =>
      exec (.depositReport p body) s = .next (State.done (settle s t) p ([result] ++ u8 (t.lane.idxOf id + 1) ++ u8 t.creditsFree ++
        u8 t.headRow.code))
    ((s.crane k).custody = none → ∀ c ∈ [Instr.setdownAsk p body, .depositReport p body, .setAsideReport p body],
      exec c s = .next (s.respond p (.refuse .state []))) ∧
    (∀ other, (s.crane k).custody = some other → other ≠ id →
      exec (.setdownAsk p body) s = .next (s.respond p (.refuse .state [])) ∧
      exec (.depositReport p body) s = .next (s.respond p (.refuse .mismatch [])) ∧
      exec (.setAsideReport p body) s = .next (s.respond p (.refuse .mismatch []))) ∧
    ((s.crane k).custody = some id →
      (s.laneDoubt = true → exec (.setdownAsk p body) s = .next (s.respond p (.wait .laneDoubtful []))) ∧
      (s.laneDoubt = false → s.sequence.head? ≠ some id → exec (.setdownAsk p body) s = .next (s.respond p (.wait .turn []))) ∧
      (s.laneDoubt = false → s.sequence.head? = some id → exec (.setdownAsk p body) s =
        .next (State.done { s with reservation := some ⟨k, id⟩ } p ([0x00] ++ u32 id ++ u8 s.lane.length ++ u8 (s.lane.length + 1)))) ∧
      (s.sequence.head? = some id → s.reservation = some ⟨k, id⟩ → deposited 0x00 (onLane released)) ∧
      (s.sequence.head? = some id → s.reservation ≠ some ⟨k, id⟩ →
        deposited 0x00 (onLane (free.logFault .lane .depositUncleared (some id) (some p)))) ∧
      (∀ h, s.sequence.head? = some h → h ≠ id → deposited 0x01 (State.raiseSupv (State.logFault
        { onLane ((free.dissolvePair id).dissolvePair h) with laneDoubt := true } .lane .outOfTurn (some id) (some p)) .doubt)) ∧
      exec (.setAsideReport p body) s = .next (State.done (settle s (released.setPlace id .listed)) p
        (u32 id ++ u8 (s.sequence.idxOf id) ++ u8 (released.setPlace id .listed).creditsFree)))

/-! ### The furnaces (chapters 6 and 7) -/

/-- R107 to R110, R153, R154: SUPV joins or leaves a hold set; a furnace whose map agrees with itself, and the lane, are
confirmed. That CONFIRM_LANE raises ROW_READY only where the furnace was not ready before is the model's reading (log entry
15). [HOLD_SET, HOLD_RELEASE, CONFIRM_FURNACE, CONFIRM_LANE] -/
def Obligations.HoldsAndConfirmations : Prop :=
  ∀ (s : State) (f : Furnace) (body : List Byte), s.serves .p0 → s.mode = .run → body.length = 1 →
    s.configuredFurnace (field body 0 1) = some f →
    let hold := fun (on : Bool) => s.updateFurnace f fun m => { m with hold := { m.hold with supv := on } }
    let sure := s.updateFurnace f fun m => { m with doubt := false }
    let agrees := (s.furnace f).op.isCharging = false ∧
      (∀ (i : Nat) (a b : Row), (s.furnace f).rows[i]? = some a → (s.furnace f).rows[i + 1]? = some b → a.rear + a.width ≤ b.rear) ∧
      (∀ r, (s.furnace f).rows.getLast? = some r → r.rear + r.width ≤ (s.furnaceParams f).effectiveLength)
    (∀ on : Bool, exec (if on then .holdSet .p0 body else .holdRelease .p0 body) s = .next (State.done (settle s (hold on)) .p0
      (u8 (furnaceNumber f) ++ ((hold on).furnace f).hold.byte ++ u8 ((hold on).furnace f).status.code))) ∧
    (agrees → exec (.confirmFurnace .p0 body) s = .next (State.done (settle s sure) .p0
      (u8 (furnaceNumber f) ++ u8 (sure.furnace f).status.code ++ (s.furnace f).hold.byte))) ∧
    (¬agrees → exec (.confirmFurnace .p0 body) s = .next (s.respond .p0 (.refuse .state []))) ∧
    exec (.confirmLane .p0 []) s = .next (State.done (settle s { s with laneDoubt := false }) .p0
      (u8 s.lane.length ++ u8 s.headRow.code ++ u8 s.creditsFree))

/-- R112 to R114, R151: a walk of count `c`, reported by the furnace or made by SUPV. Every row moves `c` strokes and is set
back to the effective length where it passes it (OVERTRAVEL); the first new overlap from the newest makes the furnace doubtful,
and so does a walk reported during a charge. The two bytes of the far edge in the answer are the model's reading (log entry
29). [WALK_REPORT, MAP_WALK] -/
def Obligations.WalksMoveEveryRow : Prop :=
  ∀ (s : State) (f : Furnace) (body : List Byte), f ∈ s.configured →
    let fp := s.furnaceParams f
    let rows := (s.furnace f).rows
    let passes := fun (c : Nat) (r : Row) => decide (fp.effectiveLength < r.rear + c * fp.stroke + r.width)
    let moved := fun (c : Nat) => rows.map fun r =>
      { r with rear := if passes c r = true then fp.effectiveLength - r.width else r.rear + c * fp.stroke }
    let overlaps := fun (l : List Row) (i : Nat) => ∃ a b : Row, l[i]? = some a ∧ l[i + 1]? = some b ∧ b.rear < a.rear + a.width
    let walked := fun (c : Nat) (p : Port) (t : State) =>
      let u := s.updateFurnace f fun m => { m with rows := moved c }
      let v := if rows.any (passes c) = true then u.logFurnace f .overtravel (rows.getLast?.map fun r => r.slabA) (some p) else u
      ((∀ i, overlaps (moved c) i → overlaps rows i) → t = v) ∧
      (∀ (i : Nat) (older : Row), overlaps (moved c) i → ¬overlaps rows i → (∀ j, j < i → overlaps (moved c) j → overlaps rows j) →
        rows[i + 1]? = some older → t = v.doubtFurnace f .overlap (some older.slabA) (some p))
    let answer := fun (c : Nat) (t : State) => u8 c ++ u8 rows.length ++ u16 (((moved c).getLast?.map fun r => r.rear).getD 0) ++
      u16 (((moved c).getLast?.map fun r => r.rear + r.width).getD 0) ++ u8 (fp.walksAvailable (moved c)) ++
      yesNo (rows.any (passes c)) ++ u8 (t.furnace f).status.code
    (∀ c, s.serves (furnacePort f) → body.length = 1 → field body 0 1 = c → 1 ≤ c → c ≤ 8 → ∃ t, walked c (furnacePort f) t ∧
      ((s.furnace f).op.isCharging = false → exec (.walkReport (furnacePort f) body) s =
        .next (State.done (settle s t) (furnacePort f) (answer c t))) ∧
      (∀ a b w soak, (s.furnace f).op = .charging a b w soak →
        let v := t.doubtFurnace f .walkDuringCharge (some a) (some (furnacePort f))
        exec (.walkReport (furnacePort f) body) s = .next (State.done (settle s v) (furnacePort f) (answer c v)))) ∧
    (∀ c, s.serves .p0 → s.mode = .run → body.length = 2 → field body 0 1 = furnaceNumber f → field body 1 1 = c → 1 ≤ c → c ≤ 8 →
      ∃ t, walked c .p0 t ∧ exec (.mapWalk .p0 body) s = .next (State.done (settle s t) .p0 (answer c t)))

/-- R119, R120, R123, R124: DISCHARGE_TAKE removes and returns up to four of the oldest records, clears the overrun flag and
touches nothing else. DISCHARGE_REPORT takes the front row off the map: its slabs leave the register and enter the log, of
which the last 16 records stay; an underheat row logs UNDERHEAT, and each record dropped logs LOG_OVERRUN. DISCHARGE is raised
exactly when the log held no record, SOAK exactly when the new front row has soaked unnotified, and beside the notices of those
faults no other. The other records lose nothing but what named its slabs (what they note of dissolved pairs is the model's
reading, log entry 30). An empty map and a slab of another row are refused. [DISCHARGE_TAKE, DISCHARGE_REPORT] -/
def Obligations.DischargesAreLogged : Prop :=
  (∀ (s : State) (c : Byte), s.serves .p0 →
    (1 ≤ c.toNat → c.toNat ≤ 4 → exec (.dischargeTake .p0 [c]) s = .next (State.done
      { s with log := s.log.drop c.toNat, logOverrun := false } .p0
      ((s.log.take c.toNat).flatMap fun r => r.bytes (s.log.length - c.toNat) s.logOverrun))) ∧
    (c = 0 ∨ 4 < c.toNat → exec (.dischargeTake .p0 [c]) s = .next (s.respond .p0 (.refuse .range [])))) ∧
  ∀ (s : State) (f : Furnace) (body : List Byte), s.serves (furnacePort f) → body.length = 4 → field body 0 4 ≠ 4294967295 →
    let p := furnacePort f
    let rows := (s.furnace f).rows
    let report := exec (.dischargeReport p body) s
    (rows = [] → report = .next ((s.logFurnace f .dischargeEmpty none (some p)).respond p (.refuse .empty []))) ∧
    ∀ r, rows.getLast? = some r →
      (field body 0 4 ≠ 0 → field body 0 4 ≠ r.slabA → some (field body 0 4) ≠ r.slabB → report = .next (State.respond (settle s
        (s.doubtFurnace f .dischargeMismatch (some (field body 0 4)) (some p))) p (.refuse .mismatch []))) ∧
      (field body 0 4 = 0 ∨ field body 0 4 = r.slabA ∨ some (field body 0 4) = r.slabB → s.log.length ≤ 16 →
        r.slabB ≠ some r.slabA →
        let edited := fun id => ((s.slab? id).map fun x => x.edited).getD false
        let records := (slabsWithSides r.slabA r.slabB).map fun x => (⟨x.1, f, x.2, r.residence, r.soakTarget,
          decide (r.residence < r.soakTarget), (s.furnace f).doubt, edited x.1, s.runningSeconds⟩ : DischargeRecord)
        let held := s.log ++ records
        let underheat := if r.residence < r.soakTarget then s.logFurnace f .underheat (some r.slabA) (some p) else s
        let soaks := fun x : Row => rows[rows.length - 2]? = some x ∧ 2 ≤ rows.length ∧ x.soakTarget ≤ x.residence ∧ x.soakNotified = false
        let faults := (held.take (held.length - 16)).foldl (fun (v : State) d => v.logFurnace f .logOverrun (some d.slab) none) underheat
        ∃ u, report = .next (State.done (settle s u) p (u32 r.slabA ++ u32 (r.slabB.getD 0) ++ u16 r.residence ++
            u16 r.soakTarget ++ yesNo (decide (r.residence < r.soakTarget)) ++ u8 (u.furnace f).rows.length ++ u8 u.log.length ++
            yesNo (decide (16 < held.length)))) ∧
          u = { s with
            register := u.register, doubtList := s.doubtList.filter fun d => !r.holds d, furnaces := u.furnaces
            log := held.drop (held.length - 16), logOverrun := s.logOverrun || decide (16 < held.length)
            banks := faults.banks, ports := u.ports } ∧
          u.port .p0 = { s.port .p0 with notices := (faults.port .p0).notices ||| (if s.log = [] then 0x02 else 0x00) } ∧
          ((∃ x, soaks x) → u.port p = { s.port p with notices := (s.port p).notices ||| 0x04 }) ∧
          ((¬∃ x, soaks x) → u.port p = s.port p) ∧ (∀ q, q ≠ .p0 → q ≠ p → u.port q = s.port q) ∧
          (∀ id, r.holds id = true → u.slab? id = none) ∧
          (∀ id, r.holds id = false → u.slab? id = (s.slab? id).map fun x => { x with
            partner := x.partner.filter fun q => !r.holds q.id, parted := x.parted.filter fun d => !r.holds d }) ∧
          (u.furnace f).rows.length + 1 = rows.length ∧
          (∀ (i : Nat) (x : Row), i + 1 < rows.length → rows[i]? = some x → (u.furnace f).rows[i]? =
            some { x with soakNotified := x.soakNotified || (decide (i + 2 = rows.length) &&
              decide (x.soakTarget ≤ x.residence)) }) ∧
          u.furnace f = { s.furnace f with rows := (u.furnace f).rows } ∧ (∀ g, g ≠ f → u.furnace g = s.furnace g))

/-- R58: the head row, from the lane and the partner fields. R102, R129, R131 to R133, R176: CHARGE_ASK and CHARGE_BEGIN of a furnace, check by check. With every check passed the ask
reads the plan, which carries the figures of the head row in 15 bytes, and the begin takes the head row from the lane to the entry. [CHARGE_ASK, CHARGE_BEGIN] -/
def Obligations.ChargesBegin : Prop :=
  (∀ s : State, (s.lane = [] → s.headRow = .empty ∧ s.headFurnace = none) ∧ ∀ a rest, s.lane = a :: rest →
    s.headFurnace = (s.slab? a).map (fun r => r.destination) ∧ (s.partner? a = none → s.headRow = .single a) ∧
    ∀ b, s.partner? a = some ⟨b, .first⟩ →
      (rest.head? = some b → s.headRow = .pair a b) ∧ (rest.head? ≠ some b → s.headRow = .incomplete a)) ∧
  ∀ (s : State) (f : Furnace) (body : List Byte), s.serves (furnacePort f) → body.length = 8 → validSlabId (field body 0 4) = true →
    field body 4 4 ≠ 4294967295 →
    let p := furnacePort f
    let both := fun (w : WaitReason) (detail : List Byte) =>
      exec (.chargeAsk p []) s = .next (s.respond p (.wait w detail)) ∧ exec (.chargeBegin p body) s = .next (s.respond p (.wait w detail))
    ((s.furnace f).status = .doubtful → both .doubtful [0x01]) ∧
    ((s.furnace f).status = .held → both .held (s.furnace f).hold.byte) ∧
    ((s.furnace f).status = .opened →
      (s.laneDoubt = true → both .doubtful [0x00]) ∧
      (s.laneDoubt = false →
        ((s.furnace f).op.isCharging = true → both .busy []) ∧
        ((s.furnace f).op.isCharging = false →
          (s.headRow = .empty → both .noRow []) ∧
          (∀ g, s.headRow ≠ .empty → s.headFurnace = some g → g ≠ f → both .headElsewhere (u8 (furnaceNumber g))) ∧
          (∀ a, s.headRow = .incomplete a → s.headFurnace = some f → both .pairIncomplete []) ∧
          ∀ a b, (s.headRow = .single a ∧ b = none) ∨ (∃ c, s.headRow = .pair a c ∧ b = some c) → s.headFurnace = some f →
            let plan := s.planFor f a b
            let fp := s.furnaceParams f
            let rows := (s.furnace f).rows
            let carries := fun (width soak : Nat) => plan = ⟨a, b, fp.walkCount rows width, width, soak, fp.walksAvailable rows,
              fp.fit rows width (fp.walkCount rows width)⟩
            (∀ ra, s.slab? a = some ra → b = none → carries ra.width (fp.soakTarget [ra])) ∧
            (∀ c ra rc, s.slab? a = some ra → b = some c → s.slab? c = some rc →
              carries (max ra.width rc.width) (fp.soakTarget [ra, rc])) ∧
            plan.bytes = u32 a ++ u32 (b.getD 0) ++ [if b = none then 0x00 else 0x01] ++ u8 plan.walks ++ u16 plan.width ++
              u16 plan.soakTarget ++ u8 plan.walksAvailable ∧
            (plan.fit = .fits → exec (.chargeAsk p []) s = .next (s.done p plan.bytes)) ∧
            (plan.fit = .fullRows → exec (.chargeAsk p []) s = .next (s.respond p (.wait .fullRows []))) ∧
            (plan.fit = .fullLength → exec (.chargeAsk p []) s =
              .next (s.respond p (.wait .fullLength (u8 plan.walksAvailable)))) ∧
            (field body 0 4 ≠ a ∨ field body 4 4 ≠ b.getD 0 →
              exec (.chargeBegin p body) s = .next (s.respond p (.refuse .mismatch []))) ∧
            (field body 0 4 = a → field body 4 4 = b.getD 0 →
              (plan.fit = .fullRows → exec (.chargeBegin p body) s = .next (s.respond p (.wait .fullRows []))) ∧
              (plan.fit = .fullLength → exec (.chargeBegin p body) s =
                .next (s.respond p (.wait .fullLength (u8 plan.walksAvailable)))) ∧
              (plan.fit = .fits → plan.walks ≠ 0 →
                exec (.chargeBegin p body) s = .next (s.respond p (.wait .walksNeeded (u8 plan.walks)))) ∧
              (plan.fit = .fits → plan.walks = 0 →
                let t := State.updateFurnace ((slabsWithSides a b).foldl (fun (u : State) x => u.setPlace x.1 (.atEntry f x.2))
                  { s with lane := s.lane.drop (slabsWithSides a b).length }) f fun m =>
                    { m with op := .charging a b plan.width plan.soakTarget, chargeTimer := some (10 * s.params.chargePeriod) }
                exec (.chargeBegin p body) s = .next (State.done (settle s t) p (plan.bytes ++ u16 s.params.chargePeriod)))))))

/-- R117: the soak check of a furnace. R134 to R136, R139: CHARGE_END inserts the row at the entry with the soak target of the moment, and a returned charge goes
back to the head of the lane without a notice. Both find an IDLE record refused, LATE where the operation timed out.
The count before the slabs in their answers (log entry 7) and that a returned charge raises no notice (log entry 18) are the
model's reading. [CHARGE_END, CHARGE_ABORT_RETURNED] -/
def Obligations.ChargesEnd : Prop :=
  (∀ (s : State) (f : Furnace),
    (∀ x, (s.furnace f).rows.getLast? = some x → x.soakTarget ≤ x.residence → x.soakNotified = false → s.soakCheck f =
      State.raiseFurnace (s.updateFurnace f fun m => { m with rows := m.rows.dropLast ++ [{ x with soakNotified := true }] }) f .soak) ∧
    ((∀ x, (s.furnace f).rows.getLast? = some x → x.residence < x.soakTarget ∨ x.soakNotified = true) → s.soakCheck f = s)) ∧
  ∀ (s : State) (f : Furnace), s.serves (furnacePort f) →
    let p := furnacePort f
    let idle := fun (m : FurnaceState) => { m with op := .idle false, chargeTimer := none }
    (∀ c ∈ [Instr.chargeEnd p [], .chargeAbortReturned p [], .chargeAbortStuck p []],
      ((s.furnace f).op = .idle false → exec c s = .next (s.respond p (.refuse .state []))) ∧
      ((s.furnace f).op = .idle true → exec c s =
        .next ((s.logFurnace f .lateEnd none (some p)).respond p (.refuse .late [])))) ∧
    ∀ a b width planned, (s.furnace f).op = .charging a b width planned →
      let row : Row := ⟨a, b, 0, width, 0, (s.furnaceParams f).soakTarget (s.rowRecords a b), false⟩
      let inside := ((slabsWithSides a b).foldl (fun (u : State) x => u.setPlace x.1 (.inFurnace f x.2)) (s.updateFurnace f idle)).updateFurnace
        f fun m => { m with rows := row :: m.rows }
      let ended := fun (t : State) => exec (.chargeEnd p []) s = .next (State.done (settle s t) p
        (rowSlabs a b ++ u16 row.soakTarget ++ u16 planned ++ u8 ((s.furnace f).rows.length + 1) ++ u8 t.creditsFree ++
          u8 (t.furnace f).status.code))
      ((s.furnace f).rows = [] → ended (inside.soakCheck f)) ∧
      (∀ older, (s.furnace f).rows.head? = some older → width ≤ older.rear → ended inside) ∧
      (∀ older, (s.furnace f).rows.head? = some older → older.rear < width →
        ended (inside.doubtFurnace f .overlap (some older.slabA) (some p))) ∧
      exec (.chargeAbortReturned p []) s = .next (State.done ((a :: b.toList).foldl (fun (u : State) id => u.setPlace id .onLane)
        { s.updateFurnace f idle with lane := a :: b.toList ++ s.lane }) p
        ([0x00] ++ idList (a :: b.toList) ++ u8 (s.lane.length + (a :: b.toList).length)))

/-! ### Tracking doubt (chapter 8) -/

/-- R6, R16, R17, R142: a slab that becomes DOUBTFUL is single, with its last known place, and joins the tail of the doubt list; a
record that is freed leaves the register and the doubt list, and no other record names it. What is noted of a
dissolved pair and of a requeue is the model's reading (log entry 30). R89, R145 to R147: The outcomes of a SLAB_RESOLVE that leave
the furnaces alone. A DOUBTFUL slab goes back behind the fixed span, edited, its pairing-tested mark kept, and noted as one
to be charged single where that mark is yes; or to the lane tail, edited; or out of the register. A slab that is not DOUBTFUL is refused. [SLAB_RESOLVE_REQUEUE,
SLAB_RESOLVE_TO_LANE_TAIL, SLAB_RESOLVE_REMOVE] -/
def Obligations.DoubtIsResolved : Prop :=
  (∀ (s : State) (id : SlabId) (r : SlabRecord), s.slab? id = some r →
    (∀ last,
      let t := s.makeDoubtful id last
      t = { s with register := t.register, doubtList := s.doubtList ++ [id] } ∧
      (∃ r', t.slab? id = some r' ∧ r.becomesSingle r' ∧ r'.place = .doubtful last) ∧
      ∀ x o, x ≠ id → s.slab? x = some o →
        ((∃ q, o.partner = some q ∧ q.id = id) → ∃ o', t.slab? x = some o' ∧ o.becomesSingle o' ∧ o'.place = o.place) ∧
        ((∀ q, o.partner = some q → q.id ≠ id) → t.slab? x = some o)) ∧
    (let t := s.freeSlab id
     t = { s with register := t.register, doubtList := s.doubtList.filter fun d => d != id } ∧
      (t.register.map fun o => o.id) = (s.register.map fun o => o.id).filter (fun x => x != id) ∧
      ∀ x, x ≠ id → t.slab? x = (s.slab? x).map fun o =>
        { o with partner := o.partner.filter fun q => q.id != id, parted := o.parted.filter fun d => d != id }) ∧
    ∀ pl, s.resolveTo id pl = { s.updateSlab id fun o => { o with place := pl, edited := true } with
      doubtList := s.doubtList.filter fun d => d != id }) ∧
  ∀ (s : State) (slab : Word32), s.serves .p0 → s.mode = .run → validSlabId slab.toNat = true →
    let id := slab.toNat
    let answer := fun (c : Instr) (e : RefuseReason) => exec c s = .next (s.respond .p0 (.refuse e []))
    let resolved := fun (pl : Place) => { s.updateSlab id fun r => { r with place := pl, edited := true } with
      doubtList := s.doubtList.filter fun d => d != id }
    (∀ c ∈ [Instr.slabResolveRequeue .p0 slab [], .slabResolveToLaneTail .p0 slab [], .slabResolveRemove .p0 slab []],
      (s.live id = false → answer c .unknownSlab) ∧
      (∀ pl, s.place? id = some pl → pl.isDoubtful = false → answer c .state)) ∧
    ∀ last, s.place? id = some (.doubtful last) →
      (64 ≤ s.sequence.length → answer (.slabResolveRequeue .p0 slab []) .full) ∧
      (s.sequence.length < 64 → exec (.slabResolveRequeue .p0 slab []) s = .next (State.done
        (settle s { (resolved .listed).updateSlab id fun r => { r with requeuedTested := r.requeuedTested || r.pairingTested } with
          sequence := s.sequence.take s.fixedSpan ++ id :: s.sequence.drop s.fixedSpan }) .p0
        (u32 id ++ [0x00] ++ u8 s.fixedSpan ++ u8 (s.sequence.length + 1)))) ∧
      (s.creditsFree = 0 → answer (.slabResolveToLaneTail .p0 slab []) .full) ∧
      (s.creditsFree ≠ 0 → id ∉ s.lane →
        let t := (resolved .onLane).joinLaneTail id
        exec (.slabResolveToLaneTail .p0 slab []) s = .next (State.done (settle s t) .p0
          (u32 id ++ [0x01] ++ u8 (s.lane.length + 1) ++ u8 t.creditsFree ++ u8 t.headRow.code))) ∧
      exec (.slabResolveRemove .p0 slab []) s = .next (State.done (settle s (s.freeSlab id)) .p0
        (u32 id ++ [0x02] ++ u16 (s.freeSlab id).register.length ++ u16 (s.freeSlab id).doubtList.length))

/-- R148, R149: PLACE of a DOUBTFUL slab. Its checks in their order: the furnace and the shape of the request, the second
slab, the row limit, and the fit across the hearth, within the length and between the neighbours. A row that passes them is
laid: its slabs are IN_FURNACE and edited, two of them a pair, and a row laid at the front is checked for soak. In the answer
the count before the slabs (log entry 7) and the LEFT slab first (log entry 10) are the model's reading. [SLAB_RESOLVE_PLACE] -/
def Obligations.RowsArePlaced : Prop :=
  ∀ (s : State) (slab : Word32) (extra : List Byte) (last : LastKnown), s.serves .p0 → s.mode = .run →
    validSlabId slab.toNat = true → extra.length = 10 → s.place? slab.toNat = some (.doubtful last) →
    let rear := field extra 1 2
    let second := field extra 5 4
    let side := field extra 9 1
    let answer := fun (e : RefuseReason) => exec (.slabResolvePlace .p0 slab extra) s = .next (s.respond .p0 (.refuse e []))
    (s.configuredFurnace (field extra 0 1) = none → answer .range) ∧
    ∀ f, s.configuredFurnace (field extra 0 1) = some f →
      let fp := s.furnaceParams f
      let rows := (s.furnace f).rows
      let shaped := side ≤ 2 ∧ second ≠ 4294967295 ∧ second ≠ slab.toNat ∧ (side = 0 ↔ second = 0)
      let i := rows.findIdx fun r => decide (rear < r.rear)
      let clear := fun (width : Nat) => rear + width ≤ fp.effectiveLength ∧
        (∀ newer, 0 < i → rows[i - 1]? = some newer → newer.rear + newer.width ≤ rear) ∧
        (∀ older, rows[i]? = some older → rear + width ≤ older.rear)
      let settled := fun (u : State) => if i = rows.length then u.soakCheck f else u
      let laid := fun (row : Row) => s.updateFurnace f fun m => { m with rows := m.rows.take i ++ row :: m.rows.drop i }
      let placed := fun (row : Row) (t : State) => exec (.slabResolvePlace .p0 slab extra) s = .next (State.done (settle s (settled t)) .p0
        (rowSlabs row.slabA row.slabB ++ u8 i ++ u8 (rows.length + 1) ++ u16 row.soakTarget))
      (¬shaped → answer .range) ∧
      (shaped → second ≠ 0 → s.place? second = none → answer .unknownSlab) ∧
      (∀ pl, shaped → second ≠ 0 → s.place? second = some pl → pl.isDoubtful = false → answer .state) ∧
      (shaped → (second = 0 ∨ ∃ lb, s.place? second = some (.doubtful lb)) →
        (48 ≤ rows.length + (s.furnace f).op.isCharging.toNat → answer .full) ∧
        (rows.length + (s.furnace f).op.isCharging.toNat < 48 →
          (∀ ra, second = 0 → s.slab? slab.toNat = some ra →
            (fp.hearthWidth < ra.length + 2 * fp.sideClearance ∨ ¬clear ra.width → answer .range) ∧
            (ra.length + 2 * fp.sideClearance ≤ fp.hearthWidth → clear ra.width →
              let row : Row := ⟨slab.toNat, none, rear, ra.width, field extra 3 2, fp.soakTarget [ra], false⟩
              placed row ((laid row).resolveTo slab.toNat (.inFurnace f .single)))) ∧
          ∀ (a b : SlabId) (ra rb : SlabRecord), second ≠ 0 → s.slab? a = some ra → s.slab? b = some rb →
            (side = 1 ∧ a = slab.toNat ∧ b = second ∨ side = 2 ∧ b = slab.toNat ∧ a = second) →
            (fp.doubleRow = false ∨ fp.hearthWidth < ra.length + rb.length + fp.centreClearance + 2 * fp.sideClearance ∨
              ¬clear (max ra.width rb.width) → answer .range) ∧
            (fp.doubleRow = true → ra.length + rb.length + fp.centreClearance + 2 * fp.sideClearance ≤ fp.hearthWidth →
              clear (max ra.width rb.width) →
              let row : Row := ⟨a, some b, rear, max ra.width rb.width, field extra 3 2, fp.soakTarget [ra, rb], false⟩
              placed row ((((laid row).resolveTo a (.inFurnace f .left)).resolveTo b (.inFurnace f .right)).formPair a b))))

/-- R150, R152: ROW_REMOVE takes the row of a slab off its map, and its slabs become DOUBTFUL; ROW_SHIFT moves a row between its
neighbours, past the effective length only in a doubtful furnace. Both refuse an id out of range, a furnace that is not
configured, an unknown slab and a slab that is not IN_FURNACE there. In the answer of ROW_REMOVE the count before the slabs is
the model's reading (log entry 7). [ROW_REMOVE, ROW_SHIFT] -/
def Obligations.MapsAreMended : Prop :=
  ∀ (s : State) (body : List Byte) (id : SlabId), s.serves .p0 → s.mode = .run → field body 1 4 = id →
    let refuses := fun (e : RefuseReason) =>
      (body.length = 5 → exec (.rowRemove .p0 body) s = .next (s.respond .p0 (.refuse e []))) ∧
      (body.length = 7 → exec (.rowShift .p0 body) s = .next (s.respond .p0 (.refuse e [])))
    (id = 0 ∨ id = 4294967295 ∨ s.configuredFurnace (field body 0 1) = none → refuses .range) ∧
    ∀ f : Furnace, validSlabId id = true → s.configuredFurnace (field body 0 1) = some f →
    (s.place? id = none → refuses .unknownSlab) ∧
    (∀ pl, s.place? id = some pl → (∀ side, pl ≠ .inFurnace f side) → refuses .state) ∧
    ∀ (row : Row) (i : Nat) (side : Side), s.place? id = some (.inFurnace f side) →
    let rows := (s.furnace f).rows
    rows[i]? = some row → row.holds id = true → (∀ j x, rows[j]? = some x → x.holds id = true → j = i) →
    (∀ j x, rows[j]? = some x → x.holds row.slabA = true → j = i) →
    let off := s.updateFurnace f fun m => { m with rows := rows.take i ++ rows.drop (i + 1) }
    let doubted := (slabsWithSides row.slabA row.slabB).foldl (fun (u : State) x => u.makeDoubtful x.1 (.inFurnace f x.2)) off
    (body.length = 5 → (s.furnace f).op.isCharging = true →
      exec (.rowRemove .p0 body) s = .next (s.respond .p0 (.refuse .state []))) ∧
    (body.length = 5 → (s.furnace f).op.isCharging = false → exec (.rowRemove .p0 body) s = .next (State.done
      (settle s ((if i + 1 = rows.length then doubted.soakCheck f else doubted).raiseSupv .doubt)) .p0
      (rowSlabs row.slabA row.slabB ++ u16 row.rear ++ u16 row.width ++ u16 row.residence ++ u16 row.soakTarget ++
        yesNo row.soakNotified ++ u8 (rows.length - 1)))) ∧
    (body.length = 7 →
      let rear := field body 5 2
      let clear := rear + row.width ≤ 65535 ∧
        (∀ newer, 0 < i → rows[i - 1]? = some newer → newer.rear + newer.width ≤ rear) ∧
        (∀ older, rows[i + 1]? = some older → rear + row.width ≤ older.rear) ∧
        (rear + row.width ≤ (s.furnaceParams f).effectiveLength ∨ (s.furnace f).doubt = true)
      let shifted := rows.set i { row with rear := rear }
      (clear → exec (.rowShift .p0 body) s = .next (State.done (s.updateFurnace f fun m => { m with rows := shifted }) .p0
        (u32 id ++ u16 row.rear ++ u16 rear ++ u8 ((s.furnaceParams f).walksAvailable shifted)))) ∧
      (¬clear → exec (.rowShift .p0 body) s = .next (s.respond .p0 (.refuse .range []))))

/-! ### Fault banks, parameters and mode (chapters 8 and 10) -/

/-- R157 to R160, R176: the requests of a fault bank. Each changes the one bank it names, and FAULT_CLEAR answers with the
fault record before the clear. [FAULT_CLEAR, THRESHOLD_SET, ADVISORY_ENABLE] -/
def Obligations.BankRequests : Prop :=
  ∀ (s : State) (body : List Byte) (b : BankId), s.serves .p0 → bankOfNumber (field body 0 1) = some b →
    let held := s.banks.get b
    let fault := match held.record with
      | none => [0x00, 0x00] ++ u32 0 ++ [0xFF] ++ u32 0
      | some r => u8 r.severity.byte ++ u8 r.code.number ++ u32 (r.slab.getD 0) ++
          u8 ((r.port.map portNumber).getD 255) ++ u32 r.stamp.toNat
    (body.length = 1 → exec (.faultClear .p0 body) s = .next (State.done (s.updateBank b fun x =>
      { x with record := none, overflow := false, lossUnlogged := false, notified := false }) .p0 (u8 b.number ++
        u8 (held.record.isSome.toNat + 2 * held.overflow.toNat + 4 * held.lossUnlogged.toNat + 8 * held.notified.toNat +
          16 * held.thresholdFlag.toNat) ++ fault ++ u16 held.counter ++ u8 (held.advisoryEnable.toNat + 2 * held.counting.toNat)))) ∧
    (∀ start setting, body.length = 4 → field body 1 2 = start → field body 3 1 = setting →
      (start ≤ 4095 → setting ≤ 1 → exec (.thresholdSet .p0 body) s = .next (State.done (s.updateBank b fun x =>
        { x with counter := start, counting := decide (setting = 1), thresholdFlag := false }) .p0
        (u8 b.number ++ u16 start ++ u8 setting))) ∧
      (4095 < start ∨ 1 < setting → exec (.thresholdSet .p0 body) s = .next (s.respond .p0 (.refuse .range [])))) ∧
    (∀ setting, body.length = 2 → field body 1 1 = setting →
      (setting ≤ 1 → exec (.advisoryEnable .p0 body) s = .next (State.done (s.updateBank b fun x =>
        { x with advisoryEnable := decide (setting = 1) }) .p0 (u8 b.number ++ u8 setting))) ∧
      (1 < setting → exec (.advisoryEnable .p0 body) s = .next (s.respond .p0 (.refuse .range []))))

/-- R84, R94, R178: a PARAM_WRITE within its conditions stores the value, or the nearest limit, and takes ports into or out of
presence; a count in RUN, a capacity below the credits held, a geometry in use and one that fails a condition of R94 are
refused. That a pair counts where both its members have the furnace as destination (log entry 16), that a write of the
stroke, the gap or the effective length is not tested against the live records (log entry 32), the state of a port whose presence changes
(log entry 27) and the result bytes (log entry 8) are the model's reading. [PARAM_WRITE] -/
def Obligations.ParametersAreWritten : Prop :=
  ∀ (s : State) (body : List Byte) (q : ParamId) (v w : Nat), s.serves .p0 → body.length = 6 → paramOfNumber (field body 0 2) = some q →
    field body 2 4 = v → (v < q.limits.1 → w = q.limits.1) → (q.limits.2 < v → w = q.limits.2) →
    (q.limits.1 ≤ v → v ≤ q.limits.2 → w = v) →
    let write := exec (.paramWrite .p0 body) s
    let answer := fun (e : RefuseReason) => write = .next (s.respond .p0 (.refuse e []))
    let stored := ∃ t, write = .next (State.done (settle s t) .p0 ([if w = v then 0x00 else 0x01] ++ u32 w)) ∧
      t = { s with params := s.params.write q w, ports := t.ports } ∧
      (∀ x : ParamId, t.params.value x = if x = q then w else s.params.value x) ∧
      (∀ p : Port, (s.present p = t.present p → t.port p = s.port p) ∧ (s.present p ≠ t.present p → t.port p = PortState.fresh))
    let counts := q = .craneCount ∨ q = .furnaceCount
    (counts → s.mode = .config → stored) ∧ (counts → s.mode = .run → answer .state) ∧
    (q = .laneCapacity → s.creditsHeld ≤ w → stored) ∧ (q = .laneCapacity → w < s.creditsHeld → answer .inUse) ∧
    (∀ f g, q = .furnace f g → g.isGeometry = false → stored) ∧
    (∀ f g, q = .furnace f g → g.isGeometry = true →
      let fp := (s.furnaceParams f).write g w
      let fails := (g ≠ .stroke ∧ g ≠ .gap ∧ g ≠ .effectiveLength ∧
          ((∃ r ∈ s.register, r.destination = f ∧ fp.hearthWidth < r.length + 2 * fp.sideClearance) ∨
          (∃ r ∈ s.register, ∃ o ro, r.partner = some o ∧ s.slab? o.id = some ro ∧ r.destination = f ∧ ro.destination = f ∧
            (fp.doubleRow = false ∨ fp.hearthWidth < r.length + ro.length + fp.centreClearance + 2 * fp.sideClearance)))) ∨
        (s.mode = .run ∧ furnaceNumber f ≤ s.params.furnaceCount ∧ fp.hearthWidth < 1500 + 2 * fp.sideClearance)
      ((s.furnace f).rows ≠ [] ∨ (s.furnace f).op.isCharging = true → answer .inUse) ∧
      ((s.furnace f).rows = [] → (s.furnace f).op.isCharging = false → (¬fails → stored) ∧ (fails → answer .inUse))) ∧
    (¬counts → q ≠ .laneCapacity → (∀ f g, q ≠ .furnace f g) → stored)

/-- R179, R182, R183: START enters RUN when every configured furnace takes the shortest slab; CLEAR_ALL erases what the part
tracks, while no crane or furnace port is ACTIVE; RESET_RECORD_CLEAR empties the reset record. In CONFIG every SUPV request that
changes what the part tracks is refused with STATE. That CLEAR_ALL keeps the tenths of the running second (log entry 6) and the
SEL lines (log entry 26), and that those requests are refused with STATE whatever their body, but for a hold, whose body comes
first (log entry 14), is the model's. [START, CLEAR_ALL, RESET_RECORD_CLEAR] -/
def Obligations.ModeAndResetRequests : Prop :=
  ∀ s : State, s.serves .p0 →
    let takesShortest := fun f : Furnace => 1500 + 2 * (s.furnaceParams f).sideClearance ≤ (s.furnaceParams f).hearthWidth
    (s.mode = .run → exec (.start .p0 []) s = .next (s.respond .p0 (.refuse .state []))) ∧
    (s.mode = .config → (∀ f ∈ s.configured, takesShortest f) → exec (.start .p0 []) s = .next (State.done { s with mode := .run } .p0
      ([0x01] ++ u8 s.params.craneCount ++ u8 s.params.furnaceCount ++ u32 s.runningSeconds.toNat))) ∧
    (∀ f ∈ s.configured, s.mode = .config → ¬takesShortest f → (∀ g ∈ s.configured, furnaceNumber g < furnaceNumber f → takesShortest g) →
      exec (.start .p0 []) s = .next (s.respond .p0 (.refuse .inconsistent (u16 (0x1002 + 0x100 * furnaceNumber f))))) ∧
    ((∃ p : Port, p ≠ .p0 ∧ (s.port p).link = .active) → exec (.clearAll .p0 []) s = .next (s.respond .p0 (.refuse .state []))) ∧
    ((∀ p : Port, p ≠ .p0 → (s.port p).link ≠ .active) → ∃ ports : ByPort PortState,
      (∀ p : Port, ports.get p = { PortState.fresh with sel := (s.port p).sel.dropped }) ∧
      exec (.clearAll .p0 []) s = .next (State.done { State.reset with
        powered := s.powered, storeWritten := s.storeWritten, resetRecord := { s.resetRecord with clearAll := true }
        runningSeconds := s.runningSeconds, subSecond := s.subSecond, banks := s.banks, ports := ports, pending := s.pending } .p0
        ([0x00] ++ ResetRecord.byte { s.resetRecord with clearAll := true }))) ∧
    exec (.resetRecordClear .p0 []) s = .next (State.done { s with resetRecord := ⟨false, false, false⟩ } .p0 [0x00]) ∧
    (s.mode = .config →
      (∀ (body extra : List Byte) (slab : Word32), ∀ c ∈ [Instr.slabAnnounce .p0 body, .seqMove .p0 body, .seqWithdraw .p0 body,
        .slabResolveRequeue .p0 slab extra, .slabResolveToLaneTail .p0 slab extra, .slabResolveRemove .p0 slab extra,
        .slabResolvePlace .p0 slab extra, .rowRemove .p0 body, .mapWalk .p0 body, .rowShift .p0 body, .confirmFurnace .p0 body,
        .confirmLane .p0 body], exec c s = .next (s.respond .p0 (.refuse .state []))) ∧
      (∀ (body : List Byte) (f : Furnace), body.length = 1 → s.configuredFurnace (field body 0 1) = some f →
        ∀ c ∈ [Instr.holdSet .p0 body, .holdRelease .p0 body], exec c s = .next (s.respond .p0 (.refuse .state []))))
end

