-- ==== Sys2Proof/Laws/State.lean ====
section
/-!
SUPPORT. Laws/State.lean: what each named operation of the state leaves as it was, one lemma for each field and
operation and for the figures read from it, true by rfl, and what reading one crane, furnace, port or bank gives
after one of them was changed. No later proof unfolds a record update.
-/

namespace Sys2Proof.Machine

/-! ### One value for each crane, furnace, port or bank -/

@[simp] theorem ByCrane.get_set {α : Type} (v : ByCrane α) (k j : Crane) (a : α) :
    (v.set k a).get j = if j = k then a else v.get j := by cases k <;> cases j <;> rfl

@[simp] theorem ByFurnace.get_set {α : Type} (v : ByFurnace α) (f g : Furnace) (a : α) :
    (v.set f a).get g = if g = f then a else v.get g := by cases f <;> cases g <;> rfl

@[simp] theorem ByPort.get_set {α : Type} (v : ByPort α) (p q : Port) (a : α) :
    (v.set p a).get q = if q = p then a else v.get q := by cases p <;> cases q <;> rfl

@[simp] theorem ByBank.get_set {α : Type} (v : ByBank α) (b c : BankId) (a : α) :
    (v.set b a).get c = if c = b then a else v.get c := by cases b <;> cases c <;> rfl

theorem ByPort.ext_get {α : Type} (v w : ByPort α) (h : ∀ p, v.get p = w.get p) : v = w := by
  cases v; cases w
  have h0 := h .p0; have h1 := h .p1; have h2 := h .p2; have h3 := h .p3; have h4 := h .p4; have h5 := h .p5
  simp_all [ByPort.get]

@[simp] theorem State.updateCrane_crane (s : State) (k j : Crane) (g : CraneState → CraneState) :
    (s.updateCrane k g).crane j = if j = k then g (s.crane k) else s.crane j := ByCrane.get_set _ _ _ _

@[simp] theorem State.updateFurnace_furnace (s : State) (f h : Furnace) (g : FurnaceState → FurnaceState) :
    (s.updateFurnace f g).furnace h = if h = f then g (s.furnace f) else s.furnace h := ByFurnace.get_set _ _ _ _

@[simp] theorem State.updatePort_port (s : State) (p q : Port) (g : PortState → PortState) :
    (s.updatePort p g).port q = if q = p then g (s.port p) else s.port q := ByPort.get_set _ _ _ _

@[simp] theorem State.updateBank_get (s : State) (b c : BankId) (g : Bank → Bank) :
    (s.updateBank b g).banks.get c = if c = b then g (s.banks.get b) else s.banks.get c := ByBank.get_set _ _ _ _

/-! ### What a record keeps when its pair dissolves, and when another slab is freed -/

@[simp] theorem SlabRecord.unpaired_id (r : SlabRecord) : r.unpaired.id = r.id := rfl
@[simp] theorem SlabRecord.unpaired_length (r : SlabRecord) : r.unpaired.length = r.length := rfl
@[simp] theorem SlabRecord.unpaired_width (r : SlabRecord) : r.unpaired.width = r.width := rfl
@[simp] theorem SlabRecord.unpaired_thickness (r : SlabRecord) : r.unpaired.thickness = r.thickness := rfl
@[simp] theorem SlabRecord.unpaired_heatingClass (r : SlabRecord) : r.unpaired.heatingClass = r.heatingClass := rfl
@[simp] theorem SlabRecord.unpaired_tempClass (r : SlabRecord) : r.unpaired.tempClass = r.tempClass := rfl
@[simp] theorem SlabRecord.unpaired_destination (r : SlabRecord) : r.unpaired.destination = r.destination := rfl
@[simp] theorem SlabRecord.unpaired_pairable (r : SlabRecord) : r.unpaired.pairable = r.pairable := rfl
@[simp] theorem SlabRecord.unpaired_place (r : SlabRecord) : r.unpaired.place = r.place := rfl
@[simp] theorem SlabRecord.unpaired_edited (r : SlabRecord) : r.unpaired.edited = r.edited := rfl
@[simp] theorem SlabRecord.unpaired_pairingTested (r : SlabRecord) : r.unpaired.pairingTested = r.pairingTested := rfl
@[simp] theorem SlabRecord.unpaired_pairDissolved (r : SlabRecord) :
    r.unpaired.pairDissolved = (r.pairDissolved || r.partner.isSome) := rfl
@[simp] theorem SlabRecord.unpaired_requeuedTested (r : SlabRecord) : r.unpaired.requeuedTested = r.requeuedTested := rfl
@[simp] theorem SlabRecord.unpaired_partner (r : SlabRecord) : r.unpaired.partner = none := rfl
@[simp] theorem SlabRecord.forget_id (r : SlabRecord) (id : SlabId) : (r.forget id).id = r.id := rfl
@[simp] theorem SlabRecord.forget_length (r : SlabRecord) (id : SlabId) : (r.forget id).length = r.length := rfl
@[simp] theorem SlabRecord.forget_width (r : SlabRecord) (id : SlabId) : (r.forget id).width = r.width := rfl
@[simp] theorem SlabRecord.forget_thickness (r : SlabRecord) (id : SlabId) : (r.forget id).thickness = r.thickness := rfl
@[simp] theorem SlabRecord.forget_heatingClass (r : SlabRecord) (id : SlabId) : (r.forget id).heatingClass = r.heatingClass := rfl
@[simp] theorem SlabRecord.forget_tempClass (r : SlabRecord) (id : SlabId) : (r.forget id).tempClass = r.tempClass := rfl
@[simp] theorem SlabRecord.forget_destination (r : SlabRecord) (id : SlabId) : (r.forget id).destination = r.destination := rfl
@[simp] theorem SlabRecord.forget_pairable (r : SlabRecord) (id : SlabId) : (r.forget id).pairable = r.pairable := rfl
@[simp] theorem SlabRecord.forget_place (r : SlabRecord) (id : SlabId) : (r.forget id).place = r.place := rfl
@[simp] theorem SlabRecord.forget_edited (r : SlabRecord) (id : SlabId) : (r.forget id).edited = r.edited := rfl
@[simp] theorem SlabRecord.forget_pairingTested (r : SlabRecord) (id : SlabId) : (r.forget id).pairingTested = r.pairingTested := rfl
@[simp] theorem SlabRecord.forget_pairDissolved (r : SlabRecord) (id : SlabId) : (r.forget id).pairDissolved = r.pairDissolved := rfl
@[simp] theorem SlabRecord.forget_requeuedTested (r : SlabRecord) (id : SlabId) :
    (r.forget id).requeuedTested = r.requeuedTested := rfl
@[simp] theorem SlabRecord.forget_partner (r : SlabRecord) (id : SlabId) :
    (r.forget id).partner = if r.paired id then none else r.partner := rfl

/-! ### What a record keeps of a requeue -/

@[simp] theorem SlabRecord.requeued_id (r : SlabRecord) : r.requeued.id = r.id := rfl
@[simp] theorem SlabRecord.requeued_length (r : SlabRecord) : r.requeued.length = r.length := rfl
@[simp] theorem SlabRecord.requeued_width (r : SlabRecord) : r.requeued.width = r.width := rfl
@[simp] theorem SlabRecord.requeued_thickness (r : SlabRecord) : r.requeued.thickness = r.thickness := rfl
@[simp] theorem SlabRecord.requeued_heatingClass (r : SlabRecord) : r.requeued.heatingClass = r.heatingClass := rfl
@[simp] theorem SlabRecord.requeued_tempClass (r : SlabRecord) : r.requeued.tempClass = r.tempClass := rfl
@[simp] theorem SlabRecord.requeued_destination (r : SlabRecord) : r.requeued.destination = r.destination := rfl
@[simp] theorem SlabRecord.requeued_pairable (r : SlabRecord) : r.requeued.pairable = r.pairable := rfl
@[simp] theorem SlabRecord.requeued_place (r : SlabRecord) : r.requeued.place = r.place := rfl
@[simp] theorem SlabRecord.requeued_partner (r : SlabRecord) : r.requeued.partner = r.partner := rfl
@[simp] theorem SlabRecord.requeued_edited (r : SlabRecord) : r.requeued.edited = r.edited := rfl
@[simp] theorem SlabRecord.requeued_pairingTested (r : SlabRecord) : r.requeued.pairingTested = r.pairingTested := rfl
@[simp] theorem SlabRecord.requeued_pairDissolved (r : SlabRecord) : r.requeued.pairDissolved = r.pairDissolved := rfl
@[simp] theorem SlabRecord.requeued_parted (r : SlabRecord) : r.requeued.parted = r.parted := rfl
@[simp] theorem SlabRecord.requeued_requeuedTested (r : SlabRecord) :
    r.requeued.requeuedTested = (r.requeuedTested || r.pairingTested) := rfl

/-! ### What each operation leaves as it was -/

/-! updateCrane -/

@[simp] theorem State.updateCrane_powered (s : State) (k : Crane) (g : CraneState → CraneState) : (s.updateCrane k g).powered = s.powered := rfl
@[simp] theorem State.updateCrane_storeWritten (s : State) (k : Crane) (g : CraneState → CraneState) : (s.updateCrane k g).storeWritten = s.storeWritten := rfl
@[simp] theorem State.updateCrane_mode (s : State) (k : Crane) (g : CraneState → CraneState) : (s.updateCrane k g).mode = s.mode := rfl
@[simp] theorem State.updateCrane_resetRecord (s : State) (k : Crane) (g : CraneState → CraneState) : (s.updateCrane k g).resetRecord = s.resetRecord := rfl
@[simp] theorem State.updateCrane_runningSeconds (s : State) (k : Crane) (g : CraneState → CraneState) : (s.updateCrane k g).runningSeconds = s.runningSeconds := rfl
@[simp] theorem State.updateCrane_subSecond (s : State) (k : Crane) (g : CraneState → CraneState) : (s.updateCrane k g).subSecond = s.subSecond := rfl
@[simp] theorem State.updateCrane_params (s : State) (k : Crane) (g : CraneState → CraneState) : (s.updateCrane k g).params = s.params := rfl
@[simp] theorem State.updateCrane_register (s : State) (k : Crane) (g : CraneState → CraneState) : (s.updateCrane k g).register = s.register := rfl
@[simp] theorem State.updateCrane_doubtList (s : State) (k : Crane) (g : CraneState → CraneState) : (s.updateCrane k g).doubtList = s.doubtList := rfl
@[simp] theorem State.updateCrane_sequence (s : State) (k : Crane) (g : CraneState → CraneState) : (s.updateCrane k g).sequence = s.sequence := rfl
@[simp] theorem State.updateCrane_lane (s : State) (k : Crane) (g : CraneState → CraneState) : (s.updateCrane k g).lane = s.lane := rfl
@[simp] theorem State.updateCrane_laneDoubt (s : State) (k : Crane) (g : CraneState → CraneState) : (s.updateCrane k g).laneDoubt = s.laneDoubt := rfl
@[simp] theorem State.updateCrane_reservation (s : State) (k : Crane) (g : CraneState → CraneState) : (s.updateCrane k g).reservation = s.reservation := rfl
@[simp] theorem State.updateCrane_furnaces (s : State) (k : Crane) (g : CraneState → CraneState) : (s.updateCrane k g).furnaces = s.furnaces := rfl
@[simp] theorem State.updateCrane_log (s : State) (k : Crane) (g : CraneState → CraneState) : (s.updateCrane k g).log = s.log := rfl
@[simp] theorem State.updateCrane_logOverrun (s : State) (k : Crane) (g : CraneState → CraneState) : (s.updateCrane k g).logOverrun = s.logOverrun := rfl
@[simp] theorem State.updateCrane_banks (s : State) (k : Crane) (g : CraneState → CraneState) : (s.updateCrane k g).banks = s.banks := rfl
@[simp] theorem State.updateCrane_ports (s : State) (k : Crane) (g : CraneState → CraneState) : (s.updateCrane k g).ports = s.ports := rfl
@[simp] theorem State.updateCrane_pending (s : State) (k : Crane) (g : CraneState → CraneState) : (s.updateCrane k g).pending = s.pending := rfl
@[simp] theorem State.updateCrane_present (s : State) (k : Crane) (g : CraneState → CraneState) (q : Port) :
    (s.updateCrane k g).present q = s.present q := rfl
@[simp] theorem State.updateCrane_furnace (s : State) (k : Crane) (g : CraneState → CraneState) (h : Furnace) :
    (s.updateCrane k g).furnace h = s.furnace h := rfl
@[simp] theorem State.updateCrane_port (s : State) (k : Crane) (g : CraneState → CraneState) (q : Port) :
    (s.updateCrane k g).port q = s.port q := rfl
@[simp] theorem State.updateCrane_furnaceParams (s : State) (k : Crane) (g : CraneState → CraneState) (h : Furnace) :
    (s.updateCrane k g).furnaceParams h = s.furnaceParams h := rfl
@[simp] theorem State.updateCrane_slab (s : State) (k : Crane) (g : CraneState → CraneState) (x : SlabId) :
    (s.updateCrane k g).slab? x = s.slab? x := rfl
@[simp] theorem State.updateCrane_place (s : State) (k : Crane) (g : CraneState → CraneState) (x : SlabId) :
    (s.updateCrane k g).place? x = s.place? x := rfl
@[simp] theorem State.updateCrane_partner (s : State) (k : Crane) (g : CraneState → CraneState) (x : SlabId) :
    (s.updateCrane k g).partner? x = s.partner? x := rfl
@[simp] theorem State.updateCrane_creditsFree (s : State) (k : Crane) (g : CraneState → CraneState) :
    (s.updateCrane k g).creditsFree = s.creditsFree := rfl
@[simp] theorem State.updateCrane_headRow (s : State) (k : Crane) (g : CraneState → CraneState) :
    (s.updateCrane k g).headRow = s.headRow := rfl

/-! updateFurnace -/

@[simp] theorem State.updateFurnace_powered (s : State) (f : Furnace) (g : FurnaceState → FurnaceState) : (s.updateFurnace f g).powered = s.powered := rfl
@[simp] theorem State.updateFurnace_storeWritten (s : State) (f : Furnace) (g : FurnaceState → FurnaceState) : (s.updateFurnace f g).storeWritten = s.storeWritten := rfl
@[simp] theorem State.updateFurnace_mode (s : State) (f : Furnace) (g : FurnaceState → FurnaceState) : (s.updateFurnace f g).mode = s.mode := rfl
@[simp] theorem State.updateFurnace_resetRecord (s : State) (f : Furnace) (g : FurnaceState → FurnaceState) : (s.updateFurnace f g).resetRecord = s.resetRecord := rfl
@[simp] theorem State.updateFurnace_runningSeconds (s : State) (f : Furnace) (g : FurnaceState → FurnaceState) : (s.updateFurnace f g).runningSeconds = s.runningSeconds := rfl
@[simp] theorem State.updateFurnace_subSecond (s : State) (f : Furnace) (g : FurnaceState → FurnaceState) : (s.updateFurnace f g).subSecond = s.subSecond := rfl
@[simp] theorem State.updateFurnace_params (s : State) (f : Furnace) (g : FurnaceState → FurnaceState) : (s.updateFurnace f g).params = s.params := rfl
@[simp] theorem State.updateFurnace_register (s : State) (f : Furnace) (g : FurnaceState → FurnaceState) : (s.updateFurnace f g).register = s.register := rfl
@[simp] theorem State.updateFurnace_doubtList (s : State) (f : Furnace) (g : FurnaceState → FurnaceState) : (s.updateFurnace f g).doubtList = s.doubtList := rfl
@[simp] theorem State.updateFurnace_sequence (s : State) (f : Furnace) (g : FurnaceState → FurnaceState) : (s.updateFurnace f g).sequence = s.sequence := rfl
@[simp] theorem State.updateFurnace_lane (s : State) (f : Furnace) (g : FurnaceState → FurnaceState) : (s.updateFurnace f g).lane = s.lane := rfl
@[simp] theorem State.updateFurnace_laneDoubt (s : State) (f : Furnace) (g : FurnaceState → FurnaceState) : (s.updateFurnace f g).laneDoubt = s.laneDoubt := rfl
@[simp] theorem State.updateFurnace_reservation (s : State) (f : Furnace) (g : FurnaceState → FurnaceState) : (s.updateFurnace f g).reservation = s.reservation := rfl
@[simp] theorem State.updateFurnace_cranes (s : State) (f : Furnace) (g : FurnaceState → FurnaceState) : (s.updateFurnace f g).cranes = s.cranes := rfl
@[simp] theorem State.updateFurnace_log (s : State) (f : Furnace) (g : FurnaceState → FurnaceState) : (s.updateFurnace f g).log = s.log := rfl
@[simp] theorem State.updateFurnace_logOverrun (s : State) (f : Furnace) (g : FurnaceState → FurnaceState) : (s.updateFurnace f g).logOverrun = s.logOverrun := rfl
@[simp] theorem State.updateFurnace_banks (s : State) (f : Furnace) (g : FurnaceState → FurnaceState) : (s.updateFurnace f g).banks = s.banks := rfl
@[simp] theorem State.updateFurnace_ports (s : State) (f : Furnace) (g : FurnaceState → FurnaceState) : (s.updateFurnace f g).ports = s.ports := rfl
@[simp] theorem State.updateFurnace_pending (s : State) (f : Furnace) (g : FurnaceState → FurnaceState) : (s.updateFurnace f g).pending = s.pending := rfl
@[simp] theorem State.updateFurnace_present (s : State) (f : Furnace) (g : FurnaceState → FurnaceState) (q : Port) :
    (s.updateFurnace f g).present q = s.present q := rfl
@[simp] theorem State.updateFurnace_crane (s : State) (f : Furnace) (g : FurnaceState → FurnaceState) (j : Crane) :
    (s.updateFurnace f g).crane j = s.crane j := rfl
@[simp] theorem State.updateFurnace_port (s : State) (f : Furnace) (g : FurnaceState → FurnaceState) (q : Port) :
    (s.updateFurnace f g).port q = s.port q := rfl
@[simp] theorem State.updateFurnace_furnaceParams (s : State) (f : Furnace) (g : FurnaceState → FurnaceState) (h : Furnace) :
    (s.updateFurnace f g).furnaceParams h = s.furnaceParams h := rfl
@[simp] theorem State.updateFurnace_slab (s : State) (f : Furnace) (g : FurnaceState → FurnaceState) (x : SlabId) :
    (s.updateFurnace f g).slab? x = s.slab? x := rfl
@[simp] theorem State.updateFurnace_place (s : State) (f : Furnace) (g : FurnaceState → FurnaceState) (x : SlabId) :
    (s.updateFurnace f g).place? x = s.place? x := rfl
@[simp] theorem State.updateFurnace_partner (s : State) (f : Furnace) (g : FurnaceState → FurnaceState) (x : SlabId) :
    (s.updateFurnace f g).partner? x = s.partner? x := rfl
@[simp] theorem State.updateFurnace_creditsFree (s : State) (f : Furnace) (g : FurnaceState → FurnaceState) :
    (s.updateFurnace f g).creditsFree = s.creditsFree := rfl
@[simp] theorem State.updateFurnace_headRow (s : State) (f : Furnace) (g : FurnaceState → FurnaceState) :
    (s.updateFurnace f g).headRow = s.headRow := rfl

/-! updatePort -/

@[simp] theorem State.updatePort_powered (s : State) (p : Port) (g : PortState → PortState) : (s.updatePort p g).powered = s.powered := rfl
@[simp] theorem State.updatePort_storeWritten (s : State) (p : Port) (g : PortState → PortState) : (s.updatePort p g).storeWritten = s.storeWritten := rfl
@[simp] theorem State.updatePort_mode (s : State) (p : Port) (g : PortState → PortState) : (s.updatePort p g).mode = s.mode := rfl
@[simp] theorem State.updatePort_resetRecord (s : State) (p : Port) (g : PortState → PortState) : (s.updatePort p g).resetRecord = s.resetRecord := rfl
@[simp] theorem State.updatePort_runningSeconds (s : State) (p : Port) (g : PortState → PortState) : (s.updatePort p g).runningSeconds = s.runningSeconds := rfl
@[simp] theorem State.updatePort_subSecond (s : State) (p : Port) (g : PortState → PortState) : (s.updatePort p g).subSecond = s.subSecond := rfl
@[simp] theorem State.updatePort_params (s : State) (p : Port) (g : PortState → PortState) : (s.updatePort p g).params = s.params := rfl
@[simp] theorem State.updatePort_register (s : State) (p : Port) (g : PortState → PortState) : (s.updatePort p g).register = s.register := rfl
@[simp] theorem State.updatePort_doubtList (s : State) (p : Port) (g : PortState → PortState) : (s.updatePort p g).doubtList = s.doubtList := rfl
@[simp] theorem State.updatePort_sequence (s : State) (p : Port) (g : PortState → PortState) : (s.updatePort p g).sequence = s.sequence := rfl
@[simp] theorem State.updatePort_lane (s : State) (p : Port) (g : PortState → PortState) : (s.updatePort p g).lane = s.lane := rfl
@[simp] theorem State.updatePort_laneDoubt (s : State) (p : Port) (g : PortState → PortState) : (s.updatePort p g).laneDoubt = s.laneDoubt := rfl
@[simp] theorem State.updatePort_reservation (s : State) (p : Port) (g : PortState → PortState) : (s.updatePort p g).reservation = s.reservation := rfl
@[simp] theorem State.updatePort_cranes (s : State) (p : Port) (g : PortState → PortState) : (s.updatePort p g).cranes = s.cranes := rfl
@[simp] theorem State.updatePort_furnaces (s : State) (p : Port) (g : PortState → PortState) : (s.updatePort p g).furnaces = s.furnaces := rfl
@[simp] theorem State.updatePort_log (s : State) (p : Port) (g : PortState → PortState) : (s.updatePort p g).log = s.log := rfl
@[simp] theorem State.updatePort_logOverrun (s : State) (p : Port) (g : PortState → PortState) : (s.updatePort p g).logOverrun = s.logOverrun := rfl
@[simp] theorem State.updatePort_banks (s : State) (p : Port) (g : PortState → PortState) : (s.updatePort p g).banks = s.banks := rfl
@[simp] theorem State.updatePort_pending (s : State) (p : Port) (g : PortState → PortState) : (s.updatePort p g).pending = s.pending := rfl
@[simp] theorem State.updatePort_present (s : State) (p : Port) (g : PortState → PortState) (q : Port) :
    (s.updatePort p g).present q = s.present q := rfl
@[simp] theorem State.updatePort_furnace (s : State) (p : Port) (g : PortState → PortState) (h : Furnace) :
    (s.updatePort p g).furnace h = s.furnace h := rfl
@[simp] theorem State.updatePort_crane (s : State) (p : Port) (g : PortState → PortState) (j : Crane) :
    (s.updatePort p g).crane j = s.crane j := rfl
@[simp] theorem State.updatePort_furnaceParams (s : State) (p : Port) (g : PortState → PortState) (h : Furnace) :
    (s.updatePort p g).furnaceParams h = s.furnaceParams h := rfl
@[simp] theorem State.updatePort_slab (s : State) (p : Port) (g : PortState → PortState) (x : SlabId) :
    (s.updatePort p g).slab? x = s.slab? x := rfl
@[simp] theorem State.updatePort_place (s : State) (p : Port) (g : PortState → PortState) (x : SlabId) :
    (s.updatePort p g).place? x = s.place? x := rfl
@[simp] theorem State.updatePort_partner (s : State) (p : Port) (g : PortState → PortState) (x : SlabId) :
    (s.updatePort p g).partner? x = s.partner? x := rfl
@[simp] theorem State.updatePort_creditsFree (s : State) (p : Port) (g : PortState → PortState) :
    (s.updatePort p g).creditsFree = s.creditsFree := rfl
@[simp] theorem State.updatePort_headRow (s : State) (p : Port) (g : PortState → PortState) :
    (s.updatePort p g).headRow = s.headRow := rfl

/-! updateBank -/

@[simp] theorem State.updateBank_powered (s : State) (b : BankId) (g : Bank → Bank) : (s.updateBank b g).powered = s.powered := rfl
@[simp] theorem State.updateBank_storeWritten (s : State) (b : BankId) (g : Bank → Bank) : (s.updateBank b g).storeWritten = s.storeWritten := rfl
@[simp] theorem State.updateBank_mode (s : State) (b : BankId) (g : Bank → Bank) : (s.updateBank b g).mode = s.mode := rfl
@[simp] theorem State.updateBank_resetRecord (s : State) (b : BankId) (g : Bank → Bank) : (s.updateBank b g).resetRecord = s.resetRecord := rfl
@[simp] theorem State.updateBank_runningSeconds (s : State) (b : BankId) (g : Bank → Bank) : (s.updateBank b g).runningSeconds = s.runningSeconds := rfl
@[simp] theorem State.updateBank_subSecond (s : State) (b : BankId) (g : Bank → Bank) : (s.updateBank b g).subSecond = s.subSecond := rfl
@[simp] theorem State.updateBank_params (s : State) (b : BankId) (g : Bank → Bank) : (s.updateBank b g).params = s.params := rfl
@[simp] theorem State.updateBank_register (s : State) (b : BankId) (g : Bank → Bank) : (s.updateBank b g).register = s.register := rfl
@[simp] theorem State.updateBank_doubtList (s : State) (b : BankId) (g : Bank → Bank) : (s.updateBank b g).doubtList = s.doubtList := rfl
@[simp] theorem State.updateBank_sequence (s : State) (b : BankId) (g : Bank → Bank) : (s.updateBank b g).sequence = s.sequence := rfl
@[simp] theorem State.updateBank_lane (s : State) (b : BankId) (g : Bank → Bank) : (s.updateBank b g).lane = s.lane := rfl
@[simp] theorem State.updateBank_laneDoubt (s : State) (b : BankId) (g : Bank → Bank) : (s.updateBank b g).laneDoubt = s.laneDoubt := rfl
@[simp] theorem State.updateBank_reservation (s : State) (b : BankId) (g : Bank → Bank) : (s.updateBank b g).reservation = s.reservation := rfl
@[simp] theorem State.updateBank_cranes (s : State) (b : BankId) (g : Bank → Bank) : (s.updateBank b g).cranes = s.cranes := rfl
@[simp] theorem State.updateBank_furnaces (s : State) (b : BankId) (g : Bank → Bank) : (s.updateBank b g).furnaces = s.furnaces := rfl
@[simp] theorem State.updateBank_log (s : State) (b : BankId) (g : Bank → Bank) : (s.updateBank b g).log = s.log := rfl
@[simp] theorem State.updateBank_logOverrun (s : State) (b : BankId) (g : Bank → Bank) : (s.updateBank b g).logOverrun = s.logOverrun := rfl
@[simp] theorem State.updateBank_ports (s : State) (b : BankId) (g : Bank → Bank) : (s.updateBank b g).ports = s.ports := rfl
@[simp] theorem State.updateBank_pending (s : State) (b : BankId) (g : Bank → Bank) : (s.updateBank b g).pending = s.pending := rfl
@[simp] theorem State.updateBank_present (s : State) (b : BankId) (g : Bank → Bank) (q : Port) :
    (s.updateBank b g).present q = s.present q := rfl
@[simp] theorem State.updateBank_furnace (s : State) (b : BankId) (g : Bank → Bank) (h : Furnace) :
    (s.updateBank b g).furnace h = s.furnace h := rfl
@[simp] theorem State.updateBank_crane (s : State) (b : BankId) (g : Bank → Bank) (j : Crane) :
    (s.updateBank b g).crane j = s.crane j := rfl
@[simp] theorem State.updateBank_port (s : State) (b : BankId) (g : Bank → Bank) (q : Port) :
    (s.updateBank b g).port q = s.port q := rfl
@[simp] theorem State.updateBank_furnaceParams (s : State) (b : BankId) (g : Bank → Bank) (h : Furnace) :
    (s.updateBank b g).furnaceParams h = s.furnaceParams h := rfl
@[simp] theorem State.updateBank_slab (s : State) (b : BankId) (g : Bank → Bank) (x : SlabId) :
    (s.updateBank b g).slab? x = s.slab? x := rfl
@[simp] theorem State.updateBank_place (s : State) (b : BankId) (g : Bank → Bank) (x : SlabId) :
    (s.updateBank b g).place? x = s.place? x := rfl
@[simp] theorem State.updateBank_partner (s : State) (b : BankId) (g : Bank → Bank) (x : SlabId) :
    (s.updateBank b g).partner? x = s.partner? x := rfl
@[simp] theorem State.updateBank_creditsFree (s : State) (b : BankId) (g : Bank → Bank) :
    (s.updateBank b g).creditsFree = s.creditsFree := rfl
@[simp] theorem State.updateBank_headRow (s : State) (b : BankId) (g : Bank → Bank) :
    (s.updateBank b g).headRow = s.headRow := rfl

/-! updateSlab -/

@[simp] theorem State.updateSlab_powered (s : State) (id : SlabId) (g : SlabRecord → SlabRecord) : (s.updateSlab id g).powered = s.powered := rfl
@[simp] theorem State.updateSlab_storeWritten (s : State) (id : SlabId) (g : SlabRecord → SlabRecord) : (s.updateSlab id g).storeWritten = s.storeWritten := rfl
@[simp] theorem State.updateSlab_mode (s : State) (id : SlabId) (g : SlabRecord → SlabRecord) : (s.updateSlab id g).mode = s.mode := rfl
@[simp] theorem State.updateSlab_resetRecord (s : State) (id : SlabId) (g : SlabRecord → SlabRecord) : (s.updateSlab id g).resetRecord = s.resetRecord := rfl
@[simp] theorem State.updateSlab_runningSeconds (s : State) (id : SlabId) (g : SlabRecord → SlabRecord) : (s.updateSlab id g).runningSeconds = s.runningSeconds := rfl
@[simp] theorem State.updateSlab_subSecond (s : State) (id : SlabId) (g : SlabRecord → SlabRecord) : (s.updateSlab id g).subSecond = s.subSecond := rfl
@[simp] theorem State.updateSlab_params (s : State) (id : SlabId) (g : SlabRecord → SlabRecord) : (s.updateSlab id g).params = s.params := rfl
@[simp] theorem State.updateSlab_doubtList (s : State) (id : SlabId) (g : SlabRecord → SlabRecord) : (s.updateSlab id g).doubtList = s.doubtList := rfl
@[simp] theorem State.updateSlab_sequence (s : State) (id : SlabId) (g : SlabRecord → SlabRecord) : (s.updateSlab id g).sequence = s.sequence := rfl
@[simp] theorem State.updateSlab_lane (s : State) (id : SlabId) (g : SlabRecord → SlabRecord) : (s.updateSlab id g).lane = s.lane := rfl
@[simp] theorem State.updateSlab_laneDoubt (s : State) (id : SlabId) (g : SlabRecord → SlabRecord) : (s.updateSlab id g).laneDoubt = s.laneDoubt := rfl
@[simp] theorem State.updateSlab_reservation (s : State) (id : SlabId) (g : SlabRecord → SlabRecord) : (s.updateSlab id g).reservation = s.reservation := rfl
@[simp] theorem State.updateSlab_cranes (s : State) (id : SlabId) (g : SlabRecord → SlabRecord) : (s.updateSlab id g).cranes = s.cranes := rfl
@[simp] theorem State.updateSlab_furnaces (s : State) (id : SlabId) (g : SlabRecord → SlabRecord) : (s.updateSlab id g).furnaces = s.furnaces := rfl
@[simp] theorem State.updateSlab_log (s : State) (id : SlabId) (g : SlabRecord → SlabRecord) : (s.updateSlab id g).log = s.log := rfl
@[simp] theorem State.updateSlab_logOverrun (s : State) (id : SlabId) (g : SlabRecord → SlabRecord) : (s.updateSlab id g).logOverrun = s.logOverrun := rfl
@[simp] theorem State.updateSlab_banks (s : State) (id : SlabId) (g : SlabRecord → SlabRecord) : (s.updateSlab id g).banks = s.banks := rfl
@[simp] theorem State.updateSlab_ports (s : State) (id : SlabId) (g : SlabRecord → SlabRecord) : (s.updateSlab id g).ports = s.ports := rfl
@[simp] theorem State.updateSlab_pending (s : State) (id : SlabId) (g : SlabRecord → SlabRecord) : (s.updateSlab id g).pending = s.pending := rfl
@[simp] theorem State.updateSlab_present (s : State) (id : SlabId) (g : SlabRecord → SlabRecord) (q : Port) :
    (s.updateSlab id g).present q = s.present q := rfl
@[simp] theorem State.updateSlab_furnace (s : State) (id : SlabId) (g : SlabRecord → SlabRecord) (h : Furnace) :
    (s.updateSlab id g).furnace h = s.furnace h := rfl
@[simp] theorem State.updateSlab_crane (s : State) (id : SlabId) (g : SlabRecord → SlabRecord) (j : Crane) :
    (s.updateSlab id g).crane j = s.crane j := rfl
@[simp] theorem State.updateSlab_port (s : State) (id : SlabId) (g : SlabRecord → SlabRecord) (q : Port) :
    (s.updateSlab id g).port q = s.port q := rfl
@[simp] theorem State.updateSlab_furnaceParams (s : State) (id : SlabId) (g : SlabRecord → SlabRecord) (h : Furnace) :
    (s.updateSlab id g).furnaceParams h = s.furnaceParams h := rfl

/-! setPlace -/

@[simp] theorem State.setPlace_powered (s : State) (id : SlabId) (pl : Place) : (s.setPlace id pl).powered = s.powered := rfl
@[simp] theorem State.setPlace_storeWritten (s : State) (id : SlabId) (pl : Place) : (s.setPlace id pl).storeWritten = s.storeWritten := rfl
@[simp] theorem State.setPlace_mode (s : State) (id : SlabId) (pl : Place) : (s.setPlace id pl).mode = s.mode := rfl
@[simp] theorem State.setPlace_resetRecord (s : State) (id : SlabId) (pl : Place) : (s.setPlace id pl).resetRecord = s.resetRecord := rfl
@[simp] theorem State.setPlace_runningSeconds (s : State) (id : SlabId) (pl : Place) : (s.setPlace id pl).runningSeconds = s.runningSeconds := rfl
@[simp] theorem State.setPlace_subSecond (s : State) (id : SlabId) (pl : Place) : (s.setPlace id pl).subSecond = s.subSecond := rfl
@[simp] theorem State.setPlace_params (s : State) (id : SlabId) (pl : Place) : (s.setPlace id pl).params = s.params := rfl
@[simp] theorem State.setPlace_doubtList (s : State) (id : SlabId) (pl : Place) : (s.setPlace id pl).doubtList = s.doubtList := rfl
@[simp] theorem State.setPlace_sequence (s : State) (id : SlabId) (pl : Place) : (s.setPlace id pl).sequence = s.sequence := rfl
@[simp] theorem State.setPlace_lane (s : State) (id : SlabId) (pl : Place) : (s.setPlace id pl).lane = s.lane := rfl
@[simp] theorem State.setPlace_laneDoubt (s : State) (id : SlabId) (pl : Place) : (s.setPlace id pl).laneDoubt = s.laneDoubt := rfl
@[simp] theorem State.setPlace_reservation (s : State) (id : SlabId) (pl : Place) : (s.setPlace id pl).reservation = s.reservation := rfl
@[simp] theorem State.setPlace_cranes (s : State) (id : SlabId) (pl : Place) : (s.setPlace id pl).cranes = s.cranes := rfl
@[simp] theorem State.setPlace_furnaces (s : State) (id : SlabId) (pl : Place) : (s.setPlace id pl).furnaces = s.furnaces := rfl
@[simp] theorem State.setPlace_log (s : State) (id : SlabId) (pl : Place) : (s.setPlace id pl).log = s.log := rfl
@[simp] theorem State.setPlace_logOverrun (s : State) (id : SlabId) (pl : Place) : (s.setPlace id pl).logOverrun = s.logOverrun := rfl
@[simp] theorem State.setPlace_banks (s : State) (id : SlabId) (pl : Place) : (s.setPlace id pl).banks = s.banks := rfl
@[simp] theorem State.setPlace_ports (s : State) (id : SlabId) (pl : Place) : (s.setPlace id pl).ports = s.ports := rfl
@[simp] theorem State.setPlace_pending (s : State) (id : SlabId) (pl : Place) : (s.setPlace id pl).pending = s.pending := rfl
@[simp] theorem State.setPlace_present (s : State) (id : SlabId) (pl : Place) (q : Port) :
    (s.setPlace id pl).present q = s.present q := rfl
@[simp] theorem State.setPlace_furnace (s : State) (id : SlabId) (pl : Place) (h : Furnace) :
    (s.setPlace id pl).furnace h = s.furnace h := rfl
@[simp] theorem State.setPlace_crane (s : State) (id : SlabId) (pl : Place) (j : Crane) :
    (s.setPlace id pl).crane j = s.crane j := rfl
@[simp] theorem State.setPlace_port (s : State) (id : SlabId) (pl : Place) (q : Port) :
    (s.setPlace id pl).port q = s.port q := rfl
@[simp] theorem State.setPlace_furnaceParams (s : State) (id : SlabId) (pl : Place) (h : Furnace) :
    (s.setPlace id pl).furnaceParams h = s.furnaceParams h := rfl

/-! dissolvePair -/

@[simp] theorem State.dissolvePair_powered (s : State) (id : SlabId) : (s.dissolvePair id).powered = s.powered := rfl
@[simp] theorem State.dissolvePair_storeWritten (s : State) (id : SlabId) : (s.dissolvePair id).storeWritten = s.storeWritten := rfl
@[simp] theorem State.dissolvePair_mode (s : State) (id : SlabId) : (s.dissolvePair id).mode = s.mode := rfl
@[simp] theorem State.dissolvePair_resetRecord (s : State) (id : SlabId) : (s.dissolvePair id).resetRecord = s.resetRecord := rfl
@[simp] theorem State.dissolvePair_runningSeconds (s : State) (id : SlabId) : (s.dissolvePair id).runningSeconds = s.runningSeconds := rfl
@[simp] theorem State.dissolvePair_subSecond (s : State) (id : SlabId) : (s.dissolvePair id).subSecond = s.subSecond := rfl
@[simp] theorem State.dissolvePair_params (s : State) (id : SlabId) : (s.dissolvePair id).params = s.params := rfl
@[simp] theorem State.dissolvePair_doubtList (s : State) (id : SlabId) : (s.dissolvePair id).doubtList = s.doubtList := rfl
@[simp] theorem State.dissolvePair_sequence (s : State) (id : SlabId) : (s.dissolvePair id).sequence = s.sequence := rfl
@[simp] theorem State.dissolvePair_lane (s : State) (id : SlabId) : (s.dissolvePair id).lane = s.lane := rfl
@[simp] theorem State.dissolvePair_laneDoubt (s : State) (id : SlabId) : (s.dissolvePair id).laneDoubt = s.laneDoubt := rfl
@[simp] theorem State.dissolvePair_reservation (s : State) (id : SlabId) : (s.dissolvePair id).reservation = s.reservation := rfl
@[simp] theorem State.dissolvePair_cranes (s : State) (id : SlabId) : (s.dissolvePair id).cranes = s.cranes := rfl
@[simp] theorem State.dissolvePair_furnaces (s : State) (id : SlabId) : (s.dissolvePair id).furnaces = s.furnaces := rfl
@[simp] theorem State.dissolvePair_log (s : State) (id : SlabId) : (s.dissolvePair id).log = s.log := rfl
@[simp] theorem State.dissolvePair_logOverrun (s : State) (id : SlabId) : (s.dissolvePair id).logOverrun = s.logOverrun := rfl
@[simp] theorem State.dissolvePair_banks (s : State) (id : SlabId) : (s.dissolvePair id).banks = s.banks := rfl
@[simp] theorem State.dissolvePair_ports (s : State) (id : SlabId) : (s.dissolvePair id).ports = s.ports := rfl
@[simp] theorem State.dissolvePair_pending (s : State) (id : SlabId) : (s.dissolvePair id).pending = s.pending := rfl
@[simp] theorem State.dissolvePair_present (s : State) (id : SlabId) (q : Port) :
    (s.dissolvePair id).present q = s.present q := rfl
@[simp] theorem State.dissolvePair_furnace (s : State) (id : SlabId) (h : Furnace) :
    (s.dissolvePair id).furnace h = s.furnace h := rfl
@[simp] theorem State.dissolvePair_crane (s : State) (id : SlabId) (j : Crane) :
    (s.dissolvePair id).crane j = s.crane j := rfl
@[simp] theorem State.dissolvePair_port (s : State) (id : SlabId) (q : Port) :
    (s.dissolvePair id).port q = s.port q := rfl
@[simp] theorem State.dissolvePair_furnaceParams (s : State) (id : SlabId) (h : Furnace) :
    (s.dissolvePair id).furnaceParams h = s.furnaceParams h := rfl

/-! formPair -/

@[simp] theorem State.formPair_powered (s : State) (a b : SlabId) : (s.formPair a b).powered = s.powered := rfl
@[simp] theorem State.formPair_storeWritten (s : State) (a b : SlabId) : (s.formPair a b).storeWritten = s.storeWritten := rfl
@[simp] theorem State.formPair_mode (s : State) (a b : SlabId) : (s.formPair a b).mode = s.mode := rfl
@[simp] theorem State.formPair_resetRecord (s : State) (a b : SlabId) : (s.formPair a b).resetRecord = s.resetRecord := rfl
@[simp] theorem State.formPair_runningSeconds (s : State) (a b : SlabId) : (s.formPair a b).runningSeconds = s.runningSeconds := rfl
@[simp] theorem State.formPair_subSecond (s : State) (a b : SlabId) : (s.formPair a b).subSecond = s.subSecond := rfl
@[simp] theorem State.formPair_params (s : State) (a b : SlabId) : (s.formPair a b).params = s.params := rfl
@[simp] theorem State.formPair_doubtList (s : State) (a b : SlabId) : (s.formPair a b).doubtList = s.doubtList := rfl
@[simp] theorem State.formPair_sequence (s : State) (a b : SlabId) : (s.formPair a b).sequence = s.sequence := rfl
@[simp] theorem State.formPair_lane (s : State) (a b : SlabId) : (s.formPair a b).lane = s.lane := rfl
@[simp] theorem State.formPair_laneDoubt (s : State) (a b : SlabId) : (s.formPair a b).laneDoubt = s.laneDoubt := rfl
@[simp] theorem State.formPair_reservation (s : State) (a b : SlabId) : (s.formPair a b).reservation = s.reservation := rfl
@[simp] theorem State.formPair_cranes (s : State) (a b : SlabId) : (s.formPair a b).cranes = s.cranes := rfl
@[simp] theorem State.formPair_furnaces (s : State) (a b : SlabId) : (s.formPair a b).furnaces = s.furnaces := rfl
@[simp] theorem State.formPair_log (s : State) (a b : SlabId) : (s.formPair a b).log = s.log := rfl
@[simp] theorem State.formPair_logOverrun (s : State) (a b : SlabId) : (s.formPair a b).logOverrun = s.logOverrun := rfl
@[simp] theorem State.formPair_banks (s : State) (a b : SlabId) : (s.formPair a b).banks = s.banks := rfl
@[simp] theorem State.formPair_ports (s : State) (a b : SlabId) : (s.formPair a b).ports = s.ports := rfl
@[simp] theorem State.formPair_pending (s : State) (a b : SlabId) : (s.formPair a b).pending = s.pending := rfl
@[simp] theorem State.formPair_present (s : State) (a b : SlabId) (q : Port) :
    (s.formPair a b).present q = s.present q := rfl
@[simp] theorem State.formPair_furnace (s : State) (a b : SlabId) (h : Furnace) :
    (s.formPair a b).furnace h = s.furnace h := rfl
@[simp] theorem State.formPair_crane (s : State) (a b : SlabId) (j : Crane) :
    (s.formPair a b).crane j = s.crane j := rfl
@[simp] theorem State.formPair_port (s : State) (a b : SlabId) (q : Port) :
    (s.formPair a b).port q = s.port q := rfl
@[simp] theorem State.formPair_furnaceParams (s : State) (a b : SlabId) (h : Furnace) :
    (s.formPair a b).furnaceParams h = s.furnaceParams h := rfl

/-! freeSlab -/

@[simp] theorem State.freeSlab_powered (s : State) (id : SlabId) : (s.freeSlab id).powered = s.powered := rfl
@[simp] theorem State.freeSlab_storeWritten (s : State) (id : SlabId) : (s.freeSlab id).storeWritten = s.storeWritten := rfl
@[simp] theorem State.freeSlab_mode (s : State) (id : SlabId) : (s.freeSlab id).mode = s.mode := rfl
@[simp] theorem State.freeSlab_resetRecord (s : State) (id : SlabId) : (s.freeSlab id).resetRecord = s.resetRecord := rfl
@[simp] theorem State.freeSlab_runningSeconds (s : State) (id : SlabId) : (s.freeSlab id).runningSeconds = s.runningSeconds := rfl
@[simp] theorem State.freeSlab_subSecond (s : State) (id : SlabId) : (s.freeSlab id).subSecond = s.subSecond := rfl
@[simp] theorem State.freeSlab_params (s : State) (id : SlabId) : (s.freeSlab id).params = s.params := rfl
@[simp] theorem State.freeSlab_sequence (s : State) (id : SlabId) : (s.freeSlab id).sequence = s.sequence := rfl
@[simp] theorem State.freeSlab_lane (s : State) (id : SlabId) : (s.freeSlab id).lane = s.lane := rfl
@[simp] theorem State.freeSlab_laneDoubt (s : State) (id : SlabId) : (s.freeSlab id).laneDoubt = s.laneDoubt := rfl
@[simp] theorem State.freeSlab_reservation (s : State) (id : SlabId) : (s.freeSlab id).reservation = s.reservation := rfl
@[simp] theorem State.freeSlab_cranes (s : State) (id : SlabId) : (s.freeSlab id).cranes = s.cranes := rfl
@[simp] theorem State.freeSlab_furnaces (s : State) (id : SlabId) : (s.freeSlab id).furnaces = s.furnaces := rfl
@[simp] theorem State.freeSlab_log (s : State) (id : SlabId) : (s.freeSlab id).log = s.log := rfl
@[simp] theorem State.freeSlab_logOverrun (s : State) (id : SlabId) : (s.freeSlab id).logOverrun = s.logOverrun := rfl
@[simp] theorem State.freeSlab_banks (s : State) (id : SlabId) : (s.freeSlab id).banks = s.banks := rfl
@[simp] theorem State.freeSlab_ports (s : State) (id : SlabId) : (s.freeSlab id).ports = s.ports := rfl
@[simp] theorem State.freeSlab_pending (s : State) (id : SlabId) : (s.freeSlab id).pending = s.pending := rfl
@[simp] theorem State.freeSlab_present (s : State) (id : SlabId) (q : Port) :
    (s.freeSlab id).present q = s.present q := rfl
@[simp] theorem State.freeSlab_furnace (s : State) (id : SlabId) (h : Furnace) :
    (s.freeSlab id).furnace h = s.furnace h := rfl
@[simp] theorem State.freeSlab_crane (s : State) (id : SlabId) (j : Crane) :
    (s.freeSlab id).crane j = s.crane j := rfl
@[simp] theorem State.freeSlab_port (s : State) (id : SlabId) (q : Port) :
    (s.freeSlab id).port q = s.port q := rfl
@[simp] theorem State.freeSlab_furnaceParams (s : State) (id : SlabId) (h : Furnace) :
    (s.freeSlab id).furnaceParams h = s.furnaceParams h := rfl

/-! makeDoubtful -/

@[simp] theorem State.makeDoubtful_powered (s : State) (id : SlabId) (last : LastKnown) : (s.makeDoubtful id last).powered = s.powered := rfl
@[simp] theorem State.makeDoubtful_storeWritten (s : State) (id : SlabId) (last : LastKnown) : (s.makeDoubtful id last).storeWritten = s.storeWritten := rfl
@[simp] theorem State.makeDoubtful_mode (s : State) (id : SlabId) (last : LastKnown) : (s.makeDoubtful id last).mode = s.mode := rfl
@[simp] theorem State.makeDoubtful_resetRecord (s : State) (id : SlabId) (last : LastKnown) : (s.makeDoubtful id last).resetRecord = s.resetRecord := rfl
@[simp] theorem State.makeDoubtful_runningSeconds (s : State) (id : SlabId) (last : LastKnown) : (s.makeDoubtful id last).runningSeconds = s.runningSeconds := rfl
@[simp] theorem State.makeDoubtful_subSecond (s : State) (id : SlabId) (last : LastKnown) : (s.makeDoubtful id last).subSecond = s.subSecond := rfl
@[simp] theorem State.makeDoubtful_params (s : State) (id : SlabId) (last : LastKnown) : (s.makeDoubtful id last).params = s.params := rfl
@[simp] theorem State.makeDoubtful_sequence (s : State) (id : SlabId) (last : LastKnown) : (s.makeDoubtful id last).sequence = s.sequence := rfl
@[simp] theorem State.makeDoubtful_lane (s : State) (id : SlabId) (last : LastKnown) : (s.makeDoubtful id last).lane = s.lane := rfl
@[simp] theorem State.makeDoubtful_laneDoubt (s : State) (id : SlabId) (last : LastKnown) : (s.makeDoubtful id last).laneDoubt = s.laneDoubt := rfl
@[simp] theorem State.makeDoubtful_reservation (s : State) (id : SlabId) (last : LastKnown) : (s.makeDoubtful id last).reservation = s.reservation := rfl
@[simp] theorem State.makeDoubtful_cranes (s : State) (id : SlabId) (last : LastKnown) : (s.makeDoubtful id last).cranes = s.cranes := rfl
@[simp] theorem State.makeDoubtful_furnaces (s : State) (id : SlabId) (last : LastKnown) : (s.makeDoubtful id last).furnaces = s.furnaces := rfl
@[simp] theorem State.makeDoubtful_log (s : State) (id : SlabId) (last : LastKnown) : (s.makeDoubtful id last).log = s.log := rfl
@[simp] theorem State.makeDoubtful_logOverrun (s : State) (id : SlabId) (last : LastKnown) : (s.makeDoubtful id last).logOverrun = s.logOverrun := rfl
@[simp] theorem State.makeDoubtful_banks (s : State) (id : SlabId) (last : LastKnown) : (s.makeDoubtful id last).banks = s.banks := rfl
@[simp] theorem State.makeDoubtful_ports (s : State) (id : SlabId) (last : LastKnown) : (s.makeDoubtful id last).ports = s.ports := rfl
@[simp] theorem State.makeDoubtful_pending (s : State) (id : SlabId) (last : LastKnown) : (s.makeDoubtful id last).pending = s.pending := rfl
@[simp] theorem State.makeDoubtful_present (s : State) (id : SlabId) (last : LastKnown) (q : Port) :
    (s.makeDoubtful id last).present q = s.present q := rfl
@[simp] theorem State.makeDoubtful_furnace (s : State) (id : SlabId) (last : LastKnown) (h : Furnace) :
    (s.makeDoubtful id last).furnace h = s.furnace h := rfl
@[simp] theorem State.makeDoubtful_crane (s : State) (id : SlabId) (last : LastKnown) (j : Crane) :
    (s.makeDoubtful id last).crane j = s.crane j := rfl
@[simp] theorem State.makeDoubtful_port (s : State) (id : SlabId) (last : LastKnown) (q : Port) :
    (s.makeDoubtful id last).port q = s.port q := rfl
@[simp] theorem State.makeDoubtful_furnaceParams (s : State) (id : SlabId) (last : LastKnown) (h : Furnace) :
    (s.makeDoubtful id last).furnaceParams h = s.furnaceParams h := rfl

/-! resolveTo -/

@[simp] theorem State.resolveTo_powered (s : State) (id : SlabId) (pl : Place) : (s.resolveTo id pl).powered = s.powered := rfl
@[simp] theorem State.resolveTo_storeWritten (s : State) (id : SlabId) (pl : Place) : (s.resolveTo id pl).storeWritten = s.storeWritten := rfl
@[simp] theorem State.resolveTo_mode (s : State) (id : SlabId) (pl : Place) : (s.resolveTo id pl).mode = s.mode := rfl
@[simp] theorem State.resolveTo_resetRecord (s : State) (id : SlabId) (pl : Place) : (s.resolveTo id pl).resetRecord = s.resetRecord := rfl
@[simp] theorem State.resolveTo_runningSeconds (s : State) (id : SlabId) (pl : Place) : (s.resolveTo id pl).runningSeconds = s.runningSeconds := rfl
@[simp] theorem State.resolveTo_subSecond (s : State) (id : SlabId) (pl : Place) : (s.resolveTo id pl).subSecond = s.subSecond := rfl
@[simp] theorem State.resolveTo_params (s : State) (id : SlabId) (pl : Place) : (s.resolveTo id pl).params = s.params := rfl
@[simp] theorem State.resolveTo_sequence (s : State) (id : SlabId) (pl : Place) : (s.resolveTo id pl).sequence = s.sequence := rfl
@[simp] theorem State.resolveTo_lane (s : State) (id : SlabId) (pl : Place) : (s.resolveTo id pl).lane = s.lane := rfl
@[simp] theorem State.resolveTo_laneDoubt (s : State) (id : SlabId) (pl : Place) : (s.resolveTo id pl).laneDoubt = s.laneDoubt := rfl
@[simp] theorem State.resolveTo_reservation (s : State) (id : SlabId) (pl : Place) : (s.resolveTo id pl).reservation = s.reservation := rfl
@[simp] theorem State.resolveTo_cranes (s : State) (id : SlabId) (pl : Place) : (s.resolveTo id pl).cranes = s.cranes := rfl
@[simp] theorem State.resolveTo_furnaces (s : State) (id : SlabId) (pl : Place) : (s.resolveTo id pl).furnaces = s.furnaces := rfl
@[simp] theorem State.resolveTo_log (s : State) (id : SlabId) (pl : Place) : (s.resolveTo id pl).log = s.log := rfl
@[simp] theorem State.resolveTo_logOverrun (s : State) (id : SlabId) (pl : Place) : (s.resolveTo id pl).logOverrun = s.logOverrun := rfl
@[simp] theorem State.resolveTo_banks (s : State) (id : SlabId) (pl : Place) : (s.resolveTo id pl).banks = s.banks := rfl
@[simp] theorem State.resolveTo_ports (s : State) (id : SlabId) (pl : Place) : (s.resolveTo id pl).ports = s.ports := rfl
@[simp] theorem State.resolveTo_pending (s : State) (id : SlabId) (pl : Place) : (s.resolveTo id pl).pending = s.pending := rfl
@[simp] theorem State.resolveTo_present (s : State) (id : SlabId) (pl : Place) (q : Port) :
    (s.resolveTo id pl).present q = s.present q := rfl
@[simp] theorem State.resolveTo_furnace (s : State) (id : SlabId) (pl : Place) (h : Furnace) :
    (s.resolveTo id pl).furnace h = s.furnace h := rfl
@[simp] theorem State.resolveTo_crane (s : State) (id : SlabId) (pl : Place) (j : Crane) :
    (s.resolveTo id pl).crane j = s.crane j := rfl
@[simp] theorem State.resolveTo_port (s : State) (id : SlabId) (pl : Place) (q : Port) :
    (s.resolveTo id pl).port q = s.port q := rfl
@[simp] theorem State.resolveTo_furnaceParams (s : State) (id : SlabId) (pl : Place) (h : Furnace) :
    (s.resolveTo id pl).furnaceParams h = s.furnaceParams h := rfl

/-! leaveSequence -/

@[simp] theorem State.leaveSequence_powered (s : State) (id : SlabId) : (s.leaveSequence id).powered = s.powered := rfl
@[simp] theorem State.leaveSequence_storeWritten (s : State) (id : SlabId) : (s.leaveSequence id).storeWritten = s.storeWritten := rfl
@[simp] theorem State.leaveSequence_mode (s : State) (id : SlabId) : (s.leaveSequence id).mode = s.mode := rfl
@[simp] theorem State.leaveSequence_resetRecord (s : State) (id : SlabId) : (s.leaveSequence id).resetRecord = s.resetRecord := rfl
@[simp] theorem State.leaveSequence_runningSeconds (s : State) (id : SlabId) : (s.leaveSequence id).runningSeconds = s.runningSeconds := rfl
@[simp] theorem State.leaveSequence_subSecond (s : State) (id : SlabId) : (s.leaveSequence id).subSecond = s.subSecond := rfl
@[simp] theorem State.leaveSequence_params (s : State) (id : SlabId) : (s.leaveSequence id).params = s.params := rfl
@[simp] theorem State.leaveSequence_register (s : State) (id : SlabId) : (s.leaveSequence id).register = s.register := rfl
@[simp] theorem State.leaveSequence_doubtList (s : State) (id : SlabId) : (s.leaveSequence id).doubtList = s.doubtList := rfl
@[simp] theorem State.leaveSequence_lane (s : State) (id : SlabId) : (s.leaveSequence id).lane = s.lane := rfl
@[simp] theorem State.leaveSequence_laneDoubt (s : State) (id : SlabId) : (s.leaveSequence id).laneDoubt = s.laneDoubt := rfl
@[simp] theorem State.leaveSequence_reservation (s : State) (id : SlabId) : (s.leaveSequence id).reservation = s.reservation := rfl
@[simp] theorem State.leaveSequence_cranes (s : State) (id : SlabId) : (s.leaveSequence id).cranes = s.cranes := rfl
@[simp] theorem State.leaveSequence_furnaces (s : State) (id : SlabId) : (s.leaveSequence id).furnaces = s.furnaces := rfl
@[simp] theorem State.leaveSequence_log (s : State) (id : SlabId) : (s.leaveSequence id).log = s.log := rfl
@[simp] theorem State.leaveSequence_logOverrun (s : State) (id : SlabId) : (s.leaveSequence id).logOverrun = s.logOverrun := rfl
@[simp] theorem State.leaveSequence_banks (s : State) (id : SlabId) : (s.leaveSequence id).banks = s.banks := rfl
@[simp] theorem State.leaveSequence_ports (s : State) (id : SlabId) : (s.leaveSequence id).ports = s.ports := rfl
@[simp] theorem State.leaveSequence_pending (s : State) (id : SlabId) : (s.leaveSequence id).pending = s.pending := rfl
@[simp] theorem State.leaveSequence_present (s : State) (id : SlabId) (q : Port) :
    (s.leaveSequence id).present q = s.present q := rfl
@[simp] theorem State.leaveSequence_furnace (s : State) (id : SlabId) (h : Furnace) :
    (s.leaveSequence id).furnace h = s.furnace h := rfl
@[simp] theorem State.leaveSequence_crane (s : State) (id : SlabId) (j : Crane) :
    (s.leaveSequence id).crane j = s.crane j := rfl
@[simp] theorem State.leaveSequence_port (s : State) (id : SlabId) (q : Port) :
    (s.leaveSequence id).port q = s.port q := rfl
@[simp] theorem State.leaveSequence_furnaceParams (s : State) (id : SlabId) (h : Furnace) :
    (s.leaveSequence id).furnaceParams h = s.furnaceParams h := rfl
@[simp] theorem State.leaveSequence_slab (s : State) (id : SlabId) (x : SlabId) :
    (s.leaveSequence id).slab? x = s.slab? x := rfl
@[simp] theorem State.leaveSequence_place (s : State) (id : SlabId) (x : SlabId) :
    (s.leaveSequence id).place? x = s.place? x := rfl
@[simp] theorem State.leaveSequence_partner (s : State) (id : SlabId) (x : SlabId) :
    (s.leaveSequence id).partner? x = s.partner? x := rfl
@[simp] theorem State.leaveSequence_creditsFree (s : State) (id : SlabId) :
    (s.leaveSequence id).creditsFree = s.creditsFree := rfl
@[simp] theorem State.leaveSequence_headRow (s : State) (id : SlabId) :
    (s.leaveSequence id).headRow = s.headRow := rfl

/-! joinSequence -/

@[simp] theorem State.joinSequence_powered (s : State) (i : Nat) (id : SlabId) : (s.joinSequence i id).powered = s.powered := rfl
@[simp] theorem State.joinSequence_storeWritten (s : State) (i : Nat) (id : SlabId) : (s.joinSequence i id).storeWritten = s.storeWritten := rfl
@[simp] theorem State.joinSequence_mode (s : State) (i : Nat) (id : SlabId) : (s.joinSequence i id).mode = s.mode := rfl
@[simp] theorem State.joinSequence_resetRecord (s : State) (i : Nat) (id : SlabId) : (s.joinSequence i id).resetRecord = s.resetRecord := rfl
@[simp] theorem State.joinSequence_runningSeconds (s : State) (i : Nat) (id : SlabId) : (s.joinSequence i id).runningSeconds = s.runningSeconds := rfl
@[simp] theorem State.joinSequence_subSecond (s : State) (i : Nat) (id : SlabId) : (s.joinSequence i id).subSecond = s.subSecond := rfl
@[simp] theorem State.joinSequence_params (s : State) (i : Nat) (id : SlabId) : (s.joinSequence i id).params = s.params := rfl
@[simp] theorem State.joinSequence_register (s : State) (i : Nat) (id : SlabId) : (s.joinSequence i id).register = s.register := rfl
@[simp] theorem State.joinSequence_doubtList (s : State) (i : Nat) (id : SlabId) : (s.joinSequence i id).doubtList = s.doubtList := rfl
@[simp] theorem State.joinSequence_lane (s : State) (i : Nat) (id : SlabId) : (s.joinSequence i id).lane = s.lane := rfl
@[simp] theorem State.joinSequence_laneDoubt (s : State) (i : Nat) (id : SlabId) : (s.joinSequence i id).laneDoubt = s.laneDoubt := rfl
@[simp] theorem State.joinSequence_reservation (s : State) (i : Nat) (id : SlabId) : (s.joinSequence i id).reservation = s.reservation := rfl
@[simp] theorem State.joinSequence_cranes (s : State) (i : Nat) (id : SlabId) : (s.joinSequence i id).cranes = s.cranes := rfl
@[simp] theorem State.joinSequence_furnaces (s : State) (i : Nat) (id : SlabId) : (s.joinSequence i id).furnaces = s.furnaces := rfl
@[simp] theorem State.joinSequence_log (s : State) (i : Nat) (id : SlabId) : (s.joinSequence i id).log = s.log := rfl
@[simp] theorem State.joinSequence_logOverrun (s : State) (i : Nat) (id : SlabId) : (s.joinSequence i id).logOverrun = s.logOverrun := rfl
@[simp] theorem State.joinSequence_banks (s : State) (i : Nat) (id : SlabId) : (s.joinSequence i id).banks = s.banks := rfl
@[simp] theorem State.joinSequence_ports (s : State) (i : Nat) (id : SlabId) : (s.joinSequence i id).ports = s.ports := rfl
@[simp] theorem State.joinSequence_pending (s : State) (i : Nat) (id : SlabId) : (s.joinSequence i id).pending = s.pending := rfl
@[simp] theorem State.joinSequence_present (s : State) (i : Nat) (id : SlabId) (q : Port) :
    (s.joinSequence i id).present q = s.present q := rfl
@[simp] theorem State.joinSequence_furnace (s : State) (i : Nat) (id : SlabId) (h : Furnace) :
    (s.joinSequence i id).furnace h = s.furnace h := rfl
@[simp] theorem State.joinSequence_crane (s : State) (i : Nat) (id : SlabId) (j : Crane) :
    (s.joinSequence i id).crane j = s.crane j := rfl
@[simp] theorem State.joinSequence_port (s : State) (i : Nat) (id : SlabId) (q : Port) :
    (s.joinSequence i id).port q = s.port q := rfl
@[simp] theorem State.joinSequence_furnaceParams (s : State) (i : Nat) (id : SlabId) (h : Furnace) :
    (s.joinSequence i id).furnaceParams h = s.furnaceParams h := rfl
@[simp] theorem State.joinSequence_slab (s : State) (i : Nat) (id : SlabId) (x : SlabId) :
    (s.joinSequence i id).slab? x = s.slab? x := rfl
@[simp] theorem State.joinSequence_place (s : State) (i : Nat) (id : SlabId) (x : SlabId) :
    (s.joinSequence i id).place? x = s.place? x := rfl
@[simp] theorem State.joinSequence_partner (s : State) (i : Nat) (id : SlabId) (x : SlabId) :
    (s.joinSequence i id).partner? x = s.partner? x := rfl
@[simp] theorem State.joinSequence_creditsFree (s : State) (i : Nat) (id : SlabId) :
    (s.joinSequence i id).creditsFree = s.creditsFree := rfl
@[simp] theorem State.joinSequence_headRow (s : State) (i : Nat) (id : SlabId) :
    (s.joinSequence i id).headRow = s.headRow := rfl

/-! releaseReservation -/

@[simp] theorem State.releaseReservation_powered (s : State) (k : Crane) : (s.releaseReservation k).powered = s.powered := rfl
@[simp] theorem State.releaseReservation_storeWritten (s : State) (k : Crane) : (s.releaseReservation k).storeWritten = s.storeWritten := rfl
@[simp] theorem State.releaseReservation_mode (s : State) (k : Crane) : (s.releaseReservation k).mode = s.mode := rfl
@[simp] theorem State.releaseReservation_resetRecord (s : State) (k : Crane) : (s.releaseReservation k).resetRecord = s.resetRecord := rfl
@[simp] theorem State.releaseReservation_runningSeconds (s : State) (k : Crane) : (s.releaseReservation k).runningSeconds = s.runningSeconds := rfl
@[simp] theorem State.releaseReservation_subSecond (s : State) (k : Crane) : (s.releaseReservation k).subSecond = s.subSecond := rfl
@[simp] theorem State.releaseReservation_params (s : State) (k : Crane) : (s.releaseReservation k).params = s.params := rfl
@[simp] theorem State.releaseReservation_register (s : State) (k : Crane) : (s.releaseReservation k).register = s.register := rfl
@[simp] theorem State.releaseReservation_doubtList (s : State) (k : Crane) : (s.releaseReservation k).doubtList = s.doubtList := rfl
@[simp] theorem State.releaseReservation_sequence (s : State) (k : Crane) : (s.releaseReservation k).sequence = s.sequence := rfl
@[simp] theorem State.releaseReservation_lane (s : State) (k : Crane) : (s.releaseReservation k).lane = s.lane := rfl
@[simp] theorem State.releaseReservation_laneDoubt (s : State) (k : Crane) : (s.releaseReservation k).laneDoubt = s.laneDoubt := rfl
@[simp] theorem State.releaseReservation_cranes (s : State) (k : Crane) : (s.releaseReservation k).cranes = s.cranes := rfl
@[simp] theorem State.releaseReservation_furnaces (s : State) (k : Crane) : (s.releaseReservation k).furnaces = s.furnaces := rfl
@[simp] theorem State.releaseReservation_log (s : State) (k : Crane) : (s.releaseReservation k).log = s.log := rfl
@[simp] theorem State.releaseReservation_logOverrun (s : State) (k : Crane) : (s.releaseReservation k).logOverrun = s.logOverrun := rfl
@[simp] theorem State.releaseReservation_banks (s : State) (k : Crane) : (s.releaseReservation k).banks = s.banks := rfl
@[simp] theorem State.releaseReservation_ports (s : State) (k : Crane) : (s.releaseReservation k).ports = s.ports := rfl
@[simp] theorem State.releaseReservation_pending (s : State) (k : Crane) : (s.releaseReservation k).pending = s.pending := rfl
@[simp] theorem State.releaseReservation_present (s : State) (k : Crane) (q : Port) :
    (s.releaseReservation k).present q = s.present q := rfl
@[simp] theorem State.releaseReservation_furnace (s : State) (k : Crane) (h : Furnace) :
    (s.releaseReservation k).furnace h = s.furnace h := rfl
@[simp] theorem State.releaseReservation_crane (s : State) (k : Crane) (j : Crane) :
    (s.releaseReservation k).crane j = s.crane j := rfl
@[simp] theorem State.releaseReservation_port (s : State) (k : Crane) (q : Port) :
    (s.releaseReservation k).port q = s.port q := rfl
@[simp] theorem State.releaseReservation_furnaceParams (s : State) (k : Crane) (h : Furnace) :
    (s.releaseReservation k).furnaceParams h = s.furnaceParams h := rfl
@[simp] theorem State.releaseReservation_slab (s : State) (k : Crane) (x : SlabId) :
    (s.releaseReservation k).slab? x = s.slab? x := rfl
@[simp] theorem State.releaseReservation_place (s : State) (k : Crane) (x : SlabId) :
    (s.releaseReservation k).place? x = s.place? x := rfl
@[simp] theorem State.releaseReservation_partner (s : State) (k : Crane) (x : SlabId) :
    (s.releaseReservation k).partner? x = s.partner? x := rfl
@[simp] theorem State.releaseReservation_creditsFree (s : State) (k : Crane) :
    (s.releaseReservation k).creditsFree = s.creditsFree := rfl
@[simp] theorem State.releaseReservation_headRow (s : State) (k : Crane) :
    (s.releaseReservation k).headRow = s.headRow := rfl

/-! raiseWhen -/

@[simp] theorem State.raiseWhen_powered (s : State) (c : Bool) (p : Port) (bit : Byte) : (s.raiseWhen c p bit).powered = s.powered := rfl
@[simp] theorem State.raiseWhen_storeWritten (s : State) (c : Bool) (p : Port) (bit : Byte) : (s.raiseWhen c p bit).storeWritten = s.storeWritten := rfl
@[simp] theorem State.raiseWhen_mode (s : State) (c : Bool) (p : Port) (bit : Byte) : (s.raiseWhen c p bit).mode = s.mode := rfl
@[simp] theorem State.raiseWhen_resetRecord (s : State) (c : Bool) (p : Port) (bit : Byte) : (s.raiseWhen c p bit).resetRecord = s.resetRecord := rfl
@[simp] theorem State.raiseWhen_runningSeconds (s : State) (c : Bool) (p : Port) (bit : Byte) : (s.raiseWhen c p bit).runningSeconds = s.runningSeconds := rfl
@[simp] theorem State.raiseWhen_subSecond (s : State) (c : Bool) (p : Port) (bit : Byte) : (s.raiseWhen c p bit).subSecond = s.subSecond := rfl
@[simp] theorem State.raiseWhen_params (s : State) (c : Bool) (p : Port) (bit : Byte) : (s.raiseWhen c p bit).params = s.params := rfl
@[simp] theorem State.raiseWhen_register (s : State) (c : Bool) (p : Port) (bit : Byte) : (s.raiseWhen c p bit).register = s.register := rfl
@[simp] theorem State.raiseWhen_doubtList (s : State) (c : Bool) (p : Port) (bit : Byte) : (s.raiseWhen c p bit).doubtList = s.doubtList := rfl
@[simp] theorem State.raiseWhen_sequence (s : State) (c : Bool) (p : Port) (bit : Byte) : (s.raiseWhen c p bit).sequence = s.sequence := rfl
@[simp] theorem State.raiseWhen_lane (s : State) (c : Bool) (p : Port) (bit : Byte) : (s.raiseWhen c p bit).lane = s.lane := rfl
@[simp] theorem State.raiseWhen_laneDoubt (s : State) (c : Bool) (p : Port) (bit : Byte) : (s.raiseWhen c p bit).laneDoubt = s.laneDoubt := rfl
@[simp] theorem State.raiseWhen_reservation (s : State) (c : Bool) (p : Port) (bit : Byte) : (s.raiseWhen c p bit).reservation = s.reservation := rfl
@[simp] theorem State.raiseWhen_cranes (s : State) (c : Bool) (p : Port) (bit : Byte) : (s.raiseWhen c p bit).cranes = s.cranes := rfl
@[simp] theorem State.raiseWhen_furnaces (s : State) (c : Bool) (p : Port) (bit : Byte) : (s.raiseWhen c p bit).furnaces = s.furnaces := rfl
@[simp] theorem State.raiseWhen_log (s : State) (c : Bool) (p : Port) (bit : Byte) : (s.raiseWhen c p bit).log = s.log := rfl
@[simp] theorem State.raiseWhen_logOverrun (s : State) (c : Bool) (p : Port) (bit : Byte) : (s.raiseWhen c p bit).logOverrun = s.logOverrun := rfl
@[simp] theorem State.raiseWhen_banks (s : State) (c : Bool) (p : Port) (bit : Byte) : (s.raiseWhen c p bit).banks = s.banks := rfl
@[simp] theorem State.raiseWhen_pending (s : State) (c : Bool) (p : Port) (bit : Byte) : (s.raiseWhen c p bit).pending = s.pending := rfl
@[simp] theorem State.raiseWhen_present (s : State) (c : Bool) (p : Port) (bit : Byte) (q : Port) :
    (s.raiseWhen c p bit).present q = s.present q := rfl
@[simp] theorem State.raiseWhen_furnace (s : State) (c : Bool) (p : Port) (bit : Byte) (h : Furnace) :
    (s.raiseWhen c p bit).furnace h = s.furnace h := rfl
@[simp] theorem State.raiseWhen_crane (s : State) (c : Bool) (p : Port) (bit : Byte) (j : Crane) :
    (s.raiseWhen c p bit).crane j = s.crane j := rfl
@[simp] theorem State.raiseWhen_furnaceParams (s : State) (c : Bool) (p : Port) (bit : Byte) (h : Furnace) :
    (s.raiseWhen c p bit).furnaceParams h = s.furnaceParams h := rfl
@[simp] theorem State.raiseWhen_slab (s : State) (c : Bool) (p : Port) (bit : Byte) (x : SlabId) :
    (s.raiseWhen c p bit).slab? x = s.slab? x := rfl
@[simp] theorem State.raiseWhen_place (s : State) (c : Bool) (p : Port) (bit : Byte) (x : SlabId) :
    (s.raiseWhen c p bit).place? x = s.place? x := rfl
@[simp] theorem State.raiseWhen_partner (s : State) (c : Bool) (p : Port) (bit : Byte) (x : SlabId) :
    (s.raiseWhen c p bit).partner? x = s.partner? x := rfl
@[simp] theorem State.raiseWhen_creditsFree (s : State) (c : Bool) (p : Port) (bit : Byte) :
    (s.raiseWhen c p bit).creditsFree = s.creditsFree := rfl
@[simp] theorem State.raiseWhen_headRow (s : State) (c : Bool) (p : Port) (bit : Byte) :
    (s.raiseWhen c p bit).headRow = s.headRow := rfl

/-! logFault -/

/-- A fault reaches one bank and the notice sets alone. -/
theorem State.logFault_eq (s : State) (b : BankId) (c : FaultCode) (id : Option SlabId) (p : Option Port) :
    s.logFault b c id p = { s with banks := (s.logFault b c id p).banks, ports := (s.logFault b c id p).ports } := rfl

@[simp] theorem State.logFault_powered (s : State) (b : BankId) (c : FaultCode) (id : Option SlabId) (p : Option Port) : (s.logFault b c id p).powered = s.powered := (congrArg State.powered (State.logFault_eq s b c id p)).trans rfl
@[simp] theorem State.logFault_storeWritten (s : State) (b : BankId) (c : FaultCode) (id : Option SlabId) (p : Option Port) : (s.logFault b c id p).storeWritten = s.storeWritten := (congrArg State.storeWritten (State.logFault_eq s b c id p)).trans rfl
@[simp] theorem State.logFault_mode (s : State) (b : BankId) (c : FaultCode) (id : Option SlabId) (p : Option Port) : (s.logFault b c id p).mode = s.mode := (congrArg State.mode (State.logFault_eq s b c id p)).trans rfl
@[simp] theorem State.logFault_resetRecord (s : State) (b : BankId) (c : FaultCode) (id : Option SlabId) (p : Option Port) : (s.logFault b c id p).resetRecord = s.resetRecord := (congrArg State.resetRecord (State.logFault_eq s b c id p)).trans rfl
@[simp] theorem State.logFault_runningSeconds (s : State) (b : BankId) (c : FaultCode) (id : Option SlabId) (p : Option Port) : (s.logFault b c id p).runningSeconds = s.runningSeconds := (congrArg State.runningSeconds (State.logFault_eq s b c id p)).trans rfl
@[simp] theorem State.logFault_subSecond (s : State) (b : BankId) (c : FaultCode) (id : Option SlabId) (p : Option Port) : (s.logFault b c id p).subSecond = s.subSecond := (congrArg State.subSecond (State.logFault_eq s b c id p)).trans rfl
@[simp] theorem State.logFault_params (s : State) (b : BankId) (c : FaultCode) (id : Option SlabId) (p : Option Port) : (s.logFault b c id p).params = s.params := (congrArg State.params (State.logFault_eq s b c id p)).trans rfl
@[simp] theorem State.logFault_register (s : State) (b : BankId) (c : FaultCode) (id : Option SlabId) (p : Option Port) : (s.logFault b c id p).register = s.register := (congrArg State.register (State.logFault_eq s b c id p)).trans rfl
@[simp] theorem State.logFault_doubtList (s : State) (b : BankId) (c : FaultCode) (id : Option SlabId) (p : Option Port) : (s.logFault b c id p).doubtList = s.doubtList := (congrArg State.doubtList (State.logFault_eq s b c id p)).trans rfl
@[simp] theorem State.logFault_sequence (s : State) (b : BankId) (c : FaultCode) (id : Option SlabId) (p : Option Port) : (s.logFault b c id p).sequence = s.sequence := (congrArg State.sequence (State.logFault_eq s b c id p)).trans rfl
@[simp] theorem State.logFault_lane (s : State) (b : BankId) (c : FaultCode) (id : Option SlabId) (p : Option Port) : (s.logFault b c id p).lane = s.lane := (congrArg State.lane (State.logFault_eq s b c id p)).trans rfl
@[simp] theorem State.logFault_laneDoubt (s : State) (b : BankId) (c : FaultCode) (id : Option SlabId) (p : Option Port) : (s.logFault b c id p).laneDoubt = s.laneDoubt := (congrArg State.laneDoubt (State.logFault_eq s b c id p)).trans rfl
@[simp] theorem State.logFault_reservation (s : State) (b : BankId) (c : FaultCode) (id : Option SlabId) (p : Option Port) : (s.logFault b c id p).reservation = s.reservation := (congrArg State.reservation (State.logFault_eq s b c id p)).trans rfl
@[simp] theorem State.logFault_cranes (s : State) (b : BankId) (c : FaultCode) (id : Option SlabId) (p : Option Port) : (s.logFault b c id p).cranes = s.cranes := (congrArg State.cranes (State.logFault_eq s b c id p)).trans rfl
@[simp] theorem State.logFault_furnaces (s : State) (b : BankId) (c : FaultCode) (id : Option SlabId) (p : Option Port) : (s.logFault b c id p).furnaces = s.furnaces := (congrArg State.furnaces (State.logFault_eq s b c id p)).trans rfl
@[simp] theorem State.logFault_log (s : State) (b : BankId) (c : FaultCode) (id : Option SlabId) (p : Option Port) : (s.logFault b c id p).log = s.log := (congrArg State.log (State.logFault_eq s b c id p)).trans rfl
@[simp] theorem State.logFault_logOverrun (s : State) (b : BankId) (c : FaultCode) (id : Option SlabId) (p : Option Port) : (s.logFault b c id p).logOverrun = s.logOverrun := (congrArg State.logOverrun (State.logFault_eq s b c id p)).trans rfl
@[simp] theorem State.logFault_pending (s : State) (b : BankId) (c : FaultCode) (id : Option SlabId) (p : Option Port) : (s.logFault b c id p).pending = s.pending := (congrArg State.pending (State.logFault_eq s b c id p)).trans rfl
@[simp] theorem State.logFault_present (s : State) (b : BankId) (c : FaultCode) (id : Option SlabId) (p : Option Port) (q : Port) :
    (s.logFault b c id p).present q = s.present q := by cases q <;> simp only [State.present, State.logFault_params]
@[simp] theorem State.logFault_furnace (s : State) (b : BankId) (c : FaultCode) (id : Option SlabId) (p : Option Port) (h : Furnace) :
    (s.logFault b c id p).furnace h = s.furnace h := by simp only [State.furnace, State.logFault_furnaces]
@[simp] theorem State.logFault_crane (s : State) (b : BankId) (c : FaultCode) (id : Option SlabId) (p : Option Port) (j : Crane) :
    (s.logFault b c id p).crane j = s.crane j := by simp only [State.crane, State.logFault_cranes]
@[simp] theorem State.logFault_furnaceParams (s : State) (b : BankId) (c : FaultCode) (id : Option SlabId) (p : Option Port) (h : Furnace) :
    (s.logFault b c id p).furnaceParams h = s.furnaceParams h := by simp only [State.furnaceParams, State.logFault_params]
@[simp] theorem State.logFault_slab (s : State) (b : BankId) (c : FaultCode) (id : Option SlabId) (p : Option Port) (x : SlabId) :
    (s.logFault b c id p).slab? x = s.slab? x := by simp only [State.slab?, State.logFault_register]
@[simp] theorem State.logFault_place (s : State) (b : BankId) (c : FaultCode) (id : Option SlabId) (p : Option Port) (x : SlabId) :
    (s.logFault b c id p).place? x = s.place? x := by simp only [State.place?, State.slab?, State.logFault_register]
@[simp] theorem State.logFault_partner (s : State) (b : BankId) (c : FaultCode) (id : Option SlabId) (p : Option Port) (x : SlabId) :
    (s.logFault b c id p).partner? x = s.partner? x := by simp only [State.partner?, State.slab?, State.logFault_register]
@[simp] theorem State.logFault_creditsFree (s : State) (b : BankId) (c : FaultCode) (id : Option SlabId) (p : Option Port) :
    (s.logFault b c id p).creditsFree = s.creditsFree := by simp only [State.creditsFree, State.creditsHeld, State.countPlaces, State.logFault_params, State.logFault_register]
@[simp] theorem State.logFault_headRow (s : State) (b : BankId) (c : FaultCode) (id : Option SlabId) (p : Option Port) :
    (s.logFault b c id p).headRow = s.headRow := by simp only [State.headRow, State.partner?, State.slab?, State.logFault_lane, State.logFault_register]

/-! doubtFurnace -/

/-- A furnace made doubtful: its doubt flag, a fault bank and the notice sets alone change. -/
theorem State.doubtFurnace_eq (s : State) (f : Furnace) (c : FaultCode) (id : Option SlabId) (p : Option Port) :
    s.doubtFurnace f c id p = { s with
      furnaces := (s.doubtFurnace f c id p).furnaces, banks := (s.doubtFurnace f c id p).banks
      ports := (s.doubtFurnace f c id p).ports } := rfl

@[simp] theorem State.doubtFurnace_powered (s : State) (f : Furnace) (c : FaultCode) (id : Option SlabId) (p : Option Port) : (s.doubtFurnace f c id p).powered = s.powered := (congrArg State.powered (State.doubtFurnace_eq s f c id p)).trans rfl
@[simp] theorem State.doubtFurnace_storeWritten (s : State) (f : Furnace) (c : FaultCode) (id : Option SlabId) (p : Option Port) : (s.doubtFurnace f c id p).storeWritten = s.storeWritten := (congrArg State.storeWritten (State.doubtFurnace_eq s f c id p)).trans rfl
@[simp] theorem State.doubtFurnace_mode (s : State) (f : Furnace) (c : FaultCode) (id : Option SlabId) (p : Option Port) : (s.doubtFurnace f c id p).mode = s.mode := (congrArg State.mode (State.doubtFurnace_eq s f c id p)).trans rfl
@[simp] theorem State.doubtFurnace_resetRecord (s : State) (f : Furnace) (c : FaultCode) (id : Option SlabId) (p : Option Port) : (s.doubtFurnace f c id p).resetRecord = s.resetRecord := (congrArg State.resetRecord (State.doubtFurnace_eq s f c id p)).trans rfl
@[simp] theorem State.doubtFurnace_runningSeconds (s : State) (f : Furnace) (c : FaultCode) (id : Option SlabId) (p : Option Port) : (s.doubtFurnace f c id p).runningSeconds = s.runningSeconds := (congrArg State.runningSeconds (State.doubtFurnace_eq s f c id p)).trans rfl
@[simp] theorem State.doubtFurnace_subSecond (s : State) (f : Furnace) (c : FaultCode) (id : Option SlabId) (p : Option Port) : (s.doubtFurnace f c id p).subSecond = s.subSecond := (congrArg State.subSecond (State.doubtFurnace_eq s f c id p)).trans rfl
@[simp] theorem State.doubtFurnace_params (s : State) (f : Furnace) (c : FaultCode) (id : Option SlabId) (p : Option Port) : (s.doubtFurnace f c id p).params = s.params := (congrArg State.params (State.doubtFurnace_eq s f c id p)).trans rfl
@[simp] theorem State.doubtFurnace_register (s : State) (f : Furnace) (c : FaultCode) (id : Option SlabId) (p : Option Port) : (s.doubtFurnace f c id p).register = s.register := (congrArg State.register (State.doubtFurnace_eq s f c id p)).trans rfl
@[simp] theorem State.doubtFurnace_doubtList (s : State) (f : Furnace) (c : FaultCode) (id : Option SlabId) (p : Option Port) : (s.doubtFurnace f c id p).doubtList = s.doubtList := (congrArg State.doubtList (State.doubtFurnace_eq s f c id p)).trans rfl
@[simp] theorem State.doubtFurnace_sequence (s : State) (f : Furnace) (c : FaultCode) (id : Option SlabId) (p : Option Port) : (s.doubtFurnace f c id p).sequence = s.sequence := (congrArg State.sequence (State.doubtFurnace_eq s f c id p)).trans rfl
@[simp] theorem State.doubtFurnace_lane (s : State) (f : Furnace) (c : FaultCode) (id : Option SlabId) (p : Option Port) : (s.doubtFurnace f c id p).lane = s.lane := (congrArg State.lane (State.doubtFurnace_eq s f c id p)).trans rfl
@[simp] theorem State.doubtFurnace_laneDoubt (s : State) (f : Furnace) (c : FaultCode) (id : Option SlabId) (p : Option Port) : (s.doubtFurnace f c id p).laneDoubt = s.laneDoubt := (congrArg State.laneDoubt (State.doubtFurnace_eq s f c id p)).trans rfl
@[simp] theorem State.doubtFurnace_reservation (s : State) (f : Furnace) (c : FaultCode) (id : Option SlabId) (p : Option Port) : (s.doubtFurnace f c id p).reservation = s.reservation := (congrArg State.reservation (State.doubtFurnace_eq s f c id p)).trans rfl
@[simp] theorem State.doubtFurnace_cranes (s : State) (f : Furnace) (c : FaultCode) (id : Option SlabId) (p : Option Port) : (s.doubtFurnace f c id p).cranes = s.cranes := (congrArg State.cranes (State.doubtFurnace_eq s f c id p)).trans rfl
@[simp] theorem State.doubtFurnace_log (s : State) (f : Furnace) (c : FaultCode) (id : Option SlabId) (p : Option Port) : (s.doubtFurnace f c id p).log = s.log := (congrArg State.log (State.doubtFurnace_eq s f c id p)).trans rfl
@[simp] theorem State.doubtFurnace_logOverrun (s : State) (f : Furnace) (c : FaultCode) (id : Option SlabId) (p : Option Port) : (s.doubtFurnace f c id p).logOverrun = s.logOverrun := (congrArg State.logOverrun (State.doubtFurnace_eq s f c id p)).trans rfl
@[simp] theorem State.doubtFurnace_pending (s : State) (f : Furnace) (c : FaultCode) (id : Option SlabId) (p : Option Port) : (s.doubtFurnace f c id p).pending = s.pending := (congrArg State.pending (State.doubtFurnace_eq s f c id p)).trans rfl
@[simp] theorem State.doubtFurnace_present (s : State) (f : Furnace) (c : FaultCode) (id : Option SlabId) (p : Option Port) (q : Port) :
    (s.doubtFurnace f c id p).present q = s.present q := by cases q <;> simp only [State.present, State.doubtFurnace_params]
@[simp] theorem State.doubtFurnace_crane (s : State) (f : Furnace) (c : FaultCode) (id : Option SlabId) (p : Option Port) (j : Crane) :
    (s.doubtFurnace f c id p).crane j = s.crane j := by simp only [State.crane, State.doubtFurnace_cranes]
@[simp] theorem State.doubtFurnace_furnaceParams (s : State) (f : Furnace) (c : FaultCode) (id : Option SlabId) (p : Option Port) (h : Furnace) :
    (s.doubtFurnace f c id p).furnaceParams h = s.furnaceParams h := by simp only [State.furnaceParams, State.doubtFurnace_params]
@[simp] theorem State.doubtFurnace_slab (s : State) (f : Furnace) (c : FaultCode) (id : Option SlabId) (p : Option Port) (x : SlabId) :
    (s.doubtFurnace f c id p).slab? x = s.slab? x := by simp only [State.slab?, State.doubtFurnace_register]
@[simp] theorem State.doubtFurnace_place (s : State) (f : Furnace) (c : FaultCode) (id : Option SlabId) (p : Option Port) (x : SlabId) :
    (s.doubtFurnace f c id p).place? x = s.place? x := by simp only [State.place?, State.slab?, State.doubtFurnace_register]
@[simp] theorem State.doubtFurnace_partner (s : State) (f : Furnace) (c : FaultCode) (id : Option SlabId) (p : Option Port) (x : SlabId) :
    (s.doubtFurnace f c id p).partner? x = s.partner? x := by simp only [State.partner?, State.slab?, State.doubtFurnace_register]
@[simp] theorem State.doubtFurnace_creditsFree (s : State) (f : Furnace) (c : FaultCode) (id : Option SlabId) (p : Option Port) :
    (s.doubtFurnace f c id p).creditsFree = s.creditsFree := by simp only [State.creditsFree, State.creditsHeld, State.countPlaces, State.doubtFurnace_params, State.doubtFurnace_register]
@[simp] theorem State.doubtFurnace_headRow (s : State) (f : Furnace) (c : FaultCode) (id : Option SlabId) (p : Option Port) :
    (s.doubtFurnace f c id p).headRow = s.headRow := by simp only [State.headRow, State.partner?, State.slab?, State.doubtFurnace_lane, State.doubtFurnace_register]

/-! logFurnace -/

@[simp] theorem State.logFurnace_powered (s : State) (f : Furnace) (c : FaultCode) (id : Option SlabId) (p : Option Port) : (s.logFurnace f c id p).powered = s.powered := (congrArg State.powered (State.logFault_eq s (furnaceBank f) c id p)).trans rfl
@[simp] theorem State.logFurnace_storeWritten (s : State) (f : Furnace) (c : FaultCode) (id : Option SlabId) (p : Option Port) : (s.logFurnace f c id p).storeWritten = s.storeWritten := (congrArg State.storeWritten (State.logFault_eq s (furnaceBank f) c id p)).trans rfl
@[simp] theorem State.logFurnace_mode (s : State) (f : Furnace) (c : FaultCode) (id : Option SlabId) (p : Option Port) : (s.logFurnace f c id p).mode = s.mode := (congrArg State.mode (State.logFault_eq s (furnaceBank f) c id p)).trans rfl
@[simp] theorem State.logFurnace_resetRecord (s : State) (f : Furnace) (c : FaultCode) (id : Option SlabId) (p : Option Port) : (s.logFurnace f c id p).resetRecord = s.resetRecord := (congrArg State.resetRecord (State.logFault_eq s (furnaceBank f) c id p)).trans rfl
@[simp] theorem State.logFurnace_runningSeconds (s : State) (f : Furnace) (c : FaultCode) (id : Option SlabId) (p : Option Port) : (s.logFurnace f c id p).runningSeconds = s.runningSeconds := (congrArg State.runningSeconds (State.logFault_eq s (furnaceBank f) c id p)).trans rfl
@[simp] theorem State.logFurnace_subSecond (s : State) (f : Furnace) (c : FaultCode) (id : Option SlabId) (p : Option Port) : (s.logFurnace f c id p).subSecond = s.subSecond := (congrArg State.subSecond (State.logFault_eq s (furnaceBank f) c id p)).trans rfl
@[simp] theorem State.logFurnace_params (s : State) (f : Furnace) (c : FaultCode) (id : Option SlabId) (p : Option Port) : (s.logFurnace f c id p).params = s.params := (congrArg State.params (State.logFault_eq s (furnaceBank f) c id p)).trans rfl
@[simp] theorem State.logFurnace_register (s : State) (f : Furnace) (c : FaultCode) (id : Option SlabId) (p : Option Port) : (s.logFurnace f c id p).register = s.register := (congrArg State.register (State.logFault_eq s (furnaceBank f) c id p)).trans rfl
@[simp] theorem State.logFurnace_doubtList (s : State) (f : Furnace) (c : FaultCode) (id : Option SlabId) (p : Option Port) : (s.logFurnace f c id p).doubtList = s.doubtList := (congrArg State.doubtList (State.logFault_eq s (furnaceBank f) c id p)).trans rfl
@[simp] theorem State.logFurnace_sequence (s : State) (f : Furnace) (c : FaultCode) (id : Option SlabId) (p : Option Port) : (s.logFurnace f c id p).sequence = s.sequence := (congrArg State.sequence (State.logFault_eq s (furnaceBank f) c id p)).trans rfl
@[simp] theorem State.logFurnace_lane (s : State) (f : Furnace) (c : FaultCode) (id : Option SlabId) (p : Option Port) : (s.logFurnace f c id p).lane = s.lane := (congrArg State.lane (State.logFault_eq s (furnaceBank f) c id p)).trans rfl
@[simp] theorem State.logFurnace_laneDoubt (s : State) (f : Furnace) (c : FaultCode) (id : Option SlabId) (p : Option Port) : (s.logFurnace f c id p).laneDoubt = s.laneDoubt := (congrArg State.laneDoubt (State.logFault_eq s (furnaceBank f) c id p)).trans rfl
@[simp] theorem State.logFurnace_reservation (s : State) (f : Furnace) (c : FaultCode) (id : Option SlabId) (p : Option Port) : (s.logFurnace f c id p).reservation = s.reservation := (congrArg State.reservation (State.logFault_eq s (furnaceBank f) c id p)).trans rfl
@[simp] theorem State.logFurnace_cranes (s : State) (f : Furnace) (c : FaultCode) (id : Option SlabId) (p : Option Port) : (s.logFurnace f c id p).cranes = s.cranes := (congrArg State.cranes (State.logFault_eq s (furnaceBank f) c id p)).trans rfl
@[simp] theorem State.logFurnace_furnaces (s : State) (f : Furnace) (c : FaultCode) (id : Option SlabId) (p : Option Port) : (s.logFurnace f c id p).furnaces = s.furnaces := (congrArg State.furnaces (State.logFault_eq s (furnaceBank f) c id p)).trans rfl
@[simp] theorem State.logFurnace_log (s : State) (f : Furnace) (c : FaultCode) (id : Option SlabId) (p : Option Port) : (s.logFurnace f c id p).log = s.log := (congrArg State.log (State.logFault_eq s (furnaceBank f) c id p)).trans rfl
@[simp] theorem State.logFurnace_logOverrun (s : State) (f : Furnace) (c : FaultCode) (id : Option SlabId) (p : Option Port) : (s.logFurnace f c id p).logOverrun = s.logOverrun := (congrArg State.logOverrun (State.logFault_eq s (furnaceBank f) c id p)).trans rfl
@[simp] theorem State.logFurnace_pending (s : State) (f : Furnace) (c : FaultCode) (id : Option SlabId) (p : Option Port) : (s.logFurnace f c id p).pending = s.pending := (congrArg State.pending (State.logFault_eq s (furnaceBank f) c id p)).trans rfl
@[simp] theorem State.logFurnace_present (s : State) (f : Furnace) (c : FaultCode) (id : Option SlabId) (p : Option Port) (q : Port) :
    (s.logFurnace f c id p).present q = s.present q := by cases q <;> simp only [State.present, State.logFurnace_params]
@[simp] theorem State.logFurnace_furnace (s : State) (f : Furnace) (c : FaultCode) (id : Option SlabId) (p : Option Port) (h : Furnace) :
    (s.logFurnace f c id p).furnace h = s.furnace h := by simp only [State.furnace, State.logFurnace_furnaces]
@[simp] theorem State.logFurnace_crane (s : State) (f : Furnace) (c : FaultCode) (id : Option SlabId) (p : Option Port) (j : Crane) :
    (s.logFurnace f c id p).crane j = s.crane j := by simp only [State.crane, State.logFurnace_cranes]
@[simp] theorem State.logFurnace_furnaceParams (s : State) (f : Furnace) (c : FaultCode) (id : Option SlabId) (p : Option Port) (h : Furnace) :
    (s.logFurnace f c id p).furnaceParams h = s.furnaceParams h := by simp only [State.furnaceParams, State.logFurnace_params]
@[simp] theorem State.logFurnace_slab (s : State) (f : Furnace) (c : FaultCode) (id : Option SlabId) (p : Option Port) (x : SlabId) :
    (s.logFurnace f c id p).slab? x = s.slab? x := by simp only [State.slab?, State.logFurnace_register]
@[simp] theorem State.logFurnace_place (s : State) (f : Furnace) (c : FaultCode) (id : Option SlabId) (p : Option Port) (x : SlabId) :
    (s.logFurnace f c id p).place? x = s.place? x := by simp only [State.place?, State.slab?, State.logFurnace_register]
@[simp] theorem State.logFurnace_partner (s : State) (f : Furnace) (c : FaultCode) (id : Option SlabId) (p : Option Port) (x : SlabId) :
    (s.logFurnace f c id p).partner? x = s.partner? x := by simp only [State.partner?, State.slab?, State.logFurnace_register]
@[simp] theorem State.logFurnace_creditsFree (s : State) (f : Furnace) (c : FaultCode) (id : Option SlabId) (p : Option Port) :
    (s.logFurnace f c id p).creditsFree = s.creditsFree := by simp only [State.creditsFree, State.creditsHeld, State.countPlaces, State.logFurnace_params, State.logFurnace_register]
@[simp] theorem State.logFurnace_headRow (s : State) (f : Furnace) (c : FaultCode) (id : Option SlabId) (p : Option Port) :
    (s.logFurnace f c id p).headRow = s.headRow := by simp only [State.headRow, State.partner?, State.slab?, State.logFurnace_lane, State.logFurnace_register]

/-! raiseSupv -/

@[simp] theorem State.raiseSupv_powered (s : State) (n : SupvNotice) : (s.raiseSupv n).powered = s.powered := rfl
@[simp] theorem State.raiseSupv_storeWritten (s : State) (n : SupvNotice) : (s.raiseSupv n).storeWritten = s.storeWritten := rfl
@[simp] theorem State.raiseSupv_mode (s : State) (n : SupvNotice) : (s.raiseSupv n).mode = s.mode := rfl
@[simp] theorem State.raiseSupv_resetRecord (s : State) (n : SupvNotice) : (s.raiseSupv n).resetRecord = s.resetRecord := rfl
@[simp] theorem State.raiseSupv_runningSeconds (s : State) (n : SupvNotice) : (s.raiseSupv n).runningSeconds = s.runningSeconds := rfl
@[simp] theorem State.raiseSupv_subSecond (s : State) (n : SupvNotice) : (s.raiseSupv n).subSecond = s.subSecond := rfl
@[simp] theorem State.raiseSupv_params (s : State) (n : SupvNotice) : (s.raiseSupv n).params = s.params := rfl
@[simp] theorem State.raiseSupv_register (s : State) (n : SupvNotice) : (s.raiseSupv n).register = s.register := rfl
@[simp] theorem State.raiseSupv_doubtList (s : State) (n : SupvNotice) : (s.raiseSupv n).doubtList = s.doubtList := rfl
@[simp] theorem State.raiseSupv_sequence (s : State) (n : SupvNotice) : (s.raiseSupv n).sequence = s.sequence := rfl
@[simp] theorem State.raiseSupv_lane (s : State) (n : SupvNotice) : (s.raiseSupv n).lane = s.lane := rfl
@[simp] theorem State.raiseSupv_laneDoubt (s : State) (n : SupvNotice) : (s.raiseSupv n).laneDoubt = s.laneDoubt := rfl
@[simp] theorem State.raiseSupv_reservation (s : State) (n : SupvNotice) : (s.raiseSupv n).reservation = s.reservation := rfl
@[simp] theorem State.raiseSupv_cranes (s : State) (n : SupvNotice) : (s.raiseSupv n).cranes = s.cranes := rfl
@[simp] theorem State.raiseSupv_furnaces (s : State) (n : SupvNotice) : (s.raiseSupv n).furnaces = s.furnaces := rfl
@[simp] theorem State.raiseSupv_log (s : State) (n : SupvNotice) : (s.raiseSupv n).log = s.log := rfl
@[simp] theorem State.raiseSupv_logOverrun (s : State) (n : SupvNotice) : (s.raiseSupv n).logOverrun = s.logOverrun := rfl
@[simp] theorem State.raiseSupv_banks (s : State) (n : SupvNotice) : (s.raiseSupv n).banks = s.banks := rfl
@[simp] theorem State.raiseSupv_pending (s : State) (n : SupvNotice) : (s.raiseSupv n).pending = s.pending := rfl
@[simp] theorem State.raiseSupv_present (s : State) (n : SupvNotice) (q : Port) :
    (s.raiseSupv n).present q = s.present q := rfl
@[simp] theorem State.raiseSupv_furnace (s : State) (n : SupvNotice) (h : Furnace) :
    (s.raiseSupv n).furnace h = s.furnace h := rfl
@[simp] theorem State.raiseSupv_crane (s : State) (n : SupvNotice) (j : Crane) :
    (s.raiseSupv n).crane j = s.crane j := rfl
@[simp] theorem State.raiseSupv_furnaceParams (s : State) (n : SupvNotice) (h : Furnace) :
    (s.raiseSupv n).furnaceParams h = s.furnaceParams h := rfl
@[simp] theorem State.raiseSupv_slab (s : State) (n : SupvNotice) (x : SlabId) :
    (s.raiseSupv n).slab? x = s.slab? x := rfl
@[simp] theorem State.raiseSupv_place (s : State) (n : SupvNotice) (x : SlabId) :
    (s.raiseSupv n).place? x = s.place? x := rfl
@[simp] theorem State.raiseSupv_partner (s : State) (n : SupvNotice) (x : SlabId) :
    (s.raiseSupv n).partner? x = s.partner? x := rfl
@[simp] theorem State.raiseSupv_creditsFree (s : State) (n : SupvNotice) :
    (s.raiseSupv n).creditsFree = s.creditsFree := rfl
@[simp] theorem State.raiseSupv_headRow (s : State) (n : SupvNotice) :
    (s.raiseSupv n).headRow = s.headRow := rfl

/-! raiseCrane -/

@[simp] theorem State.raiseCrane_powered (s : State) (k : Crane) (n : CraneNotice) : (s.raiseCrane k n).powered = s.powered := rfl
@[simp] theorem State.raiseCrane_storeWritten (s : State) (k : Crane) (n : CraneNotice) : (s.raiseCrane k n).storeWritten = s.storeWritten := rfl
@[simp] theorem State.raiseCrane_mode (s : State) (k : Crane) (n : CraneNotice) : (s.raiseCrane k n).mode = s.mode := rfl
@[simp] theorem State.raiseCrane_resetRecord (s : State) (k : Crane) (n : CraneNotice) : (s.raiseCrane k n).resetRecord = s.resetRecord := rfl
@[simp] theorem State.raiseCrane_runningSeconds (s : State) (k : Crane) (n : CraneNotice) : (s.raiseCrane k n).runningSeconds = s.runningSeconds := rfl
@[simp] theorem State.raiseCrane_subSecond (s : State) (k : Crane) (n : CraneNotice) : (s.raiseCrane k n).subSecond = s.subSecond := rfl
@[simp] theorem State.raiseCrane_params (s : State) (k : Crane) (n : CraneNotice) : (s.raiseCrane k n).params = s.params := rfl
@[simp] theorem State.raiseCrane_register (s : State) (k : Crane) (n : CraneNotice) : (s.raiseCrane k n).register = s.register := rfl
@[simp] theorem State.raiseCrane_doubtList (s : State) (k : Crane) (n : CraneNotice) : (s.raiseCrane k n).doubtList = s.doubtList := rfl
@[simp] theorem State.raiseCrane_sequence (s : State) (k : Crane) (n : CraneNotice) : (s.raiseCrane k n).sequence = s.sequence := rfl
@[simp] theorem State.raiseCrane_lane (s : State) (k : Crane) (n : CraneNotice) : (s.raiseCrane k n).lane = s.lane := rfl
@[simp] theorem State.raiseCrane_laneDoubt (s : State) (k : Crane) (n : CraneNotice) : (s.raiseCrane k n).laneDoubt = s.laneDoubt := rfl
@[simp] theorem State.raiseCrane_reservation (s : State) (k : Crane) (n : CraneNotice) : (s.raiseCrane k n).reservation = s.reservation := rfl
@[simp] theorem State.raiseCrane_cranes (s : State) (k : Crane) (n : CraneNotice) : (s.raiseCrane k n).cranes = s.cranes := rfl
@[simp] theorem State.raiseCrane_furnaces (s : State) (k : Crane) (n : CraneNotice) : (s.raiseCrane k n).furnaces = s.furnaces := rfl
@[simp] theorem State.raiseCrane_log (s : State) (k : Crane) (n : CraneNotice) : (s.raiseCrane k n).log = s.log := rfl
@[simp] theorem State.raiseCrane_logOverrun (s : State) (k : Crane) (n : CraneNotice) : (s.raiseCrane k n).logOverrun = s.logOverrun := rfl
@[simp] theorem State.raiseCrane_banks (s : State) (k : Crane) (n : CraneNotice) : (s.raiseCrane k n).banks = s.banks := rfl
@[simp] theorem State.raiseCrane_pending (s : State) (k : Crane) (n : CraneNotice) : (s.raiseCrane k n).pending = s.pending := rfl
@[simp] theorem State.raiseCrane_present (s : State) (k : Crane) (n : CraneNotice) (q : Port) :
    (s.raiseCrane k n).present q = s.present q := rfl
@[simp] theorem State.raiseCrane_furnace (s : State) (k : Crane) (n : CraneNotice) (h : Furnace) :
    (s.raiseCrane k n).furnace h = s.furnace h := rfl
@[simp] theorem State.raiseCrane_crane (s : State) (k : Crane) (n : CraneNotice) (j : Crane) :
    (s.raiseCrane k n).crane j = s.crane j := rfl
@[simp] theorem State.raiseCrane_furnaceParams (s : State) (k : Crane) (n : CraneNotice) (h : Furnace) :
    (s.raiseCrane k n).furnaceParams h = s.furnaceParams h := rfl
@[simp] theorem State.raiseCrane_slab (s : State) (k : Crane) (n : CraneNotice) (x : SlabId) :
    (s.raiseCrane k n).slab? x = s.slab? x := rfl
@[simp] theorem State.raiseCrane_place (s : State) (k : Crane) (n : CraneNotice) (x : SlabId) :
    (s.raiseCrane k n).place? x = s.place? x := rfl
@[simp] theorem State.raiseCrane_partner (s : State) (k : Crane) (n : CraneNotice) (x : SlabId) :
    (s.raiseCrane k n).partner? x = s.partner? x := rfl
@[simp] theorem State.raiseCrane_creditsFree (s : State) (k : Crane) (n : CraneNotice) :
    (s.raiseCrane k n).creditsFree = s.creditsFree := rfl
@[simp] theorem State.raiseCrane_headRow (s : State) (k : Crane) (n : CraneNotice) :
    (s.raiseCrane k n).headRow = s.headRow := rfl

/-! endCustody -/

@[simp] theorem State.endCustody_powered (s : State) (k : Crane) : (s.endCustody k).powered = s.powered := rfl
@[simp] theorem State.endCustody_storeWritten (s : State) (k : Crane) : (s.endCustody k).storeWritten = s.storeWritten := rfl
@[simp] theorem State.endCustody_mode (s : State) (k : Crane) : (s.endCustody k).mode = s.mode := rfl
@[simp] theorem State.endCustody_resetRecord (s : State) (k : Crane) : (s.endCustody k).resetRecord = s.resetRecord := rfl
@[simp] theorem State.endCustody_runningSeconds (s : State) (k : Crane) : (s.endCustody k).runningSeconds = s.runningSeconds := rfl
@[simp] theorem State.endCustody_subSecond (s : State) (k : Crane) : (s.endCustody k).subSecond = s.subSecond := rfl
@[simp] theorem State.endCustody_params (s : State) (k : Crane) : (s.endCustody k).params = s.params := rfl
@[simp] theorem State.endCustody_register (s : State) (k : Crane) : (s.endCustody k).register = s.register := rfl
@[simp] theorem State.endCustody_doubtList (s : State) (k : Crane) : (s.endCustody k).doubtList = s.doubtList := rfl
@[simp] theorem State.endCustody_sequence (s : State) (k : Crane) : (s.endCustody k).sequence = s.sequence := rfl
@[simp] theorem State.endCustody_lane (s : State) (k : Crane) : (s.endCustody k).lane = s.lane := rfl
@[simp] theorem State.endCustody_laneDoubt (s : State) (k : Crane) : (s.endCustody k).laneDoubt = s.laneDoubt := rfl
@[simp] theorem State.endCustody_reservation (s : State) (k : Crane) : (s.endCustody k).reservation = s.reservation := rfl
@[simp] theorem State.endCustody_furnaces (s : State) (k : Crane) : (s.endCustody k).furnaces = s.furnaces := rfl
@[simp] theorem State.endCustody_log (s : State) (k : Crane) : (s.endCustody k).log = s.log := rfl
@[simp] theorem State.endCustody_logOverrun (s : State) (k : Crane) : (s.endCustody k).logOverrun = s.logOverrun := rfl
@[simp] theorem State.endCustody_banks (s : State) (k : Crane) : (s.endCustody k).banks = s.banks := rfl
@[simp] theorem State.endCustody_ports (s : State) (k : Crane) : (s.endCustody k).ports = s.ports := rfl
@[simp] theorem State.endCustody_pending (s : State) (k : Crane) : (s.endCustody k).pending = s.pending := rfl
@[simp] theorem State.endCustody_present (s : State) (k : Crane) (q : Port) :
    (s.endCustody k).present q = s.present q := rfl
@[simp] theorem State.endCustody_furnace (s : State) (k : Crane) (h : Furnace) :
    (s.endCustody k).furnace h = s.furnace h := rfl
@[simp] theorem State.endCustody_port (s : State) (k : Crane) (q : Port) :
    (s.endCustody k).port q = s.port q := rfl
@[simp] theorem State.endCustody_furnaceParams (s : State) (k : Crane) (h : Furnace) :
    (s.endCustody k).furnaceParams h = s.furnaceParams h := rfl
@[simp] theorem State.endCustody_slab (s : State) (k : Crane) (x : SlabId) :
    (s.endCustody k).slab? x = s.slab? x := rfl
@[simp] theorem State.endCustody_place (s : State) (k : Crane) (x : SlabId) :
    (s.endCustody k).place? x = s.place? x := rfl
@[simp] theorem State.endCustody_partner (s : State) (k : Crane) (x : SlabId) :
    (s.endCustody k).partner? x = s.partner? x := rfl
@[simp] theorem State.endCustody_creditsFree (s : State) (k : Crane) :
    (s.endCustody k).creditsFree = s.creditsFree := rfl
@[simp] theorem State.endCustody_headRow (s : State) (k : Crane) :
    (s.endCustody k).headRow = s.headRow := rfl

/-! beginCustody -/

@[simp] theorem State.beginCustody_powered (s : State) (k : Crane) (id : SlabId) : (s.beginCustody k id).powered = s.powered := rfl
@[simp] theorem State.beginCustody_storeWritten (s : State) (k : Crane) (id : SlabId) : (s.beginCustody k id).storeWritten = s.storeWritten := rfl
@[simp] theorem State.beginCustody_mode (s : State) (k : Crane) (id : SlabId) : (s.beginCustody k id).mode = s.mode := rfl
@[simp] theorem State.beginCustody_resetRecord (s : State) (k : Crane) (id : SlabId) : (s.beginCustody k id).resetRecord = s.resetRecord := rfl
@[simp] theorem State.beginCustody_runningSeconds (s : State) (k : Crane) (id : SlabId) : (s.beginCustody k id).runningSeconds = s.runningSeconds := rfl
@[simp] theorem State.beginCustody_subSecond (s : State) (k : Crane) (id : SlabId) : (s.beginCustody k id).subSecond = s.subSecond := rfl
@[simp] theorem State.beginCustody_params (s : State) (k : Crane) (id : SlabId) : (s.beginCustody k id).params = s.params := rfl
@[simp] theorem State.beginCustody_register (s : State) (k : Crane) (id : SlabId) : (s.beginCustody k id).register = s.register := rfl
@[simp] theorem State.beginCustody_doubtList (s : State) (k : Crane) (id : SlabId) : (s.beginCustody k id).doubtList = s.doubtList := rfl
@[simp] theorem State.beginCustody_sequence (s : State) (k : Crane) (id : SlabId) : (s.beginCustody k id).sequence = s.sequence := rfl
@[simp] theorem State.beginCustody_lane (s : State) (k : Crane) (id : SlabId) : (s.beginCustody k id).lane = s.lane := rfl
@[simp] theorem State.beginCustody_laneDoubt (s : State) (k : Crane) (id : SlabId) : (s.beginCustody k id).laneDoubt = s.laneDoubt := rfl
@[simp] theorem State.beginCustody_reservation (s : State) (k : Crane) (id : SlabId) : (s.beginCustody k id).reservation = s.reservation := rfl
@[simp] theorem State.beginCustody_furnaces (s : State) (k : Crane) (id : SlabId) : (s.beginCustody k id).furnaces = s.furnaces := rfl
@[simp] theorem State.beginCustody_log (s : State) (k : Crane) (id : SlabId) : (s.beginCustody k id).log = s.log := rfl
@[simp] theorem State.beginCustody_logOverrun (s : State) (k : Crane) (id : SlabId) : (s.beginCustody k id).logOverrun = s.logOverrun := rfl
@[simp] theorem State.beginCustody_banks (s : State) (k : Crane) (id : SlabId) : (s.beginCustody k id).banks = s.banks := rfl
@[simp] theorem State.beginCustody_ports (s : State) (k : Crane) (id : SlabId) : (s.beginCustody k id).ports = s.ports := rfl
@[simp] theorem State.beginCustody_pending (s : State) (k : Crane) (id : SlabId) : (s.beginCustody k id).pending = s.pending := rfl
@[simp] theorem State.beginCustody_present (s : State) (k : Crane) (id : SlabId) (q : Port) :
    (s.beginCustody k id).present q = s.present q := rfl
@[simp] theorem State.beginCustody_furnace (s : State) (k : Crane) (id : SlabId) (h : Furnace) :
    (s.beginCustody k id).furnace h = s.furnace h := rfl
@[simp] theorem State.beginCustody_port (s : State) (k : Crane) (id : SlabId) (q : Port) :
    (s.beginCustody k id).port q = s.port q := rfl
@[simp] theorem State.beginCustody_furnaceParams (s : State) (k : Crane) (id : SlabId) (h : Furnace) :
    (s.beginCustody k id).furnaceParams h = s.furnaceParams h := rfl
@[simp] theorem State.beginCustody_slab (s : State) (k : Crane) (id : SlabId) (x : SlabId) :
    (s.beginCustody k id).slab? x = s.slab? x := rfl
@[simp] theorem State.beginCustody_place (s : State) (k : Crane) (id : SlabId) (x : SlabId) :
    (s.beginCustody k id).place? x = s.place? x := rfl
@[simp] theorem State.beginCustody_partner (s : State) (k : Crane) (id : SlabId) (x : SlabId) :
    (s.beginCustody k id).partner? x = s.partner? x := rfl
@[simp] theorem State.beginCustody_creditsFree (s : State) (k : Crane) (id : SlabId) :
    (s.beginCustody k id).creditsFree = s.creditsFree := rfl
@[simp] theorem State.beginCustody_headRow (s : State) (k : Crane) (id : SlabId) :
    (s.beginCustody k id).headRow = s.headRow := rfl

/-! changeHold -/

@[simp] theorem State.changeHold_powered (s : State) (f : Furnace) (g : HoldSet → HoldSet) : (s.changeHold f g).powered = s.powered := rfl
@[simp] theorem State.changeHold_storeWritten (s : State) (f : Furnace) (g : HoldSet → HoldSet) : (s.changeHold f g).storeWritten = s.storeWritten := rfl
@[simp] theorem State.changeHold_mode (s : State) (f : Furnace) (g : HoldSet → HoldSet) : (s.changeHold f g).mode = s.mode := rfl
@[simp] theorem State.changeHold_resetRecord (s : State) (f : Furnace) (g : HoldSet → HoldSet) : (s.changeHold f g).resetRecord = s.resetRecord := rfl
@[simp] theorem State.changeHold_runningSeconds (s : State) (f : Furnace) (g : HoldSet → HoldSet) : (s.changeHold f g).runningSeconds = s.runningSeconds := rfl
@[simp] theorem State.changeHold_subSecond (s : State) (f : Furnace) (g : HoldSet → HoldSet) : (s.changeHold f g).subSecond = s.subSecond := rfl
@[simp] theorem State.changeHold_params (s : State) (f : Furnace) (g : HoldSet → HoldSet) : (s.changeHold f g).params = s.params := rfl
@[simp] theorem State.changeHold_register (s : State) (f : Furnace) (g : HoldSet → HoldSet) : (s.changeHold f g).register = s.register := rfl
@[simp] theorem State.changeHold_doubtList (s : State) (f : Furnace) (g : HoldSet → HoldSet) : (s.changeHold f g).doubtList = s.doubtList := rfl
@[simp] theorem State.changeHold_sequence (s : State) (f : Furnace) (g : HoldSet → HoldSet) : (s.changeHold f g).sequence = s.sequence := rfl
@[simp] theorem State.changeHold_lane (s : State) (f : Furnace) (g : HoldSet → HoldSet) : (s.changeHold f g).lane = s.lane := rfl
@[simp] theorem State.changeHold_laneDoubt (s : State) (f : Furnace) (g : HoldSet → HoldSet) : (s.changeHold f g).laneDoubt = s.laneDoubt := rfl
@[simp] theorem State.changeHold_reservation (s : State) (f : Furnace) (g : HoldSet → HoldSet) : (s.changeHold f g).reservation = s.reservation := rfl
@[simp] theorem State.changeHold_cranes (s : State) (f : Furnace) (g : HoldSet → HoldSet) : (s.changeHold f g).cranes = s.cranes := rfl
@[simp] theorem State.changeHold_log (s : State) (f : Furnace) (g : HoldSet → HoldSet) : (s.changeHold f g).log = s.log := rfl
@[simp] theorem State.changeHold_logOverrun (s : State) (f : Furnace) (g : HoldSet → HoldSet) : (s.changeHold f g).logOverrun = s.logOverrun := rfl
@[simp] theorem State.changeHold_banks (s : State) (f : Furnace) (g : HoldSet → HoldSet) : (s.changeHold f g).banks = s.banks := rfl
@[simp] theorem State.changeHold_ports (s : State) (f : Furnace) (g : HoldSet → HoldSet) : (s.changeHold f g).ports = s.ports := rfl
@[simp] theorem State.changeHold_pending (s : State) (f : Furnace) (g : HoldSet → HoldSet) : (s.changeHold f g).pending = s.pending := rfl
@[simp] theorem State.changeHold_present (s : State) (f : Furnace) (g : HoldSet → HoldSet) (q : Port) :
    (s.changeHold f g).present q = s.present q := rfl
@[simp] theorem State.changeHold_crane (s : State) (f : Furnace) (g : HoldSet → HoldSet) (j : Crane) :
    (s.changeHold f g).crane j = s.crane j := rfl
@[simp] theorem State.changeHold_port (s : State) (f : Furnace) (g : HoldSet → HoldSet) (q : Port) :
    (s.changeHold f g).port q = s.port q := rfl
@[simp] theorem State.changeHold_furnaceParams (s : State) (f : Furnace) (g : HoldSet → HoldSet) (h : Furnace) :
    (s.changeHold f g).furnaceParams h = s.furnaceParams h := rfl
@[simp] theorem State.changeHold_slab (s : State) (f : Furnace) (g : HoldSet → HoldSet) (x : SlabId) :
    (s.changeHold f g).slab? x = s.slab? x := rfl
@[simp] theorem State.changeHold_place (s : State) (f : Furnace) (g : HoldSet → HoldSet) (x : SlabId) :
    (s.changeHold f g).place? x = s.place? x := rfl
@[simp] theorem State.changeHold_partner (s : State) (f : Furnace) (g : HoldSet → HoldSet) (x : SlabId) :
    (s.changeHold f g).partner? x = s.partner? x := rfl
@[simp] theorem State.changeHold_creditsFree (s : State) (f : Furnace) (g : HoldSet → HoldSet) :
    (s.changeHold f g).creditsFree = s.creditsFree := rfl
@[simp] theorem State.changeHold_headRow (s : State) (f : Furnace) (g : HoldSet → HoldSet) :
    (s.changeHold f g).headRow = s.headRow := rfl

/-! setExchange -/

@[simp] theorem State.setExchange_powered (s : State) (p : Port) (e : Exchange) (sel : Selection) : (s.setExchange p e sel).powered = s.powered := rfl
@[simp] theorem State.setExchange_storeWritten (s : State) (p : Port) (e : Exchange) (sel : Selection) : (s.setExchange p e sel).storeWritten = s.storeWritten := rfl
@[simp] theorem State.setExchange_mode (s : State) (p : Port) (e : Exchange) (sel : Selection) : (s.setExchange p e sel).mode = s.mode := rfl
@[simp] theorem State.setExchange_resetRecord (s : State) (p : Port) (e : Exchange) (sel : Selection) : (s.setExchange p e sel).resetRecord = s.resetRecord := rfl
@[simp] theorem State.setExchange_runningSeconds (s : State) (p : Port) (e : Exchange) (sel : Selection) : (s.setExchange p e sel).runningSeconds = s.runningSeconds := rfl
@[simp] theorem State.setExchange_subSecond (s : State) (p : Port) (e : Exchange) (sel : Selection) : (s.setExchange p e sel).subSecond = s.subSecond := rfl
@[simp] theorem State.setExchange_params (s : State) (p : Port) (e : Exchange) (sel : Selection) : (s.setExchange p e sel).params = s.params := rfl
@[simp] theorem State.setExchange_register (s : State) (p : Port) (e : Exchange) (sel : Selection) : (s.setExchange p e sel).register = s.register := rfl
@[simp] theorem State.setExchange_doubtList (s : State) (p : Port) (e : Exchange) (sel : Selection) : (s.setExchange p e sel).doubtList = s.doubtList := rfl
@[simp] theorem State.setExchange_sequence (s : State) (p : Port) (e : Exchange) (sel : Selection) : (s.setExchange p e sel).sequence = s.sequence := rfl
@[simp] theorem State.setExchange_lane (s : State) (p : Port) (e : Exchange) (sel : Selection) : (s.setExchange p e sel).lane = s.lane := rfl
@[simp] theorem State.setExchange_laneDoubt (s : State) (p : Port) (e : Exchange) (sel : Selection) : (s.setExchange p e sel).laneDoubt = s.laneDoubt := rfl
@[simp] theorem State.setExchange_reservation (s : State) (p : Port) (e : Exchange) (sel : Selection) : (s.setExchange p e sel).reservation = s.reservation := rfl
@[simp] theorem State.setExchange_cranes (s : State) (p : Port) (e : Exchange) (sel : Selection) : (s.setExchange p e sel).cranes = s.cranes := rfl
@[simp] theorem State.setExchange_furnaces (s : State) (p : Port) (e : Exchange) (sel : Selection) : (s.setExchange p e sel).furnaces = s.furnaces := rfl
@[simp] theorem State.setExchange_log (s : State) (p : Port) (e : Exchange) (sel : Selection) : (s.setExchange p e sel).log = s.log := rfl
@[simp] theorem State.setExchange_logOverrun (s : State) (p : Port) (e : Exchange) (sel : Selection) : (s.setExchange p e sel).logOverrun = s.logOverrun := rfl
@[simp] theorem State.setExchange_banks (s : State) (p : Port) (e : Exchange) (sel : Selection) : (s.setExchange p e sel).banks = s.banks := rfl
@[simp] theorem State.setExchange_pending (s : State) (p : Port) (e : Exchange) (sel : Selection) : (s.setExchange p e sel).pending = s.pending := rfl
@[simp] theorem State.setExchange_present (s : State) (p : Port) (e : Exchange) (sel : Selection) (q : Port) :
    (s.setExchange p e sel).present q = s.present q := rfl
@[simp] theorem State.setExchange_furnace (s : State) (p : Port) (e : Exchange) (sel : Selection) (h : Furnace) :
    (s.setExchange p e sel).furnace h = s.furnace h := rfl
@[simp] theorem State.setExchange_crane (s : State) (p : Port) (e : Exchange) (sel : Selection) (j : Crane) :
    (s.setExchange p e sel).crane j = s.crane j := rfl
@[simp] theorem State.setExchange_furnaceParams (s : State) (p : Port) (e : Exchange) (sel : Selection) (h : Furnace) :
    (s.setExchange p e sel).furnaceParams h = s.furnaceParams h := rfl
@[simp] theorem State.setExchange_slab (s : State) (p : Port) (e : Exchange) (sel : Selection) (x : SlabId) :
    (s.setExchange p e sel).slab? x = s.slab? x := rfl
@[simp] theorem State.setExchange_place (s : State) (p : Port) (e : Exchange) (sel : Selection) (x : SlabId) :
    (s.setExchange p e sel).place? x = s.place? x := rfl
@[simp] theorem State.setExchange_partner (s : State) (p : Port) (e : Exchange) (sel : Selection) (x : SlabId) :
    (s.setExchange p e sel).partner? x = s.partner? x := rfl
@[simp] theorem State.setExchange_creditsFree (s : State) (p : Port) (e : Exchange) (sel : Selection) :
    (s.setExchange p e sel).creditsFree = s.creditsFree := rfl
@[simp] theorem State.setExchange_headRow (s : State) (p : Port) (e : Exchange) (sel : Selection) :
    (s.setExchange p e sel).headRow = s.headRow := rfl

/-! soakCheck -/

/-- A soak check marks a row and raises a notice. -/
theorem State.soakCheck_eq (s : State) (f : Furnace) :
    s.soakCheck f = { s with furnaces := (s.soakCheck f).furnaces, ports := (s.soakCheck f).ports } := rfl

@[simp] theorem State.soakCheck_powered (s : State) (f : Furnace) : (s.soakCheck f).powered = s.powered := (congrArg State.powered (State.soakCheck_eq s f)).trans rfl
@[simp] theorem State.soakCheck_storeWritten (s : State) (f : Furnace) : (s.soakCheck f).storeWritten = s.storeWritten := (congrArg State.storeWritten (State.soakCheck_eq s f)).trans rfl
@[simp] theorem State.soakCheck_mode (s : State) (f : Furnace) : (s.soakCheck f).mode = s.mode := (congrArg State.mode (State.soakCheck_eq s f)).trans rfl
@[simp] theorem State.soakCheck_resetRecord (s : State) (f : Furnace) : (s.soakCheck f).resetRecord = s.resetRecord := (congrArg State.resetRecord (State.soakCheck_eq s f)).trans rfl
@[simp] theorem State.soakCheck_runningSeconds (s : State) (f : Furnace) : (s.soakCheck f).runningSeconds = s.runningSeconds := (congrArg State.runningSeconds (State.soakCheck_eq s f)).trans rfl
@[simp] theorem State.soakCheck_subSecond (s : State) (f : Furnace) : (s.soakCheck f).subSecond = s.subSecond := (congrArg State.subSecond (State.soakCheck_eq s f)).trans rfl
@[simp] theorem State.soakCheck_params (s : State) (f : Furnace) : (s.soakCheck f).params = s.params := (congrArg State.params (State.soakCheck_eq s f)).trans rfl
@[simp] theorem State.soakCheck_register (s : State) (f : Furnace) : (s.soakCheck f).register = s.register := (congrArg State.register (State.soakCheck_eq s f)).trans rfl
@[simp] theorem State.soakCheck_doubtList (s : State) (f : Furnace) : (s.soakCheck f).doubtList = s.doubtList := (congrArg State.doubtList (State.soakCheck_eq s f)).trans rfl
@[simp] theorem State.soakCheck_sequence (s : State) (f : Furnace) : (s.soakCheck f).sequence = s.sequence := (congrArg State.sequence (State.soakCheck_eq s f)).trans rfl
@[simp] theorem State.soakCheck_lane (s : State) (f : Furnace) : (s.soakCheck f).lane = s.lane := (congrArg State.lane (State.soakCheck_eq s f)).trans rfl
@[simp] theorem State.soakCheck_laneDoubt (s : State) (f : Furnace) : (s.soakCheck f).laneDoubt = s.laneDoubt := (congrArg State.laneDoubt (State.soakCheck_eq s f)).trans rfl
@[simp] theorem State.soakCheck_reservation (s : State) (f : Furnace) : (s.soakCheck f).reservation = s.reservation := (congrArg State.reservation (State.soakCheck_eq s f)).trans rfl
@[simp] theorem State.soakCheck_cranes (s : State) (f : Furnace) : (s.soakCheck f).cranes = s.cranes := (congrArg State.cranes (State.soakCheck_eq s f)).trans rfl
@[simp] theorem State.soakCheck_log (s : State) (f : Furnace) : (s.soakCheck f).log = s.log := (congrArg State.log (State.soakCheck_eq s f)).trans rfl
@[simp] theorem State.soakCheck_logOverrun (s : State) (f : Furnace) : (s.soakCheck f).logOverrun = s.logOverrun := (congrArg State.logOverrun (State.soakCheck_eq s f)).trans rfl
@[simp] theorem State.soakCheck_banks (s : State) (f : Furnace) : (s.soakCheck f).banks = s.banks := (congrArg State.banks (State.soakCheck_eq s f)).trans rfl
@[simp] theorem State.soakCheck_pending (s : State) (f : Furnace) : (s.soakCheck f).pending = s.pending := (congrArg State.pending (State.soakCheck_eq s f)).trans rfl
@[simp] theorem State.soakCheck_present (s : State) (f : Furnace) (q : Port) :
    (s.soakCheck f).present q = s.present q := by cases q <;> simp only [State.present, State.soakCheck_params]
@[simp] theorem State.soakCheck_crane (s : State) (f : Furnace) (j : Crane) :
    (s.soakCheck f).crane j = s.crane j := by simp only [State.crane, State.soakCheck_cranes]
@[simp] theorem State.soakCheck_furnaceParams (s : State) (f : Furnace) (h : Furnace) :
    (s.soakCheck f).furnaceParams h = s.furnaceParams h := by simp only [State.furnaceParams, State.soakCheck_params]
@[simp] theorem State.soakCheck_slab (s : State) (f : Furnace) (x : SlabId) :
    (s.soakCheck f).slab? x = s.slab? x := by simp only [State.slab?, State.soakCheck_register]
@[simp] theorem State.soakCheck_place (s : State) (f : Furnace) (x : SlabId) :
    (s.soakCheck f).place? x = s.place? x := by simp only [State.place?, State.slab?, State.soakCheck_register]
@[simp] theorem State.soakCheck_partner (s : State) (f : Furnace) (x : SlabId) :
    (s.soakCheck f).partner? x = s.partner? x := by simp only [State.partner?, State.slab?, State.soakCheck_register]
@[simp] theorem State.soakCheck_creditsFree (s : State) (f : Furnace) :
    (s.soakCheck f).creditsFree = s.creditsFree := by simp only [State.creditsFree, State.creditsHeld, State.countPlaces, State.soakCheck_params, State.soakCheck_register]
@[simp] theorem State.soakCheck_headRow (s : State) (f : Furnace) :
    (s.soakCheck f).headRow = s.headRow := by simp only [State.headRow, State.partner?, State.slab?, State.soakCheck_lane, State.soakCheck_register]

/-! respond -/

@[simp] theorem State.respond_powered (s : State) (p : Port) (r : Response) : (s.respond p r).powered = s.powered := rfl
@[simp] theorem State.respond_storeWritten (s : State) (p : Port) (r : Response) : (s.respond p r).storeWritten = s.storeWritten := rfl
@[simp] theorem State.respond_mode (s : State) (p : Port) (r : Response) : (s.respond p r).mode = s.mode := rfl
@[simp] theorem State.respond_resetRecord (s : State) (p : Port) (r : Response) : (s.respond p r).resetRecord = s.resetRecord := rfl
@[simp] theorem State.respond_runningSeconds (s : State) (p : Port) (r : Response) : (s.respond p r).runningSeconds = s.runningSeconds := rfl
@[simp] theorem State.respond_subSecond (s : State) (p : Port) (r : Response) : (s.respond p r).subSecond = s.subSecond := rfl
@[simp] theorem State.respond_params (s : State) (p : Port) (r : Response) : (s.respond p r).params = s.params := rfl
@[simp] theorem State.respond_register (s : State) (p : Port) (r : Response) : (s.respond p r).register = s.register := rfl
@[simp] theorem State.respond_doubtList (s : State) (p : Port) (r : Response) : (s.respond p r).doubtList = s.doubtList := rfl
@[simp] theorem State.respond_sequence (s : State) (p : Port) (r : Response) : (s.respond p r).sequence = s.sequence := rfl
@[simp] theorem State.respond_lane (s : State) (p : Port) (r : Response) : (s.respond p r).lane = s.lane := rfl
@[simp] theorem State.respond_laneDoubt (s : State) (p : Port) (r : Response) : (s.respond p r).laneDoubt = s.laneDoubt := rfl
@[simp] theorem State.respond_reservation (s : State) (p : Port) (r : Response) : (s.respond p r).reservation = s.reservation := rfl
@[simp] theorem State.respond_cranes (s : State) (p : Port) (r : Response) : (s.respond p r).cranes = s.cranes := rfl
@[simp] theorem State.respond_furnaces (s : State) (p : Port) (r : Response) : (s.respond p r).furnaces = s.furnaces := rfl
@[simp] theorem State.respond_log (s : State) (p : Port) (r : Response) : (s.respond p r).log = s.log := rfl
@[simp] theorem State.respond_logOverrun (s : State) (p : Port) (r : Response) : (s.respond p r).logOverrun = s.logOverrun := rfl
@[simp] theorem State.respond_banks (s : State) (p : Port) (r : Response) : (s.respond p r).banks = s.banks := rfl
@[simp] theorem State.respond_pending (s : State) (p : Port) (r : Response) : (s.respond p r).pending = s.pending := rfl
@[simp] theorem State.respond_present (s : State) (p : Port) (r : Response) (q : Port) :
    (s.respond p r).present q = s.present q := rfl
@[simp] theorem State.respond_furnace (s : State) (p : Port) (r : Response) (h : Furnace) :
    (s.respond p r).furnace h = s.furnace h := rfl
@[simp] theorem State.respond_crane (s : State) (p : Port) (r : Response) (j : Crane) :
    (s.respond p r).crane j = s.crane j := rfl
@[simp] theorem State.respond_furnaceParams (s : State) (p : Port) (r : Response) (h : Furnace) :
    (s.respond p r).furnaceParams h = s.furnaceParams h := rfl
@[simp] theorem State.respond_slab (s : State) (p : Port) (r : Response) (x : SlabId) :
    (s.respond p r).slab? x = s.slab? x := rfl
@[simp] theorem State.respond_place (s : State) (p : Port) (r : Response) (x : SlabId) :
    (s.respond p r).place? x = s.place? x := rfl
@[simp] theorem State.respond_partner (s : State) (p : Port) (r : Response) (x : SlabId) :
    (s.respond p r).partner? x = s.partner? x := rfl
@[simp] theorem State.respond_creditsFree (s : State) (p : Port) (r : Response) :
    (s.respond p r).creditsFree = s.creditsFree := rfl
@[simp] theorem State.respond_headRow (s : State) (p : Port) (r : Response) :
    (s.respond p r).headRow = s.headRow := rfl

/-! settle -/

theorem State.ports_alone_trans {s t u : State} (h : t = { s with ports := t.ports }) (g : u = { t with ports := u.ports }) :
    u = { s with ports := u.ports } :=
  g.trans (by rw [h])

theorem State.raiseWhen_eq (s : State) (c : Bool) (p : Port) (bit : Byte) :
    s.raiseWhen c p bit = { s with ports := (s.raiseWhen c p bit).ports } := rfl

theorem settleCrane_eq (b a : State) (k : Crane) (s : State) : settleCrane b a k s = { s with ports := (settleCrane b a k s).ports } :=
  State.ports_alone_trans (State.raiseWhen_eq _ _ _ _) (State.raiseWhen_eq _ _ _ _)

theorem settleFurnace_eq (b a : State) (f : Furnace) (s : State) :
    settleFurnace b a f s = { s with ports := (settleFurnace b a f s).ports } :=
  State.ports_alone_trans (State.ports_alone_trans (State.raiseWhen_eq _ _ _ _) (State.raiseWhen_eq _ _ _ _)) (State.raiseWhen_eq _ _ _ _)

/-- R37, R44, R72, R109, R130: the notices that a change raises, and nothing else. -/
theorem settle_eq (b s : State) : settle b s = { s with ports := (settle b s).ports } :=
  State.ports_alone_trans (State.ports_alone_trans (State.ports_alone_trans (State.ports_alone_trans (State.ports_alone_trans
    (State.raiseWhen_eq _ _ _ _) (settleCrane_eq _ _ _ _)) (settleCrane_eq _ _ _ _)) (settleFurnace_eq _ _ _ _))
    (settleFurnace_eq _ _ _ _)) (settleFurnace_eq _ _ _ _)

@[simp] theorem settle_powered (s : State) (b : State) : (settle b s).powered = s.powered := (congrArg State.powered (settle_eq b s)).trans rfl
@[simp] theorem settle_storeWritten (s : State) (b : State) : (settle b s).storeWritten = s.storeWritten := (congrArg State.storeWritten (settle_eq b s)).trans rfl
@[simp] theorem settle_mode (s : State) (b : State) : (settle b s).mode = s.mode := (congrArg State.mode (settle_eq b s)).trans rfl
@[simp] theorem settle_resetRecord (s : State) (b : State) : (settle b s).resetRecord = s.resetRecord := (congrArg State.resetRecord (settle_eq b s)).trans rfl
@[simp] theorem settle_runningSeconds (s : State) (b : State) : (settle b s).runningSeconds = s.runningSeconds := (congrArg State.runningSeconds (settle_eq b s)).trans rfl
@[simp] theorem settle_subSecond (s : State) (b : State) : (settle b s).subSecond = s.subSecond := (congrArg State.subSecond (settle_eq b s)).trans rfl
@[simp] theorem settle_params (s : State) (b : State) : (settle b s).params = s.params := (congrArg State.params (settle_eq b s)).trans rfl
@[simp] theorem settle_register (s : State) (b : State) : (settle b s).register = s.register := (congrArg State.register (settle_eq b s)).trans rfl
@[simp] theorem settle_doubtList (s : State) (b : State) : (settle b s).doubtList = s.doubtList := (congrArg State.doubtList (settle_eq b s)).trans rfl
@[simp] theorem settle_sequence (s : State) (b : State) : (settle b s).sequence = s.sequence := (congrArg State.sequence (settle_eq b s)).trans rfl
@[simp] theorem settle_lane (s : State) (b : State) : (settle b s).lane = s.lane := (congrArg State.lane (settle_eq b s)).trans rfl
@[simp] theorem settle_laneDoubt (s : State) (b : State) : (settle b s).laneDoubt = s.laneDoubt := (congrArg State.laneDoubt (settle_eq b s)).trans rfl
@[simp] theorem settle_reservation (s : State) (b : State) : (settle b s).reservation = s.reservation := (congrArg State.reservation (settle_eq b s)).trans rfl
@[simp] theorem settle_cranes (s : State) (b : State) : (settle b s).cranes = s.cranes := (congrArg State.cranes (settle_eq b s)).trans rfl
@[simp] theorem settle_furnaces (s : State) (b : State) : (settle b s).furnaces = s.furnaces := (congrArg State.furnaces (settle_eq b s)).trans rfl
@[simp] theorem settle_log (s : State) (b : State) : (settle b s).log = s.log := (congrArg State.log (settle_eq b s)).trans rfl
@[simp] theorem settle_logOverrun (s : State) (b : State) : (settle b s).logOverrun = s.logOverrun := (congrArg State.logOverrun (settle_eq b s)).trans rfl
@[simp] theorem settle_banks (s : State) (b : State) : (settle b s).banks = s.banks := (congrArg State.banks (settle_eq b s)).trans rfl
@[simp] theorem settle_pending (s : State) (b : State) : (settle b s).pending = s.pending := (congrArg State.pending (settle_eq b s)).trans rfl
@[simp] theorem settle_present (s : State) (b : State) (q : Port) :
    (settle b s).present q = s.present q := by cases q <;> simp only [State.present, settle_params]
@[simp] theorem settle_furnace (s : State) (b : State) (h : Furnace) :
    (settle b s).furnace h = s.furnace h := by simp only [State.furnace, settle_furnaces]
@[simp] theorem settle_crane (s : State) (b : State) (j : Crane) :
    (settle b s).crane j = s.crane j := by simp only [State.crane, settle_cranes]
@[simp] theorem settle_furnaceParams (s : State) (b : State) (h : Furnace) :
    (settle b s).furnaceParams h = s.furnaceParams h := by simp only [State.furnaceParams, settle_params]
@[simp] theorem settle_slab (s : State) (b : State) (x : SlabId) :
    (settle b s).slab? x = s.slab? x := by simp only [State.slab?, settle_register]
@[simp] theorem settle_place (s : State) (b : State) (x : SlabId) :
    (settle b s).place? x = s.place? x := by simp only [State.place?, State.slab?, settle_register]
@[simp] theorem settle_partner (s : State) (b : State) (x : SlabId) :
    (settle b s).partner? x = s.partner? x := by simp only [State.partner?, State.slab?, settle_register]
@[simp] theorem settle_creditsFree (s : State) (b : State) :
    (settle b s).creditsFree = s.creditsFree := by simp only [State.creditsFree, State.creditsHeld, State.countPlaces, settle_params, settle_register]
@[simp] theorem settle_headRow (s : State) (b : State) :
    (settle b s).headRow = s.headRow := by simp only [State.headRow, State.partner?, State.slab?, settle_lane, settle_register]

end Sys2Proof.Machine
end

