-- ==== Sys2Proof/Laws/Operations.lean ====
section
/-!
SUPPORT. Laws/Operations.lean: what the shared operations do to the account, one lemma for each operation and
figure: where a slab stands, who its partner is, which credits are held, after a change of place, the end of a
pair, the end of a record, the start of doubt, and a join of the lane.
-/

namespace Sys2Proof.Machine

/-- A change to every record that keeps the ids is seen in the record of each id. -/
theorem find?_map_record (l : List SlabRecord) (h : SlabRecord → SlabRecord) (hh : ∀ r, (h r).id = r.id) (x : SlabId) :
    (l.map h).find? (fun r => r.id == x) = (l.find? fun r => r.id == x).map h := by
  rw [List.find?_map]
  congr 2
  funext r
  simp [hh]

/-- R1: the live record of an id carries it. -/
theorem State.slab?_id {s : State} {x : SlabId} {r : SlabRecord} (h : s.slab? x = some r) : r.id = x := by
  simpa using List.find?_some h

/-- The record of a slab id after a change to the records of one slab. -/
theorem State.updateSlab_slab? (s : State) (id x : SlabId) (g : SlabRecord → SlabRecord) (hg : ∀ r, (g r).id = r.id) :
    (s.updateSlab id g).slab? x = if x = id then (s.slab? x).map g else s.slab? x := by
  have h := find?_map_record s.register (fun r => if r.id == id then g r else r) (fun r => by split <;> simp [hg]) x
  have h' : (s.updateSlab id g).slab? x = (s.slab? x).map fun r => if r.id == id then g r else r := h
  rw [h']
  cases hx : s.slab? x with
  | none => simp
  | some r => have := State.slab?_id hx; subst this; simp only [Option.map_some, beq_iff_eq]; split <;> rfl

/-- R8: the record of a slab after a state change of one slab. -/
theorem State.setPlace_slab? (s : State) (id x : SlabId) (pl : Place) :
    (s.setPlace id pl).slab? x = if x = id then (s.slab? x).map fun r => { r with place := pl } else s.slab? x :=
  s.updateSlab_slab? id x _ fun _ => rfl

/-- R8: where a slab stands after a state change of one slab. -/
theorem State.setPlace_place? (s : State) (id x : SlabId) (pl : Place) :
    (s.setPlace id pl).place? x = if x = id then (s.place? x).map fun _ => pl else s.place? x := by
  simp only [State.place?, State.setPlace_slab?]; split <;> simp [Function.comp_def]

/-- R8: a state change leaves the partner fields. -/
@[simp] theorem State.setPlace_partner? (s : State) (id x : SlabId) (pl : Place) :
    (s.setPlace id pl).partner? x = s.partner? x := by
  simp only [State.partner?, State.setPlace_slab?]
  split
  · cases s.slab? x <;> rfl
  · rfl

/-- R93: the slabs a record is parted from after its pair has dissolved: those before, and its partner. -/
theorem SlabRecord.mem_unpaired_parted (r : SlabRecord) (x : SlabId) :
    x ∈ r.unpaired.parted ↔ x ∈ r.parted ∨ ∃ q, r.partner = some q ∧ q.id = x := by
  unfold SlabRecord.unpaired
  cases hq : r.partner with
  | none => simp
  | some q =>
    by_cases h : q.id ∈ r.parted
    · simp only [h, if_true, Option.some.injEq, exists_eq_left']
      exact ⟨.inl, fun hx => hx.elim (fun y => y) fun e => e ▸ h⟩
    · simp only [h, if_false, List.mem_cons, Option.some.injEq, exists_eq_left']
      exact ⟨fun hx => hx.elim (fun e => .inr e.symm) .inl, fun hx => hx.elim .inr fun e => .inl e.symm⟩

/-- R5, R92, R93: a record whose pair dissolves becomes single. -/
theorem SlabRecord.unpaired_becomesSingle (r : SlabRecord) : r.becomesSingle r.unpaired := ⟨rfl, r.mem_unpaired_parted⟩

/-- R5: a second end of its pair leaves a record as it is. -/
@[simp] theorem SlabRecord.unpaired_unpaired (r : SlabRecord) : r.unpaired.unpaired = r.unpaired := by
  simp [SlabRecord.unpaired]

/-- R93: the slabs a record is parted from after another slab has been freed. -/
theorem SlabRecord.mem_forget_parted (r : SlabRecord) (id x : SlabId) :
    x ∈ (r.forget id).parted ↔ x ∈ r.parted ∧ x ≠ id := by simp [SlabRecord.forget]

/-- R5: the record of a slab after a pair dissolves. -/
theorem State.dissolvePair_slab? (s : State) (id x : SlabId) :
    (s.dissolvePair id).slab? x =
      (s.slab? x).map fun r => if r.id == id || r.paired id then r.unpaired else r :=
  find?_map_record s.register _ (fun r => by split <;> rfl) x

/-- R5: the end of a pair moves no slab. -/
@[simp] theorem State.dissolvePair_place? (s : State) (id x : SlabId) : (s.dissolvePair id).place? x = s.place? x := by
  simp only [State.place?, State.dissolvePair_slab?]
  cases s.slab? x with
  | none => rfl
  | some r => simp only [Option.map_some]; split <;> rfl

/-- R16, R17: the record of a slab after one record is freed. -/
theorem State.freeSlab_slab? (s : State) (id x : SlabId) :
    (s.freeSlab id).slab? x = if x = id then none else (s.slab? x).map fun r => r.forget id := by
  have h := find?_map_record (s.register.filter fun r => r.id != id) (fun r => r.forget id) (fun _ => rfl) x
  have hf : (s.register.filter fun r => r.id != id).find? (fun r => r.id == x) = if x = id then none else s.slab? x := by
    rw [List.find?_filter]
    split
    · next hx => subst hx; simp
    · next hx =>
      unfold State.slab?
      congr 1
      funext r
      by_cases hr : r.id = x
      · simp [hr, hx]
      · simp [hr]
  rw [hf] at h
  refine Eq.trans h ?_
  split <;> rfl

/-- R17: the end of a record moves no other slab. -/
theorem State.freeSlab_place? (s : State) (id x : SlabId) :
    (s.freeSlab id).place? x = if x = id then none else s.place? x := by
  simp only [State.place?, State.freeSlab_slab?]
  split
  · rfl
  · cases s.slab? x <;> rfl

/-- R6, R142: where a slab stands after one has become DOUBTFUL. -/
theorem State.makeDoubtful_place? (s : State) (id x : SlabId) (last : LastKnown) :
    (s.makeDoubtful id last).place? x = if x = id then (s.place? x).map fun _ => .doubtful last else s.place? x :=
  ((s.dissolvePair id).setPlace_place? id x (.doubtful last)).trans (by simp)

/-- R142: the doubt list after a slab has become DOUBTFUL. -/
@[simp] theorem State.makeDoubtful_doubtList (s : State) (id : SlabId) (last : LastKnown) :
    (s.makeDoubtful id last).doubtList = s.doubtList ++ [id] := rfl

/-- R7, R145: where a slab stands after one was resolved. -/
theorem State.resolveTo_place? (s : State) (id x : SlabId) (pl : Place) :
    (s.resolveTo id pl).place? x = if x = id then (s.place? x).map fun _ => pl else s.place? x := by
  have h := s.updateSlab_slab? id x (fun r => { r with place := pl, edited := true }) fun _ => rfl
  have h' : (s.resolveTo id pl).slab? x = _ := h
  simp only [State.place?, h']; split <;> simp [Function.comp_def]

/-- R89, R145, R146: all that a requeue does. The record is LISTED and edited, and notes whether it had been permitted;
the id leaves the doubt list and joins the sequence behind the fixed span. -/
theorem State.requeue_eq (s : State) (id : SlabId) :
    s.requeue id = { s.updateSlab id fun r =>
        { r with place := .listed, edited := true, requeuedTested := r.requeuedTested || r.pairingTested } with
      doubtList := s.doubtList.filter fun d => d != id
      sequence := s.sequence.take s.fixedSpan ++ id :: s.sequence.drop s.fixedSpan } := by
  simp only [State.requeue, State.resolveTo, State.joinSequence, State.updateSlab, List.map_map]
  congr 1
  refine List.map_congr_left fun r _ => ?_
  by_cases h : r.id = id <;> simp [h, SlabRecord.requeued]

/-- R94: what the geometry test asks: of a write that bounds records, that they fit; of every write, that a configured
furnace takes the shortest slab in RUN. -/
theorem State.geometryPasses_iff (s : State) (f : Furnace) (g : FurnaceParam) (fp : FurnaceParams) :
    s.geometryPasses f g fp = true ↔ (g.boundsRecords = true → s.recordsFit f fp = true) ∧
      (s.mode = .run → furnaceNumber f ≤ s.params.furnaceCount → fp.sizeFits 1500 = true) := by
  cases hg : g.boundsRecords <;> cases hm : s.mode <;> cases hs : fp.sizeFits 1500 <;>
    simp [State.geometryPasses, hg, hm, hs]

/-- R57: the pair check dissolves pairs, and changes nothing else. -/
theorem State.lanePairCheck_eq (s : State) : s.lanePairCheck = { s with register := s.lanePairCheck.register } := by
  have key : ∀ (l : List SlabId) (t : State),
      (l.foldl (fun t id => if t.checkPairOf id then t else t.dissolvePair id) t) =
        { t with register := (l.foldl (fun t id => if t.checkPairOf id then t else t.dissolvePair id) t).register } := by
    intro l
    induction l with
    | nil => intro t; rfl
    | cons a l ih =>
      intro t
      simp only [List.foldl_cons]
      rw [ih]
      split <;> rfl
  exact key s.lane s

/-- R57: the pair check moves no slab. -/
@[simp] theorem State.lanePairCheck_place? (s : State) (x : SlabId) : s.lanePairCheck.place? x = s.place? x := by
  have key : ∀ (l : List SlabId) (t : State),
      (l.foldl (fun t id => if t.checkPairOf id then t else t.dissolvePair id) t).place? x = t.place? x := by
    intro l
    induction l with
    | nil => intro t; rfl
    | cons a l ih => intro t; rw [List.foldl_cons, ih]; split <;> simp
  exact key s.lane s

/-- R56, R57: a join of the lane touches the lane and the partner fields alone. -/
theorem State.joinLaneTail_eq (s : State) (id : SlabId) :
    s.joinLaneTail id = { s with lane := s.lane ++ [id], register := (s.joinLaneTail id).register } :=
  State.lanePairCheck_eq _

@[simp] theorem State.joinLaneTail_lane (s : State) (id : SlabId) : (s.joinLaneTail id).lane = s.lane ++ [id] := by
  rw [State.joinLaneTail_eq]

/-- R56: a join of the lane moves no slab of the register. -/
@[simp] theorem State.joinLaneTail_place? (s : State) (id x : SlabId) : (s.joinLaneTail id).place? x = s.place? x :=
  State.lanePairCheck_place? _ x

/-- R173: what a raise leaves at a port. -/
theorem State.raiseWhen_port (s : State) (c : Bool) (p q : Port) (bit : Byte) :
    (s.raiseWhen c p bit).port q = if c = true ∧ s.present p = true ∧ q = p
      then { s.port p with notices := (s.port p).notices ||| bit } else s.port q := by
  by_cases h : c = true ∧ s.present p = true
  · simp only [State.port, State.raiseWhen, h.1, h.2, Bool.and_self, if_true, ByPort.get_set, true_and]
  · have hc : (c && s.present p) = false := by simpa using h
    have : ¬(c = true ∧ s.present p = true ∧ q = p) := fun g => h ⟨g.1, g.2.1⟩
    simp only [State.port, State.raiseWhen, hc, this, if_false, Bool.false_eq_true]

/-- R173: a raise that does not happen. -/
@[simp] theorem State.raiseWhen_false (s : State) (p : Port) (bit : Byte) : s.raiseWhen false p bit = s := by
  simp [State.raiseWhen]

/-- R37, R44, R72, R109, R130: an event that leaves the LISTED count, the credits, the head's crane, and what is open and
ready as they were raises no notice. -/
theorem settle_of_same {s t : State} (hl : t.listedCount = s.listedCount) (hc : t.creditsFree = s.creditsFree)
    (hh : ∀ k, t.carriesHead k = s.carriesHead k) (ho : ∀ f, t.isOpen f = s.isOpen f) (hr : ∀ f, t.ready f = s.ready f) :
    settle s t = t := by
  have h1 : fallsToMark s t = false := by
    simp only [fallsToMark, hl, Bool.and_eq_false_iff, decide_eq_false_iff_not, beq_eq_false_iff_ne]; omega
  have h2 : ∀ k, creditRaised s t k = false := by
    intro k
    have : creditAppears s t = false := by
      simp only [creditAppears, hc, Bool.and_eq_false_iff, decide_eq_false_iff_not, beq_eq_false_iff_ne]; omega
    simp [creditRaised, this]
  have h3 : ∀ k, turnRaised s t k = false := by intro k; simp [turnRaised, hh]
  have h4 : ∀ f, holdRaised s t f = false := by intro f; simp [holdRaised, ho]
  have h5 : ∀ f, rowReadyRaised s t f = false := by intro f; simp [rowReadyRaised, hr]
  simp only [settle, settleCrane, settleFurnace, h1, h2, h3, h4, h5, State.raiseWhen_false]

/-- R165: a response changes the machine of its port alone. -/
theorem State.respond_port (s : State) (p q : Port) (r : Response) :
    (s.respond p r).port q = if q = p then { s.port p with exchange := .responseReady r.frame } else s.port q :=
  State.updatePort_port s p q _

end Sys2Proof.Machine
end

