-- ==== Sys2Proof/Laws/Requests.lean ====
section
/-!
SUPPORT. Laws/Requests.lean: how a command reaches its rule, said once. A request answers a next state in every
case; where its port serves it and the role allows its kind, that is the state of its rule with the answer given
to the port.
-/

namespace Sys2Proof.Machine

/-- R169: where a port serves requests, no test of link state or mode refuses a kind. -/
theorem State.serves.standing {s : State} {p : Port} (h : s.serves p) (k : Kind) : s.standingRefusal p k = none := by
  obtain ⟨_, _, hl, hm⟩ := h
  unfold State.standingRefusal State.notRunning
  rw [hl]
  rcases hm with hm | rfl
  · simp [Kind.allowedIn, hm]
  · simp [Kind.allowedIn]

/-- R165, R169: a request that its port serves and its role allows is the rule's. -/
theorem request_of_serves {s : State} {p : Port} (k : Kind) (rule : State → State × Response) (h : s.serves p)
    (hk : k.allowedTo (portRole p) = true) : request p k rule s = .next ((rule s).1.respond p (rule s).2) := by
  simp [request, answered, judged, h.1, h.2.1, hk, h.standing k]

/-- A request answers a next state in every case. -/
theorem request_next (p : Port) (k : Kind) (rule : State → State × Response) (s : State) : ∃ t, request p k rule s = .next t :=
  ⟨_, rfl⟩

/-- R180: without power a request changes nothing. -/
theorem request_unpowered (p : Port) (k : Kind) (rule : State → State × Response) {s : State} (h : s.powered = false) :
    request p k rule s = .next s := by simp [request, h]

/-- R162: a port that is not present takes no request. -/
theorem request_absent (p : Port) (k : Kind) (rule : State → State × Response) {s : State} (h : s.present p = false) :
    request p k rule s = .next s := by simp [request, h]

/-- R169: a kind that the role does not allow is refused and logged. -/
theorem request_refused_kind {s : State} {p : Port} (k : Kind) (rule : State → State × Response) (hw : s.powered = true)
    (hp : s.present p = true) (hk : k.allowedTo (portRole p) = false) :
    request p k rule s = .next ((s.logFault .link .kindRefused none (some p)).respond p (.refuse .kind [])) := by
  simp [request, answered, judged, hw, hp, hk, State.refuseKind, refused]

/-- R180: an event of the part. -/
theorem event_of_powered (g : State → State) {s : State} (h : s.powered = true) : event g s = .next (g s) := by
  simp [event, h]

/-- R162, R180: an event on a port that is present. -/
theorem portEvent_of_present (p : Port) (g : State → State) {s : State} (h : s.powered = true) (hp : s.present p = true) :
    portEvent p g s = .next (g s) := by simp [portEvent, event, h, hp]

@[simp] theorem portRole_cranePort (k : Crane) : portRole (cranePort k) = .crane := by cases k <;> rfl
@[simp] theorem portRole_furnacePort (f : Furnace) : portRole (furnacePort f) = .furnace := by cases f <;> rfl
@[simp] theorem portCrane_cranePort (k : Crane) : portCrane (cranePort k) = some k := by cases k <;> rfl
@[simp] theorem portFurnace_furnacePort (f : Furnace) : portFurnace (furnacePort f) = some f := by cases f <;> rfl
@[simp] theorem portCrane_furnacePort (f : Furnace) : portCrane (furnacePort f) = none := by cases f <;> rfl
@[simp] theorem portFurnace_cranePort (k : Crane) : portFurnace (cranePort k) = none := by cases k <;> rfl
@[simp] theorem cranePort_ne_p0 (k : Crane) : cranePort k ≠ .p0 := by cases k <;> decide
@[simp] theorem furnacePort_ne_p0 (f : Furnace) : furnacePort f ≠ .p0 := by cases f <;> decide

/-- R45: on a crane's port a rule of the Lane Unit is that crane's. -/
@[simp] theorem forCrane_cranePort (k : Crane) (rule : Crane → State → State × Response) (s : State) :
    forCrane (cranePort k) rule s = rule k s := by simp [forCrane]

/-- R112: on a furnace's port a rule of a Furnace Map is that furnace's. -/
@[simp] theorem forFurnace_furnacePort (f : Furnace) (rule : Furnace → State → State × Response) (s : State) :
    forFurnace (furnacePort f) rule s = rule f s := by simp [forFurnace]

end Sys2Proof.Machine
end

