-- ==== Sys2Proof/Tests/Slice0.lean ====
section
/-!
SUPPORT. Tests/Slice0.lean: the smoke test of WellFormed, one small test of one step for the commands, with the
expected result taken from the manual's worked examples and tables, and for each statement with hypotheses a
witness: a concrete state and operands that meet them.
-/

namespace Sys2Proof.Tests

open Sys2Proof Sys2Proof.Machine

set_option Elab.async false

/-! ### Small states -/

/-- A port that has said HELLO. -/
def open_ (r : Role) : PortState := { PortState.fresh with link := .active, silence := some 80, mask := roleKinds r }

def openPorts : ByPort PortState := ⟨open_ .supv, open_ .crane, open_ .crane, open_ .furnace, open_ .furnace, open_ .furnace⟩

/-- Every port ACTIVE, nothing tracked yet, in CONFIG and in RUN. -/
def ready : State := { State.reset with ports := openPorts }
def running : State := { ready with mode := .run }

/-- A COLD, pairable slab of heating class 0x14. -/
def slab (id length width thickness : Nat) (f : Furnace) (pl : Place) : SlabRecord where
  id := id
  length := length
  width := width
  thickness := thickness
  heatingClass := 0x14
  tempClass := .cold
  destination := f
  pairable := true
  place := pl
  partner := none
  edited := false
  pairingTested := false
  pairDissolved := false
  requeuedTested := false
  parted := []

def pairedWith (r : SlabRecord) (id : SlabId) (role : PairRole) : SlabRecord := { r with partner := some ⟨id, role⟩ }

def partedFrom (r : SlabRecord) (id : SlabId) : SlabRecord := { r with pairDissolved := true, parted := [id] }

def row (a : SlabId) (b : Option SlabId) (rear width residence target : Nat) : Row := ⟨a, b, rear, width, residence, target, false⟩

/-- Section 2.6: seven LISTED slabs for furnace 1. -/
def queued : State :=
  { running with
    register := [7001, 7002, 7003, 7004, 7005, 7006, 7007].map fun i => slab i 3000 1500 200 .f1 .listed
    sequence := [7001, 7002, 7003, 7004, 7005, 7006, 7007] }

/-- A part with a slab in every place. -/
def plant : State :=
  { running with
    register := [
      pairedWith (slab 11 3000 1500 200 .f1 (.lifted .c1 false)) 12 .first,
      pairedWith (slab 12 3000 1500 200 .f1 (.permitted .c2)) 11 .second,
      partedFrom (slab 13 3000 1500 200 .f1 .listed) 14, partedFrom (slab 14 3000 1500 200 .f2 .listed) 13,
      pairedWith (slab 21 4200 1900 230 .f3 .onLane) 22 .first, pairedWith (slab 22 4400 2100 260 .f3 .onLane) 21 .second,
      slab 31 3000 2000 200 .f2 (.atEntry .f2 .single), slab 41 3000 2000 200 .f1 (.inFurnace .f1 .single),
      pairedWith (slab 42 3000 2100 200 .f1 (.inFurnace .f1 .left)) 43 .first,
      pairedWith (slab 43 3000 2100 200 .f1 (.inFurnace .f1 .right)) 42 .second,
      slab 51 3000 2000 200 .f3 (.doubtful (.lifted .c1)), slab 52 3000 1800 200 .f3 (.doubtful (.atEntry .f1 .left))]
    sequence := [11, 12, 13, 14]
    lane := [21, 22]
    doubtList := [51, 52]
    reservation := some ⟨.c1, 11⟩
    cranes := ⟨⟨none, some 11, some 9000⟩, ⟨some 3000, none, none⟩⟩
    furnaces := ⟨{ FurnaceState.fresh with rows := [row 41 none 2600 2000 100 4800, row 42 (some 43) 30000 2100 5384 5385] },
      { FurnaceState.fresh with op := .charging 31 none 2000 4800, chargeTimer := some 1200 }, .fresh⟩
    log := [⟨9, .f1, .single, 5000, 4800, false, false, false, 7⟩]
    banks := { State.reset.banks with lane := { Bank.fresh with record := some ⟨.advisory, .depositUncleared, some 9, none, 3⟩ } } }

/-- The state after a command. -/
def after (c : Instr) (s : State) : State :=
  match exec c s with
  | .next t => t
  | .fault _ => s
  | .refused _ => s

/-- The answer that a request leaves ready on its port. -/
def answer (c : Instr) (p : Port) (s : State) : Option (List Byte) :=
  match ((after c s).port p).exchange with
  | .responseReady frame => some frame
  | _ => none

/-- The state with the machine of port `p` in another state. -/
def withExchange (s : State) (p : Port) (x : Exchange) : State := s.updatePort p fun q => { q with exchange := x }

/-! ### WellFormed: an ill-formed command for each check (R164, R166, R168) -/

def bytes (n : Nat) : List Byte := List.replicate n 0

theorem test_wellFormed_bodies : (Instr.slabAnnounce .p0 (bytes 60)).wellFormed = true ∧ (Instr.slabAnnounce .p0 (bytes 61)).wellFormed = false := by
  decide +kernel
theorem test_wellFormed_outcome_bodies : (Instr.slabResolvePlace .p0 1 (bytes 55)).wellFormed = true ∧
    (Instr.slabResolvePlace .p0 1 (bytes 56)).wellFormed = false := by decide +kernel
theorem test_wellFormed_abort_bodies : (Instr.chargeAbortStuck .p3 (bytes 59)).wellFormed = true ∧
    (Instr.chargeAbortStuck .p3 (bytes 60)).wellFormed = false := by decide +kernel
theorem test_wellFormed_partial_bits : (Instr.frameEnd .p0 [0x01] 7).wellFormed = true ∧ (Instr.frameEnd .p0 [0x01] 8).wellFormed = false := by
  decide +kernel
theorem test_wellFormed_discard : (Instr.responseDiscarded .p0 0x01).wellFormed = true ∧ (Instr.responseDiscarded .p0 0x00).wellFormed = false := by
  decide +kernel

/-! ### Frames, bytes and sums (sections 9.3, 5.3 and 5.5) -/

/-- Section 9.3, worked example: the check byte of HELLO. -/
theorem test_crc_of_hello : frameOf 0x01 [] = [0x01, 0x00, 0x15] := by decide +kernel
/-- The running value after byte 0x01 of the same example. -/
theorem test_crc_of_first_byte : crcByte 0x00 0x01 = 0x07 := by decide +kernel
theorem test_field_order : field [0x12, 0x34, 0x56, 0x78] 1 2 = 0x3456 := by decide +kernel
/-- Section 5.3, worked example: admission filters. -/
theorem test_admission_filters :
    ({ FurnaceParams.default with admissionMask := 0x81, admissionMatch := 0x01 } : FurnaceParams).admits 0x35 = true ∧
    ({ FurnaceParams.default with admissionMask := 0x81, admissionMatch := 0x01 } : FurnaceParams).admits 0xB5 = false ∧
    ({ FurnaceParams.default with admissionMask := 0x0F, admissionMatch := 0xF3 } : FurnaceParams).admits 0x13 = true := by
  decide +kernel
/-- Section 5.8, worked example: 240 mm at 240 ds/mm and 80 percent. -/
theorem test_soak_target : soakTargetOf 240 240 80 = 4608 := by decide +kernel
/-- Section 5.8, worked example: 1830 mm to walk in strokes of 300 mm. -/
theorem test_walk_count : FurnaceParams.default.walkCount [row 2950 none 420 1900 0 0] 2100 = 7 := by decide +kernel
/-- Section 5.8, worked example, map X and map Y. -/
theorem test_fit : FurnaceParams.default.fit [row 1 none 420 1900 0 0, row 2 none 36900 1800 0 0] 2100 7 = .fits ∧
    FurnaceParams.default.fit [row 1 none 420 1900 0 0, row 2 none 38500 1800 0 0] 2100 7 = .fullLength := by decide +kernel

/-! ### One step of a command -/

/-- R181: the first power-on. -/
theorem test_powerOn : after .powerOn { running with storeWritten := false, runningSeconds := 5 } = State.reset := by decide +kernel
/-- R181, recovery, on a slab in every place: the LIFTED slab and the slab at the entry are DOUBTFUL. -/
theorem test_powerOn_recovers : (after .powerOn plant).doubtList = [51, 52, 11, 31] ∧ (after .powerOn plant).sequence = [12, 13, 14] ∧
    (after .powerOn plant).laneDoubt = true := by decide +kernel
theorem test_lossOfPower : (after .lossOfPower plant).powered = false ∧ (after .lossOfPower plant).register = plant.register := by
  decide +kernel
/-- R116, R117: the front row reaches its target of 5385 s. -/
theorem test_runningSecondsAdvance : ((after .runningSecondsAdvance plant).port .p3).notices = 0x04 ∧
    (after .runningSecondsAdvance plant).runningSeconds = 1 := by decide +kernel
theorem test_permitTimerExpiry : (after (.permitTimerExpiry .c2) plant).place? 12 = some .listed ∧
    ((after (.permitTimerExpiry .c2) plant).port .p2).notices = 0x01 := by decide +kernel
theorem test_custodyTimerExpiry : (after (.custodyTimerExpiry .c1) plant).place? 11 = some (.lifted .c1 true) ∧
    ((after (.custodyTimerExpiry .c1) plant).crane .c1).custodyTimer = some 9000 := by decide +kernel
theorem test_chargeTimerExpiry : (after (.chargeTimerExpiry .f2) plant).place? 31 = some (.doubtful (.atEntry .f2 .single)) ∧
    ((after (.chargeTimerExpiry .f2) plant).furnace .f2).op = .idle true := by decide +kernel
theorem test_silenceTimerExpiry : (after (.silenceTimerExpiry .p1) plant).doubtList = [51, 52, 11] ∧
    ((after (.silenceTimerExpiry .p1) plant).port .p1).link = .lost := by decide +kernel
/-- R164, R165: HELLO clocked in on P0, its bytes in two parts, and its processing. -/
theorem test_exchange_takes_hello : after (.processingEnd .p0) (after (.frameEnd .p0 [0x00, 0x15] 3)
    (withExchange State.reset .p0 (.receiving [0x01] 1))) = after (.hello .p0 []) (withExchange State.reset .p0 (.processing [0x01, 0x00, 0x15] 3)) := by
  decide +kernel
theorem test_selAssert : ((after (.selAssert .p1) running).port .p1).exchange = .receiving [] 0 := by decide +kernel
theorem test_frame_of_64_bytes_is_refused : answer (.processingEnd .p0) .p0 (after (.frameEnd .p0 (bytes 64) 0)
    (withExchange running .p0 (.receiving [] 0))) = some (frameOf 0x83 [0x01]) := by decide +kernel
theorem test_frameWhileBusy : (after (.frameWhileBusy .p0) (withExchange running .p0 (.processing [] 0))).banks.link.record =
    some ⟨.advisory, .frameWhileBusy, none, some .p0, 0⟩ := by decide +kernel
/-- R165: a selection made in PROCESSING that outlasts it. RDY is high, and its bytes take and give nothing. -/
def outlasting (p : Port) : State := after (.processingEnd p) (after (.selAssert p) (withExchange running p (.processing [0x00] 1)))

theorem test_selection_ignored_after_processing : after (.readout .p1) (outlasting .p1) = outlasting .p1 ∧
    after (.responseDiscarded .p1 0x01) (outlasting .p1) = outlasting .p1 ∧ ((outlasting .p1).port .p1).rdy = true ∧
    ((outlasting .p1).port .p1).dataOut 0 = some 0xFF := by decide +kernel
theorem test_readout_after_ignored_selection : ((after (.readout .p1) (after (.readoutEnd .p1) (outlasting .p1))).port .p1).exchange =
    .reading (frameOf 0x83 [0x01]) := by decide +kernel
theorem test_readout : ((after (.readout .p0) (withExchange running .p0 (.responseReady [0x81]))).port .p0).exchange = .reading [0x81] := by
  decide +kernel
theorem test_responseDiscarded : ((after (.responseDiscarded .p0 0x02) (withExchange running .p0 (.responseReady [0x81]))).port .p0).exchange =
    .receiving [0x02] 1 := by decide +kernel
theorem test_readoutEnd : ((after (.readoutEnd .p0) (withExchange running .p0 (.reading [0x81]))).port .p0).exchange = .idle := by decide +kernel
/-- R170: port 1, CRANE, crane 1, RUN, link state before ACTIVE, TURN. -/
theorem test_hello : answer (.hello .p1 []) .p1 plant = some (frameOf 0x81 [1, 1, 1, 1, 1, 0x02]) := by decide +kernel
/-- R184: RUN, POWER_ON, ACTIVE, 1 credit, 2 on the lane, three furnaces, 2 doubtful. -/
theorem test_status : answer (.status .p0 []) .p0 plant =
    some (frameOf 0x81 [1, 1, 1, 1, 2, 0, 3, 0, 2, 0, 0, 0, 0, 0, 2, 0, 0, 0, 0]) := by decide +kernel
theorem test_notice_requests : answer (.noticeRead .p2 []) .p2 running = some (frameOf 0x81 [0x00, 0x07]) ∧
    answer (.noticeClear .p2 [0x08]) .p2 running = some (frameOf 0x83 [0x03]) ∧
    answer (.noticeMask .p2 [0x05]) .p2 running = some (frameOf 0x81 [0x05, 0x00]) := by decide +kernel
theorem test_park : answer (.park .p1 []) .p1 plant = some (frameOf 0x81 [0, 1]) ∧ answer (.park .p3 []) .p3 plant = some (frameOf 0x81 [1]) := by
  decide +kernel
/-- Section 1.5, worked example, announcement 1: index 0, 1 entry, live 1. -/
theorem test_slabAnnounce : answer (.slabAnnounce .p0 (u32 5001 ++ u16 3800 ++ u16 1500 ++ u16 200 ++ [0x14, 0, 1, 1] ++ u32 0)) .p0 running =
    some (frameOf 0x81 [0, 0, 0x13, 0x89, 0, 1, 0, 1]) := by decide +kernel
/-- Announcement 6 of the same example: 5999 is not in the sequence. -/
theorem test_slabAnnounce_before_unknown :
    answer (.slabAnnounce .p0 (u32 5005 ++ u16 3000 ++ u16 1500 ++ u16 200 ++ [0x14, 0, 1, 1] ++ u32 5999)) .p0 running =
    some (frameOf 0x83 [9]) := by decide +kernel
/-- Section 2.6, worked example, requests 1, 3, 7 and 8. -/
theorem test_permitAsk : answer (.permitAsk .p1 []) .p1 queued =
    some (frameOf 0x81 (u32 7001 ++ u16 3000 ++ u16 1500 ++ u16 200 ++ [0x14, 0, 1, 1] ++ u32 7002 ++ [1])) := by decide +kernel
/-- The pair of 7001 and 7002 dissolves by a return, and 7001 moves behind 7002. -/
def reordered : State := after (.seqMove .p0 (u32 7001 ++ u32 7003)) (after (.permitReturn .p1 (u32 7001)) (after (.permitAsk .p1 []) queued))

/-- R92, R93: the permit of 7002 forms no pair with 7001; nor does one of a placed pair that was parted untested. R90: a slab that
was tested and never in a pair may be the successor. -/
theorem test_dissolved_pair_is_not_reformed : mayBeSecond (partedFrom (slab 1 3000 1500 200 .f1 .listed) 2) (slab 2 3000 1500 200 .f1 .listed) = false ∧
    mayBeSecond (slab 1 3000 1500 200 .f1 .listed) { slab 2 3000 1500 200 .f1 .listed with pairingTested := true } = true ∧
    reordered.sequence.take 3 = [7002, 7001, 7003] ∧ answer (.permitAsk .p1 []) .p1 reordered =
    some (frameOf 0x81 (u32 7002 ++ u16 3000 ++ u16 1500 ++ u16 200 ++ [0x14, 0, 1, 1] ++ u32 0 ++ [0])) := by decide +kernel
/-- 7002 became doubtful after a permit and stands in doubt alone. -/
def doubted (tested : Bool) : State :=
  { queued with
    register := queued.register.map fun r =>
      if r.id = 7002 then { r with place := .doubtful (.lifted .c1), pairingTested := tested } else r
    sequence := [7001, 7003, 7004]
    doubtList := [7002] }

/-- R146: a slab requeued after it had been permitted is charged single, so that the permit of the slab before it forms no
pair with it; one that was never tested can be the successor. Each requeue is at the head, and 7001 then moves before it. -/
theorem test_requeued_slab_is_charged_single :
    let requeued := fun tested => after (.seqMove .p0 (u32 7001 ++ u32 7002)) (after (.slabResolveRequeue .p0 7002 []) (doubted tested))
    (requeued true).sequence = [7001, 7002, 7003, 7004] ∧ (requeued true).pairingPartner 7001 = none ∧
      (requeued false).sequence = [7001, 7002, 7003, 7004] ∧ (requeued false).pairingPartner 7001 = some 7002 := by decide +kernel
theorem test_seqMove : answer (.seqMove .p0 (u32 7005 ++ u32 7003)) .p0 (after (.permitAsk .p1 []) queued) =
    some (frameOf 0x81 (u32 7005 ++ [2, 7])) := by decide +kernel
theorem test_seqWithdraw : answer (.seqWithdraw .p0 (u32 7003)) .p0 queued = some (frameOf 0x81 (u32 7003 ++ [0, 0, 0, 0, 0, 0, 6, 6, 0, 6])) := by
  decide +kernel
theorem test_seqWithdraw_lifted : answer (.seqWithdraw .p0 (u32 11)) .p0 plant = some (frameOf 0x83 [11]) := by decide +kernel
theorem test_permitReturn : answer (.permitReturn .p2 (u32 12)) .p2 plant = some (frameOf 0x81 (u32 12 ++ [2])) ∧
    (after (.permitReturn .p2 (u32 12)) plant).partner? 11 = none := by decide +kernel
theorem test_seqRead : answer (.seqRead .p0 [6]) .p0 queued = some (frameOf 0x81 ([7, 7, 0, 6, 1] ++ u32 7007)) := by decide +kernel
theorem test_laneRead : answer (.laneRead .p0 []) .p0 plant = some (frameOf 0x81 ([6, 1, 1, 1, 1, 0, 2, 1, 2] ++ u32 21 ++ u32 22)) := by
  decide +kernel
theorem test_slabRead_doubtful : answer (.slabRead .p0 (u32 52)) .p0 plant = some (frameOf 0x81 (u32 52 ++ u16 3000 ++ u16 1800 ++ u16 200 ++
    [0x14, 0, 3, 1, 6, 0, 0, 0, 0, 0, 0, 0] ++ bytes 5 ++ bytes 10 ++ [4, 0, 1, 1, 0])) := by decide +kernel
theorem test_liftReport : answer (.liftReport .p2 (u32 12)) .p2 plant = some (frameOf 0x81 ([0] ++ u32 12 ++ [1, 2] ++ u32 11 ++ [0])) := by
  decide +kernel
/-- R68: a crane without a permit lifted a slab that is not the first LISTED entry. -/
theorem test_liftReport_late : answer (.liftReport .p1 (u32 7002)) .p1 queued = some (frameOf 0x83 [16]) ∧
    (after (.liftReport .p1 (u32 7002)) queued).doubtList = [7002] := by decide +kernel
theorem test_setdownAsk : answer (.setdownAsk .p1 (u32 11)) .p1 plant = some (frameOf 0x81 ([0] ++ u32 11 ++ [2, 3])) := by decide +kernel
theorem test_depositReport : answer (.depositReport .p1 (u32 11)) .p1 plant = some (frameOf 0x81 [0, 3, 1, 2]) := by decide +kernel
theorem test_setAsideReport : answer (.setAsideReport .p1 (u32 11)) .p1 plant = some (frameOf 0x81 (u32 11 ++ [0, 2])) ∧
    (after (.setAsideReport .p1 (u32 11)) plant).partner? 11 = some ⟨12, .first⟩ := by decide +kernel
/-- Section 7.4, worked example: a row of 1900 and 2100 mm, 260 mm thick. -/
theorem test_chargeAsk : answer (.chargeAsk .p5 []) .p5 plant =
    some (frameOf 0x81 (u32 21 ++ u32 22 ++ [1, 0] ++ u16 2100 ++ u16 6240 ++ [255])) := by decide +kernel
theorem test_chargeBegin : ((after (.chargeBegin .p5 (u32 21 ++ u32 22)) plant).furnace .f3).op = .charging 21 (some 22) 2100 6240 := by
  decide +kernel
theorem test_chargeEnd : answer (.chargeEnd .p4 []) .p4 plant =
    some (frameOf 0x81 ([1] ++ u32 31 ++ [0] ++ u16 4800 ++ u16 4800 ++ [1, 2, 0])) := by decide +kernel
theorem test_chargeAbortReturned : (after (.chargeAbortReturned .p4 []) plant).lane = [31, 21, 22] := by decide +kernel
theorem test_chargeAbortStuck : answer (.chargeAbortStuck .p4 []) .p4 plant = some (frameOf 0x81 ([1, 1] ++ u32 31)) := by decide +kernel
/-- Section 6.3, worked example, report 3: the front row is set back and the two rows overlap. -/
theorem test_walkReport : FurnaceParams.walkedRows { FurnaceParams.default with effectiveLength := 30000, stroke := 400 } 1
    [row 3301 none 2400 2000 0 0, row 3290 none 26200 1600 0 0, row 3282 none 27800 2200 0 0] =
    [row 3301 none 2800 2000 0 0, row 3290 none 26600 1600 0 0, row 3282 none 27800 2200 0 0] := by decide +kernel
theorem test_mapWalk : answer (.mapWalk .p0 [1, 2]) .p0 plant = some (frameOf 0x81 ([2, 2] ++ u16 30600 ++ u16 32700 ++ [27, 0, 0])) := by
  decide +kernel
theorem test_dischargeAsk : answer (.dischargeAsk .p3 []) .p3 plant =
    some (frameOf 0x81 ([1] ++ u32 42 ++ [1] ++ u32 43 ++ u16 5384 ++ u16 5385 ++ [1] ++ u16 1 ++ [0, 2, 29, 0])) := by decide +kernel
theorem test_dischargeReport : answer (.dischargeReport .p3 (u32 43)) .p3 plant =
    some (frameOf 0x81 (u32 42 ++ u32 43 ++ u16 5384 ++ u16 5385 ++ [1, 1, 3, 0])) := by decide +kernel
theorem test_dischargeTake : answer (.dischargeTake .p0 [4]) .p0 plant =
    some (frameOf 0x81 (u32 9 ++ [1, 0] ++ u16 5000 ++ u16 4800 ++ [0] ++ u32 7)) := by decide +kernel
theorem test_mapRead_of_another_furnace : answer (.mapRead .p3 [2, 0]) .p3 plant = some (frameOf 0x83 [19]) := by decide +kernel
theorem test_holdSet : answer (.holdSet .p0 [1]) .p0 plant = some (frameOf 0x81 [1, 1, 1]) ∧
    answer (.holdRelease .p0 [1]) .p0 plant = some (frameOf 0x81 [1, 0, 0]) := by decide +kernel
theorem test_doubtList : answer (.doubtList .p0 [0, 1]) .p0 plant = some (frameOf 0x81 ([0, 2, 0, 1, 1] ++ u32 52)) := by decide +kernel
theorem test_slabResolve_requeue : (after (.slabResolveRequeue .p0 51 []) plant).sequence = [11, 12, 51, 13, 14] := by decide +kernel
theorem test_slabResolve_to_lane_tail : (after (.slabResolveToLaneTail .p0 51 []) plant).lane = [21, 22, 51] := by decide +kernel
theorem test_slabResolve_remove : answer (.slabResolveRemove .p0 51 []) .p0 plant = some (frameOf 0x81 (u32 51 ++ [2, 0, 11, 0, 1])) := by
  decide +kernel
theorem test_slabResolve_place : answer (.slabResolvePlace .p0 51 ([3] ++ u16 1000 ++ u16 150 ++ u32 52 ++ [1])) .p0 plant =
    some (frameOf 0x81 ([2] ++ u32 51 ++ [1] ++ u32 52 ++ [2, 0, 1] ++ u16 4800)) := by decide +kernel
theorem test_rowRemove : (after (.rowRemove .p0 ([1] ++ u32 43)) plant).doubtList = [51, 52, 42, 43] := by decide +kernel
theorem test_rowShift : answer (.rowShift .p0 ([1] ++ u32 41 ++ u16 28000)) .p0 plant = some (frameOf 0x81 (u32 41 ++ u16 2600 ++ u16 28000 ++ [29])) ∧
    answer (.rowShift .p0 ([1] ++ u32 41 ++ u16 28001)) .p0 plant = some (frameOf 0x83 [3]) := by decide +kernel
theorem test_confirm : answer (.confirmFurnace .p0 [1]) .p0 plant = some (frameOf 0x81 [1, 0, 0]) ∧
    answer (.confirmLane .p0 []) .p0 plant = some (frameOf 0x81 [2, 2, 1]) := by decide +kernel
theorem test_faultRead : answer (.faultRead .p0 [2]) .p0 plant = some (frameOf 0x81 ([2, 1, 1, 1] ++ u32 9 ++ [0xFF] ++ u32 3 ++ [0, 0, 0])) := by
  decide +kernel
/-- Section 8.7, worked example: FAULT_CLEAR empties the record. -/
theorem test_faultClear : (after (.faultClear .p0 [2]) plant).banks.lane = Bank.fresh := by decide +kernel
theorem test_thresholdSet : answer (.thresholdSet .p0 [2, 0x0F, 0xFD, 1]) .p0 running = some (frameOf 0x81 [2, 0x0F, 0xFD, 1]) := by
  decide +kernel
theorem test_advisoryEnable : (after (.advisoryEnable .p0 [0, 1]) running).banks.link.advisoryEnable = true := by decide +kernel
theorem test_paramRead : answer (.paramRead .p0 [0x12, 0x01]) .p0 running = some (frameOf 0x81 ([0x12, 0x01] ++ u32 41000 ++ u32 10000 ++ u32 60000)) := by
  decide +kernel
theorem test_paramWrite : answer (.paramWrite .p0 ([0x20, 0x01] ++ u32 5000)) .p0 running = some (frameOf 0x81 ([1] ++ u32 1800)) ∧
    answer (.paramWrite .p0 ([0x01, 0x03] ++ u32 4)) .p0 plant = some (frameOf 0x83 [12]) := by decide +kernel
/-- R94: beside a live pair whose furnace takes no double row, the gap is written and the centre clearance is not. -/
theorem test_paramWrite_tests_records :
    let narrow := { plant with params := plant.params.write (.furnace .f3 .doubleRow) 0 }
    answer (.paramWrite .p0 ([0x13, 0x04] ++ u32 200)) .p0 narrow = some (frameOf 0x81 ([0] ++ u32 200)) ∧
    answer (.paramWrite .p0 ([0x13, 0x06] ++ u32 200)) .p0 narrow = some (frameOf 0x83 [12]) := by decide +kernel
theorem test_start : answer (.start .p0 []) .p0 ready = some (frameOf 0x81 [1, 2, 3, 0, 0, 0, 0]) := by decide +kernel
theorem test_restart : (after (.restart .p0 []) plant).resetRecord = ⟨true, true, false⟩ := by decide +kernel
theorem test_clearAll : answer (.clearAll .p0 []) .p0 plant = some (frameOf 0x83 [13]) ∧
    (after (.clearAll .p0 []) { plant with ports := State.reset.ports.set .p0 (open_ .supv) }).register = [] := by decide +kernel
theorem test_resetRecordClear : answer (.resetRecordClear .p0 []) .p0 running = some (frameOf 0x81 [0]) := by decide +kernel

/-! ### Witnesses of the statements: laws and rules of the whole part -/

/-- The plant with the advance of the running seconds waiting. -/
def busy : State := { plant with pending := [.runningSecondsAdvance] }

theorem busy_bounds : Bounds busy where
  register := by decide +kernel
  sequence := by decide +kernel
  rows := by intro f; cases f <;> decide +kernel
  residence := by intro f; cases f <;> decide +kernel
  log := by decide +kernel
  counter := by intro b; cases b <;> decide +kernel
  notices := by intro p; cases p <;> decide +kernel
  mask := by intro p; cases p <;> decide +kernel
  params := by
    intro q
    cases q with
    | furnace f q => cases f <;> cases q <;> decide +kernel
    | _ => decide +kernel
  absent := by intro p; cases p <;> decide +kernel

theorem busy_account : Account busy where
  ids := by decide +kernel
  valid := by decide +kernel
  held := by simp [busy, plant, slab, pairedWith, partedFrom, State.holdsAt, State.furnace, ByFurnace.get, EntryOp.slabs, FurnaceState.mapSlabs, slabsWithSides, row]
  sequence := by decide +kernel
  lane := by decide +kernel
  doubt := by decide +kernel
  entry := by intro f; cases f <;> decide +kernel
  rows := by intro f; cases f <;> decide +kernel
  once := by decide +kernel
  onceInFurnace := by intro f; cases f <;> decide +kernel
  partners := by simp [busy, plant, slab, pairedWith, partedFrom, PairRole.other]
  custody := by
    intro k id h
    cases k
    · have : id = 11 := by simpa [busy, plant, State.crane, ByCrane.get] using h.symm
      subst this
      exact ⟨pairedWith (slab 11 3000 1500 200 .f1 (.lifted .c1 false)) 12 .first, by decide +kernel, rfl, false, rfl⟩
    · simp [busy, plant, State.crane, ByCrane.get] at h
  lifted := by simp [busy, plant, slab, pairedWith, partedFrom, State.crane, ByCrane.get]
  credits := by decide +kernel
  config := by intro h; exact absurd h (by decide +kernel)

theorem busy_reservation : ReservationSound busy := by
  intro v h
  have : v = ⟨.c1, 11⟩ := by simpa [busy, plant] using h.symm
  subst this
  decide +kernel

theorem ready_tracks_nothing : TracksNothing ready where
  register := rfl
  doubtList := rfl
  sequence := rfl
  lane := rfl
  reservation := rfl
  cranes := by intro k; cases k <;> rfl
  maps := by intro f; cases f <;> decide +kernel

theorem witness_StepTakesFrontCommand : busy.pending = .runningSecondsAdvance :: [] := rfl
theorem witness_EmptyQueueLetsTimePass : plant.pending = [] ∧ plant.powered = true := ⟨rfl, rfl⟩
theorem witness_EveryCommandKeepsQueue : (after .lossOfPower plant).powered = false ∧ Instr.selAssert .p0 ≠ .powerOn := by decide +kernel
theorem witness_BoundsKept : Bounds busy ∧ ∃ t, step busy = .next t := ⟨busy_bounds, _, rfl⟩
theorem witness_ConfigTracksNothing : ((ready.mode = .config → TracksNothing ready) ∧
    ∃ t, step { ready with pending := [.selAssert .p0] } = .next t ∧ t.mode = .config) :=
  ⟨fun _ => ready_tracks_nothing, _, rfl, rfl⟩
theorem witness_AccountKept : Account busy ∧ ∃ t, step busy = .next t := ⟨busy_account, _, rfl⟩
theorem witness_ReservationKept : Account busy ∧ ReservationSound busy ∧ ∃ t, step busy = .next t :=
  ⟨busy_account, busy_reservation, _, rfl⟩
theorem witness_RowsKeepTheirFigures : Account busy ∧ Bounds busy ∧ ∃ t, step busy = .next t ∧
    row 41 none 2600 2000 100 4800 ∈ (busy.furnace .f1).rows ∧ row 41 none 2600 2000 101 4800 ∈ (t.furnace .f1).rows :=
  ⟨busy_account, busy_bounds, _, rfl, by decide +kernel, by decide +kernel⟩
theorem witness_RecordsKeepTheirDescription : Account busy ∧ ∃ t, step busy = .next t ∧
    partedFrom (slab 13 3000 1500 200 .f1 .listed) 14 ∈ busy.register ∧ partedFrom (slab 13 3000 1500 200 .f1 .listed) 14 ∈ t.register ∧
    ∃ o ∈ t.register, o.id = 14 := ⟨busy_account, _, rfl, by decide +kernel, by decide +kernel, by decide +kernel⟩
/-- A whole part in RUN whose crane and furnace ports are not open: a CLEAR_ALL is taken. -/
def clearable : State := { plant with ports := State.reset.ports.set .p0 (open_ .supv) }

theorem witness_ModeAndSecondsHaveOneCause :
    (clearable.storeWritten = true ∧ ∃ t, exec (.clearAll .p0 []) clearable = .next t ∧ clearable.mode = .run ∧ t.mode = .config) ∧
    (ready.storeWritten = true ∧ ∃ t, exec (.start .p0 []) ready = .next t ∧ ready.mode = .config ∧ t.mode = .run) :=
  ⟨⟨rfl, _, rfl, rfl, by decide +kernel⟩, rfl, _, rfl, rfl, by decide +kernel⟩
theorem witness_BanksKeepTheWorstFault : (∃ t, exec (.depositReport .p1 (u32 11)) plant = .next t) ∧
    plant.banks.lane.record = some ⟨.advisory, .depositUncleared, some 9, none, 3⟩ := ⟨⟨_, rfl⟩, rfl⟩
theorem witness_CranePortsReachNoFurnace : commandPort (.liftReport .p2 (u32 12)) = some .p2 ∧ portRole .p2 = .crane ∧
    ∃ t, exec (.liftReport .p2 (u32 12)) plant = .next t := ⟨rfl, rfl, _, rfl⟩
theorem witness_FurnacePortsReachTheirFurnaceAlone : commandPort (.chargeEnd .p4 []) = some .p4 ∧ portFurnace .p4 = some .f2 ∧
    ∃ t, exec (.chargeEnd .p4 []) plant = .next t := ⟨rfl, rfl, _, rfl⟩

/-! ### Witnesses: shared operations, frames and sums -/

theorem witness_NoticesFollowTheChange : plant.present (cranePort .c2) = true ∧ plant.present (furnacePort .f3) = true ∧
    ({ plant with params := { Params.default with craneCount := 1 } } : State).present .p2 = false := by decide +kernel

/-- A bank with a fault of each severity, and an empty one. -/
def bankOf (code : FaultCode) (counter : Nat) : Bank :=
  { Bank.fresh with record := some ⟨code.severity, code, some 9306, none, 0⟩, counting := true, counter := counter }

theorem witness_FaultReachesBank : Bank.fresh.record = none ∧
    (bankOf .depositUncleared 0).record = some ⟨.advisory, .depositUncleared, some 9306, none, 0⟩ ∧
    Severity.byte .advisory < (FaultCode.custodyOverdue).severity.byte ∧
    (bankOf .custodyOverdue 0).record = some ⟨.recoverable, .custodyOverdue, some 9306, none, 0⟩ ∧
    (FaultCode.custodyOverdue).severity.byte ≤ Severity.byte .recoverable ∧ (FaultCode.custodyOverdue).severity ≠ .trackingLost ∧
    (bankOf .outOfTurn 0).record = some ⟨.trackingLost, .outOfTurn, some 9306, none, 0⟩ ∧ (FaultCode.outOfTurn).severity = .trackingLost ∧
    (FaultCode.custodyLost).severity = .trackingLost ∧ FaultCode.outOfTurn ≠ FaultCode.custodyLost ∧ BankId.link ≠ .lane := by
  decide +kernel
/-- Section 8.7, worked example: faults 2 and 3 of the counter's run from 4093, an empty bank at 4094, and a full counter. -/
theorem witness_FaultNoticesAndThreshold :
    ((bankOf .depositUncleared 4093).raisesFault .recoverable = true ∧ (bankOf .depositUncleared 4093).reachesThreshold .recoverable = false) ∧
    ((bankOf .depositUncleared 4094).raisesFault .recoverable = true ∧ (bankOf .depositUncleared 4094).reachesThreshold .recoverable = true) ∧
    ((bankOf .custodyOverdue 4094).raisesFault .recoverable = false ∧ (bankOf .custodyOverdue 4094).reachesThreshold .recoverable = true) ∧
    ((bankOf .custodyOverdue 4095).raisesFault .recoverable = false ∧ (bankOf .custodyOverdue 4095).counts .recoverable = false) := by
  decide +kernel
theorem witness_FixedEntriesAreTheSpan : plant.sequence.Nodup ∧ plant.sequence[1]? = some 12 ∧ plant.isFixed 12 = true ∧
    plant.sequence[2]? = some 13 ∧ plant.isFixed 13 = false := by decide +kernel
theorem witness_FramesReadBack : (bytes 60).length ≤ 60 ∧ goodFrame (frameOf 0x10 (bytes 60)) (frameOf 0x10 (bytes 60)).length = true ∧
    255 < 2 ^ 8 ∧ 65535 < 2 ^ 16 ∧ 4294967295 < 2 ^ 32 := by decide +kernel
theorem witness_AdmissionFilterComparesSelectedBits :
    ({ FurnaceParams.default with admissionMask := 0x80 } : FurnaceParams).admissionMask.getLsbD 7 = true ∧
    FurnaceParams.default.admissionMask = 0 := by decide +kernel
theorem witness_PairFormsByTenConditions : queued.slab? 7001 = some (slab 7001 3000 1500 200 .f1 .listed) ∧
    queued.slab? 7002 = some (slab 7002 3000 1500 200 .f1 .listed) ∧ queued.successor 7001 = some 7002 ∧
    plant.slab? 42 = some (pairedWith (slab 42 3000 2100 200 .f1 (.inFurnace .f1 .left)) 43 .first) ∧
    plant.slab? 43 = some (pairedWith (slab 43 3000 2100 200 .f1 (.inFurnace .f1 .right)) 42 .second) ∧
    plant.slab? 13 = some (partedFrom (slab 13 3000 1500 200 .f1 .listed) 14) := by decide +kernel
theorem witness_RowFiguresAndSoakTarget : ∀ r ∈ [slab 1 3000 900 120 .f1 .listed, slab 2 3000 900 450 .f1 .listed],
    120 ≤ r.thickness ∧ r.thickness ≤ 450 ∧ 100 ≤ FurnaceParams.default.heatingFactor ∧ FurnaceParams.default.heatingFactor ≤ 900 ∧
    50 ≤ FurnaceParams.default.warmPercent ∧ FurnaceParams.default.hotPercent ≤ 100 := by decide +kernel
theorem witness_WalkCountIsLeast : 0 < FurnaceParams.default.stroke ∧
    2100 + FurnaceParams.default.gap ≤ (row 1 none 2250 1900 0 0).rear ∧ (row 1 none 2249 1900 0 0).rear < 2100 + FurnaceParams.default.gap ∧
    2500 ≤ 2500 ∧ FurnaceParams.default.gap ≤ 600 ∧ 100 ≤ FurnaceParams.default.stroke := by decide +kernel
theorem witness_FitTestVerdicts : 48 ≤ (List.replicate 48 (row 1 none 0 1900 0 0)).length ∧ [row 2 none 36900 1800 0 0].length < 48 ∧
    [row 2 none 36900 1800 0 0].getLast? = some (row 2 none 36900 1800 0 0) ∧ 36900 + 1800 + 7 * 300 ≤ FurnaceParams.default.effectiveLength ∧
    FurnaceParams.default.effectiveLength < 38500 + 1800 + 7 * 300 ∧ 2500 ≤ FurnaceParams.default.effectiveLength ∧
    0 < FurnaceParams.default.stroke ∧ FurnaceParams.default.walkCount [row 1 none 420 1900 0 0, row 2 none 38500 1800 0 0] 2100 = 7 ∧
    FurnaceParams.default.fit [row 1 none 420 1900 0 0, row 2 none 38500 1800 0 0] 2100
      (FurnaceParams.default.walkCount [row 1 none 420 1900 0 0, row 2 none 38500 1800 0 0] 2100) = .fullLength := by decide +kernel
theorem witness_WalksAvailableRoundsDown : [row 2 none 36900 1800 0 0].getLast? = some (row 2 none 36900 1800 0 0) ∧
    36900 + 1800 + 7 * 300 ≤ FurnaceParams.default.effectiveLength ∧ FurnaceParams.default.effectiveLength < 36900 + 1800 + 8 * 300 ∧
    FurnaceParams.default.effectiveLength ≤ 39200 + 1800 ∧
    0 + 1800 + 255 * 100 ≤ ({ FurnaceParams.default with stroke := 100 } : FurnaceParams).effectiveLength := by decide +kernel

/-! ### Witnesses: power, timers and the machine of a port -/

theorem plant_serves (p : Port) : plant.serves p := by cases p <;> exact ⟨rfl, rfl, rfl, .inl rfl⟩
theorem running_serves (p : Port) : running.serves p := by cases p <;> exact ⟨rfl, rfl, rfl, .inl rfl⟩
theorem queued_serves (p : Port) : queued.serves p := by cases p <;> exact ⟨rfl, rfl, rfl, .inl rfl⟩
theorem ready_serves_p0 : ready.serves .p0 := ⟨rfl, rfl, rfl, .inr rfl⟩

theorem witness_PowerOnWithEmptyStore : ({ State.reset with powered := false, storeWritten := false } : State).storeWritten = false ∧
    ready.storeWritten = true ∧ ready.mode = .config ∧ TracksNothing ready := ⟨rfl, rfl, rfl, ready_tracks_nothing⟩
theorem witness_PowerOnRecoversRunStore : Account busy ∧ busy.storeWritten = true ∧ busy.mode = .run := ⟨busy_account, rfl, rfl⟩
theorem witness_RestartIsStartUp : plant.serves .p0 ∧ ready.serves .p0 := ⟨plant_serves _, ready_serves_p0⟩
theorem witness_LossOfPowerKeepsStore : plant.powered = true := rfl
theorem witness_SecondsAgeEveryRow : plant.powered = true ∧
    (plant.furnace .f1).rows[1]? = some (row 42 (some 43) 30000 2100 5384 5385) ∧ plant.present (furnacePort .f1) = true ∧
    portFurnace .p1 = none ∧ ({ plant with params := { Params.default with furnaceCount := 1 } } : State).present .p5 = false := by decide +kernel
theorem witness_CraneTimersExpire : plant.powered = true ∧ (plant.crane .c2).permitTimer = some 3000 ∧ plant.permitOf .c2 = some 12 ∧
    (plant.crane .c1).custodyTimer = some 9000 ∧ (plant.crane .c1).custody = some 11 := by decide +kernel
/-- The head row of two at the entry of furnace 3. -/
def begun : State := after (.chargeBegin .p5 (u32 21 ++ u32 22)) plant

theorem witness_ChargeIsGivenUp : (begun.furnace .f3).op = .charging 21 (some 22) 2100 6240 ∧ begun.live 21 = true ∧ begun.live 22 = true ∧
    begun.partner? 22 = some ⟨21, .second⟩ ∧ (plant.furnace .f2).op = .charging 31 none 2000 4800 ∧ (none : Option SlabId) ≠ some 31 ∧
    plant.live 31 = true ∧ plant.powered = true ∧ (plant.furnace .f2).chargeTimer = some 1200 ∧ plant.serves (furnacePort .f2) :=
  ⟨by decide +kernel, by decide +kernel, by decide +kernel, by decide +kernel, by decide +kernel, by decide, by decide +kernel, rfl, by decide +kernel, plant_serves _⟩
theorem witness_SilenceLosesThePort :
    (plant.port .p0).link = .active ∧ (plant.port .p0).silence = some 80 ∧ (running.port .p1).silence = some 80 ∧
    running.permitOf .c1 = none ∧ (running.crane .c1).custody = none ∧ plant.permitOf .c2 = some 12 ∧ (plant.crane .c2).custody = none ∧
    plant.permitOf .c1 = none ∧ (plant.crane .c1).custody = some 11 ∧ plant.mode = .run ∧ ready.mode = .config ∧
    (ready.port .p3).link = .active ∧ (ready.port .p3).silence = some 80 := by decide +kernel
/-- The machine of a port in each of its states, with SEL released, taken and ignored. -/
theorem witness_ExchangeMachineMoves : running.powered = true ∧ running.present .p1 = true ∧ (running.port .p1).exchange = .idle ∧
    (running.port .p1).sel = .released ∧
    ((withExchange running .p1 (.processing [0x01] 1)).port .p1).exchange = .processing [0x01] 1 ∧
    ((withExchange running .p1 (.processing [0x01] 1)).port .p1).sel = .released ∧
    ((withExchange running .p1 (.responseReady [0x81])).port .p1).exchange = .responseReady [0x81] ∧
    ((withExchange running .p1 (.responseReady [0x81])).port .p1).sel ≠ .ignored ∧ (0x01 : Byte) ≠ 0 ∧
    ((outlasting .p1).port .p1).exchange = .responseReady (frameOf 0x83 [0x01]) ∧ ((outlasting .p1).port .p1).sel = .ignored ∧
    ((withExchange running .p1 (.receiving [0x01] 1)).port .p1).exchange = .receiving [0x01] 1 ∧
    ((withExchange running .p1 (.reading [0x81])).port .p1).exchange = .reading [0x81] := by decide +kernel

/-- The state with the link state of port `p` changed. -/
def withLink (s : State) (p : Port) (l : LinkState) : State := s.updatePort p fun q => { q with link := l }

/-- Frames that each test of R169 judges: a short one, an unknown kind, a PERMIT_ASK on a furnace port, in each link state, and in CONFIG;
and the kinds that other link states and CONFIG let pass. -/
theorem witness_FramesAreJudged :
    goodFrame [0x01, 0x00] 2 = false ∧ goodFrame (frameOf 0x09 []) 3 = true ∧ kindOfCode (byteAt (frameOf 0x09 []) 0) = none ∧
    goodFrame (frameOf 0x40 []) 3 = true ∧ kindOfCode (byteAt (frameOf 0x40 []) 0) = some .permitAsk ∧
    goodFrame (frameOf 0x02 []) 3 = true ∧ kindOfCode (byteAt (frameOf 0x02 []) 0) = some .status ∧
    Kind.allowedTo .permitAsk (portRole .p3) = false ∧ Kind.allowedTo .permitAsk (portRole .p1) = true ∧
    Kind.allowedTo .hello (portRole .p1) = true ∧ Kind.allowedTo .status (portRole .p1) = true ∧
    Kind.allowedTo .noticeRead (portRole .p1) = true ∧ Kind.permitAsk ≠ .hello ∧ Kind.permitAsk ≠ .status ∧
    ((withLink running .p1 .lost).port .p1).link = .lost ∧ ((withLink running .p1 .offline).port .p1).link = .offline ∧
    ((withLink running .p1 .parked).port .p1).link = .parked ∧ (running.port .p1).link = .active ∧ running.mode = .run ∧
    (ready.port .p1).link = .active ∧ ready.mode = .config ∧
    goodFrame (frameOf 0x18 [1]) 4 = true ∧
    (Kind.holdSet).row .p0 (frameBody (frameOf 0x18 [1])) = some (.holdSet .p0 [1]) ∧
    (Kind.slabResolve).row .p0 (frameBody (frameOf 0x20 (u32 51 ++ [0x02]))) = some (.slabResolveRemove .p0 51 []) ∧
    (Kind.slabResolve).row .p0 (frameBody (frameOf 0x20 (u32 51 ++ [0x04]))) = none ∧
    (Kind.slabResolve).row .p0 (u32 51) = none ∧
    (Kind.chargeAbort).row .p3 (frameBody (frameOf 0x53 [0x01])) = some (.chargeAbortStuck .p3 []) ∧
    (Kind.chargeAbort).row .p3 [0x02] = none := by decide +kernel
theorem witness_LinesOfAPort : (open_ .supv).exchange = .idle ∧ (open_ .supv).sel = .released ∧
    ({ open_ .supv with exchange := .receiving [] 0 } : PortState).exchange = .receiving [] 0 ∧
    ({ open_ .supv with exchange := .processing [] 0 } : PortState).exchange = .processing [] 0 ∧
    ({ open_ .supv with exchange := .reading [0x81] } : PortState).exchange = .reading [0x81] ∧
    ((outlasting .p1).port .p1).exchange = .responseReady (frameOf 0x83 [0x01]) ∧ ((outlasting .p1).port .p1).sel = .ignored ∧
    ({ open_ .supv with exchange := .responseReady [0x81], sel := .taken } : PortState).sel = .taken ∧
    [(0x81 : Byte)][0]? = some 0x81 ∧ [(0x81 : Byte)].length ≤ 1 := by decide +kernel

/-! ### Witnesses: the requests -/

theorem witness_HelloOpensThePort : State.reset.powered = true ∧ State.reset.present .p0 = true ∧ .p2 = cranePort .c2 ∧
    State.reset.present .p2 = true ∧ .p5 = furnacePort .f3 ∧ State.reset.present .p5 = true := by decide +kernel
/-- A crane with custody, a crane that holds nothing, a furnace that is CHARGING, one that is IDLE, and P0. -/
theorem witness_ParkStandsThePortDown : plant.serves .p0 ∧ plant.serves (cranePort .c1) ∧ (plant.crane .c1).custody ≠ none ∧
    plant.permitOf .c2 ≠ none ∧ plant.reservation = some ⟨.c1, 11⟩ ∧ (plant.furnace .f2).op.isCharging = true ∧
    running.serves (cranePort .c1) ∧ running.permitOf .c1 = none ∧ (running.crane .c1).custody = none ∧ running.reservation = none ∧
    (running.furnace .f3).op.isCharging = false := by
  refine ⟨plant_serves _, plant_serves _, ?_, ?_, ?_, ?_, running_serves _, ?_, ?_, ?_, ?_⟩ <;> decide +kernel
theorem witness_NoticeRequests : running.powered = true ∧ running.present .p1 = true ∧ (running.port .p1).link = .active ∧
    ((withLink running .p1 .parked).port .p1).link = .parked ∧ running.mode = .run ∧
    (0x07 : Byte) &&& ~~~(roleKinds (portRole .p1)) = 0 ∧ (0x08 : Byte) &&& ~~~(roleKinds (portRole .p1)) ≠ 0 := by decide +kernel
theorem witness_StatusReadsTheStanding : State.reset.powered = true ∧ State.reset.present .p1 = true ∧
    (State.reset.port .p1).link ≠ .lost := by decide +kernel
/-- A doubtful slab, the slab in each of two rows, and the last value of each start. -/
theorem witness_SupvReadingsChangeNothing : plant.serves .p0 ∧ (u32 52).length = 4 ∧ validSlabId (field (u32 52) 0 4) = true ∧
    (plant.slab? (field (u32 52) 0 4)).isSome = true ∧ plant.place? 52 = some (.doubtful (.atEntry .f1 .left)) ∧
    plant.place? 43 = some (.inFurnace .f1 .right) ∧ (plant.furnace .f1).rows[1]? = some (row 42 (some 43) 30000 2100 5384 5385) ∧
    (row 42 (some 43) 30000 2100 5384 5385).holds 43 = true ∧ (row 41 none 2600 2000 100 4800).holds 43 = false ∧ (63 : Byte).toNat ≤ 63 ∧
    plant.configuredFurnace (field ([1, 47] : List Byte) 0 1) = some .f1 ∧ field ([1, 47] : List Byte) 1 1 ≤ 47 ∧
    field ([0x01, 0x7F] : List Byte) 0 2 ≤ 383 ∧ bankOfNumber (field ([5] : List Byte) 0 1) = some .furnace3 ∧
    paramOfNumber (field ([0x13, 0x0C] : List Byte) 0 2) = some (.furnace .f3 .admissionMatch) := by
  refine ⟨plant_serves _, ?_, ?_, ?_, ?_, ?_, ?_, ?_, ?_, ?_, ?_, ?_, ?_, ?_, ?_⟩ <;> decide +kernel
theorem witness_FurnaceReadings : plant.serves (furnacePort .f3) ∧ Furnace.f3 ∈ plant.configured ∧ (plant.furnace .f3).rows = [] ∧
    plant.serves (furnacePort .f1) ∧ (plant.furnace .f1).rows.getLast? = some (row 42 (some 43) 30000 2100 5384 5385) ∧
    (47 : Byte).toNat ≤ 47 ∧ Furnace.f2 ≠ .f1 := by
  refine ⟨plant_serves _, ?_, ?_, plant_serves _, ?_, ?_, ?_⟩ <;> decide +kernel
/-- The shortest, narrowest, thinnest slab, at the tail; and before the unfixed 13. -/
theorem witness_AnnouncementCreatesTheRecord : plant.serves .p0 ∧ plant.mode = .run ∧ (slab 4294967294 1500 900 120 .f1 .listed).place = .listed ∧
    (slab 4294967294 1500 900 120 .f1 .listed).parted = [] ∧
    plant.register.length < 384 ∧ plant.live 4294967294 = false ∧ plant.sequence.length < 64 ∧
    1500 + 2 * (plant.furnaceParams .f1).sideClearance ≤ (plant.furnaceParams .f1).hearthWidth ∧
    (plant.furnaceParams .f1).admits 0x14 = true ∧ 13 ∈ plant.sequence ∧ plant.isFixed 13 = false ∧ plant.sequence.idxOf 13 = 2 ∧
    (slab 4294967294 1500 900 120 .f1 .listed).pairDissolved = false ∧
    (slab 4294967294 1500 900 120 .f1 .listed).requeuedTested = false := by
  refine ⟨plant_serves _, ?_, ?_, ?_, ?_, ?_, ?_, ?_, ?_, ?_, ?_, ?_, ?_, ?_⟩ <;> decide +kernel

/-- A body of SLAB_ANNOUNCE for furnace 1. -/
def announcing (id length heat position : Nat) : List Byte :=
  u32 id ++ u16 length ++ u16 1500 ++ u16 200 ++ u8 heat ++ [0, 1, 1] ++ u32 position

/-- A hearth that the longest slab does not fit, and a filter that admits nothing of class 0x14. -/
def narrow : State := { queued with params := { Params.default with furnace := ⟨{ FurnaceParams.default with hearthWidth := 5000, admissionMask := 0xFF }, .default, .default⟩ } }

/-- One body for each check of R10, one for each end of each range of R11, and one that passes the first five checks. -/
theorem witness_AnnouncementChecksInOrder : ready.serves .p0 ∧ ready.mode = .config ∧ queued.serves .p0 ∧ queued.mode = .run ∧
    (bytes 17).length ≠ 18 ∧ (announcing 7001 3000 0x14 0).length = 18 ∧
    384 ≤ ({ queued with register := List.replicate 384 (slab 1 3000 1500 200 .f1 .listed) } : State).register.length ∧
    queued.live (announcementOf (announcing 7001 3000 0x14 0)).id = true ∧
    queued.live (announcementOf (announcing 5 1499 0x14 0)).id = false ∧ (announcementOf (announcing 5 1499 0x14 0)).length < 1500 ∧
    (announcementOf (announcing 5 1500 0x14 0)).length = 1500 ∧ (announcementOf (announcing 5 5200 0x14 0)).length = 5200 ∧
    5200 < (announcementOf (announcing 5 5201 0x14 0)).length ∧ (announcementOf (announcing 4294967294 1500 0x14 0)).id = 4294967294 ∧
    (announcementOf (announcing 5 1500 0x14 4294967295)).position = 4294967295 ∧
    (announcementOf (announcing 5 1500 0x14 0)).destination = furnaceNumber .f1 ∧ furnaceNumber .f1 ≤ queued.params.furnaceCount ∧
    (narrow.furnaceParams .f1).hearthWidth < 5200 + 2 * (narrow.furnaceParams .f1).sideClearance ∧
    4500 + 2 * (narrow.furnaceParams .f1).sideClearance ≤ (narrow.furnaceParams .f1).hearthWidth ∧
    (narrow.furnaceParams .f1).admits 0x14 = false ∧ (queued.furnaceParams .f1).admits 0x14 = true ∧
    64 ≤ ({ queued with sequence := List.replicate 64 7001 } : State).sequence.length ∧ queued.sequence.length < 64 ∧ 5999 ∉ queued.sequence ∧
    12 ∈ plant.sequence ∧ plant.isFixed 12 = true := by
  refine ⟨ready_serves_p0, ?_, queued_serves _, ?_, ?_, ?_, ?_, ?_, ?_, ?_, ?_, ?_, ?_, ?_, ?_, ?_, ?_, ?_, ?_, ?_, ?_, ?_, ?_, ?_, ?_, ?_⟩ <;>
    decide +kernel
/-- One body for each refusal of R29; and 7005 to the tail, before 7003, and before itself. -/
theorem witness_MoveReordersTheSequence : queued.serves .p0 ∧ queued.mode = .run ∧ plant.serves .p0 ∧ plant.mode = .run ∧
    (u32 7005).length ≠ 8 ∧ field (u32 0 ++ u32 0) 0 4 = 0 ∧ field (u32 4294967295 ++ u32 0) 0 4 = 4294967295 ∧
    field (u32 7005 ++ u32 4294967295) 4 4 = 4294967295 ∧ validSlabId 4294967294 = true ∧ queued.live 5999 = false ∧
    plant.live 21 = true ∧ 21 ∉ plant.sequence ∧ 12 ∈ plant.sequence ∧ plant.isFixed 12 = true ∧ plant.isFixed 13 = false ∧
    13 ∈ plant.sequence ∧ 5999 ∉ queued.sequence ∧ field (u32 7005 ++ u32 0) 4 4 = 0 ∧
    (u32 7005 ++ u32 7003).length = 8 ∧ field (u32 7005 ++ u32 7003) 0 4 = 7005 ∧ field (u32 7005 ++ u32 7003) 4 4 = 7003 ∧
    validSlabId 7005 = true ∧ queued.live 7005 = true ∧ 7005 ∈ queued.sequence ∧ queued.isFixed 7005 = false ∧ queued.sequence.Nodup ∧
    7003 ∈ queued.sequence ∧ queued.isFixed 7003 = false ∧ (queued.sequence.filter fun x => x != 7005).idxOf 7003 = 2 := by
  refine ⟨queued_serves _, ?_, plant_serves _, ?_, ?_, ?_, ?_, ?_, ?_, ?_, ?_, ?_, ?_, ?_, ?_, ?_, ?_, ?_, ?_, ?_, ?_, ?_, ?_, ?_, ?_, ?_, ?_, ?_,
    ?_⟩ <;> decide +kernel
theorem witness_WithdrawalFreesTheSlab : plant.serves .p0 ∧ plant.mode = .run ∧ (u32 13).length = 4 ∧ validSlabId (field (u32 13) 0 4) = true ∧
    (plant.slab? (field (u32 13) 0 4)).map (fun r => r.place) = some .listed ∧
    (plant.slab? (field (u32 12) 0 4)).map (fun r => r.place) = some (.permitted .c2) ∧
    (plant.slab? (field (u32 11) 0 4)).map (fun r => r.place) = some (.lifted .c1 false) ∧
    (plant.slab? (field (u32 21) 0 4)).map (fun r => r.place.isInSequence) = some false := by
  refine ⟨plant_serves _, ?_, ?_, ?_, ?_, ?_, ?_, ?_⟩ <;> decide +kernel

/-- A queue whose first LISTED slab finds no credit, or is not admitted. -/
def starved : State :=
  { queued with
    params := { Params.default with laneCapacity := 2 }
    sequence := [7001, 7002]
    lane := [7006, 7007]
    register := [7001, 7002].map (fun i => slab i 3000 1500 200 .f1 .listed) ++ [7006, 7007].map fun i => slab i 3000 1500 200 .f1 .onLane }

theorem witness_PermitsComeAndGo :
    (plant.serves (cranePort .c1) ∧ plant.craneHoldsSlab .c1 = true ∧ running.craneHoldsSlab .c1 = false ∧ running.firstListed = none ∧
      queued.serves (cranePort .c1) ∧ queued.craneHoldsSlab .c1 = false ∧ queued.firstListed = some 7001 ∧
      queued.slab? 7001 = some (slab 7001 3000 1500 200 .f1 .listed) ∧ starved.craneHoldsSlab .c1 = false ∧
      starved.firstListed = some 7001 ∧ starved.creditsFree = 0 ∧ narrow.creditsFree ≠ 0 ∧ (narrow.furnaceParams .f1).admits 0x14 = false ∧
      queued.creditsFree ≠ 0 ∧ (queued.furnaceParams .f1).admits 0x14 = true ∧
      (queued.setPlace 7001 (.permitted .c1)).pairingPartner 7001 = some 7002 ∧
      (({ queued with sequence := [7001] } : State).setPlace 7001 (.permitted .c1)).pairingPartner 7001 = none) ∧
    (plant.serves (cranePort .c2) ∧ (u32 12).length = 4 ∧ validSlabId (field (u32 12) 0 4) = true ∧ (plant.crane .c1).custody ≠ none ∧
      (running.crane .c1).custody = none ∧ running.permitOf .c1 = none ∧ (plant.crane .c2).custody = none ∧ plant.permitOf .c2 = some 12 ∧
      field (u32 13) 0 4 ≠ 12 ∧ field (u32 12) 0 4 = 12) := by
  refine ⟨⟨plant_serves _, ?_, ?_, ?_, queued_serves _, ?_, ?_, ?_, ?_, ?_, ?_, ?_, ?_, ?_, ?_, ?_, ?_⟩, plant_serves _, ?_, ?_, ?_, ?_, ?_, ?_, ?_, ?_,
    ?_⟩ <;> decide +kernel
/-- A permitted lift, one of another slab, late lifts of the first LISTED slab, of another, of a slab PERMITTED to the other crane, of one on
the lane, and of no slab. -/
theorem witness_LiftsAreTaken : plant.serves (cranePort .c2) ∧ (u32 12).length = 4 ∧ field (u32 12) 0 4 = 12 ∧ validSlabId 12 = true ∧
    (plant.crane .c1).custody ≠ none ∧ (plant.crane .c2).custody = none ∧ plant.permitOf .c2 = some 12 ∧ (12 : SlabId) ≠ 13 ∧
    queued.serves (cranePort .c1) ∧ (queued.crane .c1).custody = none ∧ queued.permitOf .c1 = none ∧ queued.place? 5999 = none ∧
    queued.place? 7001 = some .listed ∧ queued.firstListed = some 7001 ∧ queued.creditsFree ≠ 0 ∧ queued.firstListed ≠ some 7002 ∧
    (after (.permitAsk .p2 []) queued).place? 7001 = some (.permitted .c2) ∧ starved.place? 7006 = some .onLane ∧
    starved.permitOf .c1 = none := by
  refine ⟨plant_serves _, ?_, ?_, ?_, ?_, ?_, ?_, ?_, queued_serves _, ?_, ?_, ?_, ?_, ?_, ?_, ?_, ?_, ?_, ?_⟩ <;> decide +kernel
/-- A lane that slab 51 joins behind a pair, behind a FIRST alone, and that a FIRST joins before its SECOND at the sequence head. -/
theorem witness_CustodyEnds_join : (plant.lane ++ [51]).Nodup ∧
    plant.slab? 21 = some (pairedWith (slab 21 4200 1900 230 .f3 .onLane) 22 .first) ∧
    plant.slab? 22 = some (pairedWith (slab 22 4400 2100 260 .f3 .onLane) 21 .second) ∧ (plant.joinLaneTail 51).lane[1]? = some 22 ∧
    (State.joinLaneTail { plant with lane := [21] } 51).partner? 21 = none ∧ (State.joinLaneTail { plant with lane := [21] } 51).partner? 22 = none ∧
    (State.joinLaneTail { plant with lane := [], sequence := [22] } 21).partner? 21 = some ⟨22, .first⟩ ∧
    plant.slab? 13 = some (partedFrom (slab 13 3000 1500 200 .f1 .listed) 14) := by decide +kernel
/-- The crane with the head and the reservation; without it; on a doubtful lane; and one whose slab is not the head. -/
theorem witness_CustodyEnds : plant.serves (cranePort .c1) ∧ (u32 11).length = 4 ∧ field (u32 11) 0 4 = 11 ∧ validSlabId 11 = true ∧
    (running.crane .c1).custody = none ∧ (plant.crane .c1).custody = some 11 ∧ (11 : SlabId) ≠ 12 ∧ plant.laneDoubt = false ∧
    plant.sequence.head? = some 11 ∧ plant.reservation = some ⟨.c1, 11⟩ ∧
    ({ plant with laneDoubt := true } : State).laneDoubt = true ∧ ({ plant with reservation := none } : State).reservation ≠ some ⟨.c1, 11⟩ ∧
    ({ plant with sequence := [12, 11] } : State).sequence.head? = some 12 := by
  refine ⟨plant_serves _, ?_, ?_, ?_, ?_, ?_, ?_, ?_, ?_, ?_, ?_, ?_, ?_⟩ <;> decide +kernel
/-- Furnace 1, whose rows do not overlap, and furnace 2, which is CHARGING. -/
theorem witness_HoldsAndConfirmations : plant.serves .p0 ∧ plant.mode = .run ∧ ([1] : List Byte).length = 1 ∧
    plant.configuredFurnace (field [1] 0 1) = some .f1 ∧ plant.confirmable .f1 = true ∧
    plant.configuredFurnace (field [2] 0 1) = some .f2 ∧ plant.confirmable .f2 = false := by
  refine ⟨plant_serves _, ?_, ?_, ?_, ?_, ?_, ?_⟩ <;> decide +kernel
/-- One and eight walks of furnace 1, and a walk of furnace 2 during its charge. -/
theorem witness_WalksMoveEveryRow : Furnace.f1 ∈ plant.configured ∧ plant.serves (furnacePort .f1) ∧ plant.serves .p0 ∧ plant.mode = .run ∧
    field [8] 0 1 = 8 ∧ field [1] 0 1 = 1 ∧ (plant.furnace .f1).op.isCharging = false ∧
    (plant.furnace .f2).op = .charging 31 none 2000 4800 ∧ field [1, 8] 0 1 = furnaceNumber .f1 ∧ field [1, 8] 1 1 = 8 := by
  refine ⟨?_, plant_serves _, plant_serves _, ?_, ?_, ?_, ?_, ?_, ?_, ?_⟩ <;> decide +kernel
/-- The plant whose front row is a single one in front of a row that has soaked, with a log of that many records. -/
def soaked (records : Nat) : State :=
  { plant with
    log := List.replicate records ⟨9, .f1, .single, 5000, 4800, false, false, false, 7⟩
    furnaces := plant.furnaces.set .f1 { FurnaceState.fresh with rows := [row 41 none 2600 2000 4800 4800, row 42 (some 43) 30000 2100 5384 5385] } }

/-- R120, R123, R117: two records to a full log, and one row that waits soaked behind the front row. -/
theorem test_dischargeReport_of_full_log : (after (.dischargeReport .p3 (u32 0)) (soaked 16)).banks.furnace1.record =
    some ⟨.advisory, .underheat, some 42, some .p3, 0⟩ ∧ (after (.dischargeReport .p3 (u32 0)) (soaked 16)).logOverrun = true ∧
    ((after (.dischargeReport .p3 (u32 0)) (soaked 16)).port .p3).notices = 0x04 := by decide +kernel

/-- A report of each kind, with a log of none, 14, 15 and 16 records, and a row behind the front row that has soaked or has not. -/
theorem witness_DischargesAreLogged : plant.serves .p0 ∧ 1 ≤ (4 : Byte).toNat ∧ (4 : Byte).toNat ≤ 4 ∧ 4 < (5 : Byte).toNat ∧
    plant.serves (furnacePort .f1) ∧ (u32 43).length = 4 ∧ field (u32 43) 0 4 ≠ 4294967295 ∧ (plant.furnace .f3).rows = [] ∧
    (plant.furnace .f1).rows.getLast? = some (row 42 (some 43) 30000 2100 5384 5385) ∧ field (u32 41) 0 4 ≠ 42 ∧
    some (field (u32 41) 0 4) ≠ some 43 ∧ field (u32 43) 0 4 = 43 ∧ field (u32 0) 0 4 = 0 ∧ (soaked 0).log = [] ∧
    (soaked 14).log.length + 2 = 16 ∧ 16 < (soaked 15).log.length + 2 ∧ (soaked 16).log.length ≤ 16 ∧ some 43 ≠ some 42 ∧
    (plant.furnace .f1).rows[0]? = some (row 41 none 2600 2000 100 4800) ∧
    ((soaked 16).furnace .f1).rows[0]? = some (row 41 none 2600 2000 4800 4800) ∧ ((soaked 16).furnace .f1).rows.length = 2 := by
  refine ⟨plant_serves _, ?_, ?_, ?_, plant_serves _, ?_, ?_, ?_, ?_, ?_, ?_, ?_, ?_, ?_, ?_, ?_, ?_, ?_, ?_, ?_, ?_⟩ <;> decide +kernel

/-- The plant with a change to furnace 3, for which the head row waits. -/
def atThree (g : FurnaceState → FurnaceState) : State := plant.updateFurnace .f3 g

/-- A state for each check of R129, in its order. -/
theorem witness_ChargesBegin : plant.serves (furnacePort .f3) ∧ (u32 21 ++ u32 22).length = 8 ∧
    validSlabId (field (u32 21 ++ u32 22) 0 4) = true ∧ field (u32 21 ++ u32 22) 4 4 ≠ 4294967295 ∧
    ((atThree fun m => { m with doubt := true }).furnace .f3).status = .doubtful ∧
    ((atThree fun m => { m with hold := ⟨true, false, false⟩ }).furnace .f3).status = .held ∧ (plant.furnace .f3).status = .opened ∧
    ({ plant with laneDoubt := true } : State).laneDoubt = true ∧ plant.laneDoubt = false ∧ (plant.furnace .f2).op.isCharging = true ∧
    (plant.furnace .f3).op.isCharging = false ∧ running.headRow = .empty ∧ plant.headFurnace = some .f3 ∧ Furnace.f3 ≠ .f1 ∧
    ({ plant with lane := [21] } : State).headRow = .incomplete 21 ∧ plant.headRow = .pair 21 22 ∧ starved.headRow = .single 7006 ∧
    (plant.planFor .f3 21 (some 22)).fit = .fits ∧ (plant.planFor .f3 21 (some 22)).walks = 0 ∧
    ((atThree fun m => { m with rows := List.replicate 48 (row 1 none 2600 2000 0 0) }).planFor .f3 21 (some 22)).fit = .fullRows ∧
    ((atThree fun m => { m with rows := [row 1 none 2249 2000 0 0, row 2 none 38900 2000 0 0] }).planFor .f3 21 (some 22)).fit = .fullLength ∧
    ((atThree fun m => { m with rows := [row 1 none 2249 2000 0 0] }).planFor .f3 21 (some 22)).fit = .fits ∧
    ((atThree fun m => { m with rows := [row 1 none 2249 2000 0 0] }).planFor .f3 21 (some 22)).walks ≠ 0 ∧
    plant.slab? 21 = some (pairedWith (slab 21 4200 1900 230 .f3 .onLane) 22 .first) ∧
    plant.slab? 22 = some (pairedWith (slab 22 4400 2100 260 .f3 .onLane) 21 .second) ∧
    starved.slab? 7006 = some (slab 7006 3000 1500 200 .f1 .onLane) ∧ starved.headFurnace = some .f1 ∧
    field (u32 21 ++ u32 22) 0 4 = 21 ∧ field (u32 21 ++ u32 22) 4 4 = 22 ∧ field (u32 21 ++ u32 0) 4 4 ≠ 22 ∧
    starved.lane = 7006 :: [7007] ∧
    starved.partner? 7006 = none ∧
    plant.lane = 21 :: [22] ∧
    plant.partner? 21 = some ⟨22, .first⟩ := by
  refine ⟨plant_serves _, ?_, ?_, ?_, ?_, ?_, ?_, ?_, ?_, ?_, ?_, ?_, ?_, ?_, ?_, ?_, ?_, ?_, ?_, ?_, ?_, ?_, ?_, ?_, ?_, ?_, ?_, ?_, ?_, ?_, ?_, ?_, ?_, ?_⟩ <;>
    decide +kernel
/-- An operation that ended, one that timed out, and one in progress beside no row, a row clear of it and a row it overlaps. -/
theorem witness_ChargesEnd : plant.serves (furnacePort .f2) ∧ (plant.furnace .f3).op = .idle false ∧
    ((atThree fun m => { m with op := .idle true }).furnace .f3).op = .idle true ∧ (plant.furnace .f2).op = .charging 31 none 2000 4800 ∧
    (plant.furnace .f2).rows = [] ∧ [row 1 none 2000 1800 0 0].head? = some (row 1 none 2000 1800 0 0) ∧
    2000 ≤ (row 1 none 2000 1800 0 0).rear ∧ (row 1 none 1999 1800 0 0).rear < 2000 ∧
    ((atThree fun m => { m with rows := [row 1 none 0 1800 9 9] }).furnace .f3).rows.getLast? = some (row 1 none 0 1800 9 9) ∧
    (plant.furnace .f1).rows.getLast? = some (row 42 (some 43) 30000 2100 5384 5385) := by
  refine ⟨plant_serves _, ?_, ?_, ?_, ?_, ?_, ?_, ?_, ?_, ?_⟩ <;> decide +kernel
theorem witness_DoubtIsResolved : plant.serves .p0 ∧ plant.mode = .run ∧ validSlabId (51 : Word32).toNat = true ∧
    plant.live (5999 : Word32).toNat = false ∧ plant.place? (13 : Word32).toNat = some .listed ∧ Place.isDoubtful .listed = false ∧
    plant.place? (51 : Word32).toNat = some (.doubtful (.lifted .c1)) ∧
    64 ≤ ({ plant with sequence := List.replicate 64 13 } : State).sequence.length ∧ plant.sequence.length < 64 ∧
    ({ plant with params := { Params.default with laneCapacity := 5 } } : State).creditsFree = 0 ∧ plant.creditsFree ≠ 0 ∧
    (51 : Word32).toNat ∉ plant.lane ∧
    plant.slab? 21 = some (pairedWith (slab 21 4200 1900 230 .f3 .onLane) 22 .first) ∧
    plant.slab? 22 = some (pairedWith (slab 22 4400 2100 260 .f3 .onLane) 21 .second) := by
  refine ⟨plant_serves _, ?_, ?_, ?_, ?_, ?_, ?_, ?_, ?_, ?_, ?_, ?_, ?_, ?_⟩ <;> decide +kernel
/-- The ten bytes of a PLACE after its outcome. -/
def placing (furnace rear second side : Nat) : List Byte := u8 furnace ++ u16 rear ++ u16 0 ++ u32 second ++ u8 side

/-- Slab 51 alone behind nothing in front of row 41, and slabs 51 and 52 as LEFT and RIGHT, and as RIGHT and LEFT; and for each check
of R148 a placing that fails it. -/
theorem witness_RowsArePlaced : plant.serves .p0 ∧ plant.mode = .run ∧ validSlabId (51 : Word32).toNat = true ∧
    (placing 1 600 0 0).length = 10 ∧ plant.configuredFurnace (field (placing 1 600 0 0) 0 1) = some .f1 ∧
    plant.configuredFurnace (field (placing 4 600 0 0) 0 1) = none ∧ plant.configuredFurnace (field (placing 0 600 0 0) 0 1) = none ∧
    plant.place? (51 : Word32).toNat = some (.doubtful (.lifted .c1)) ∧
    2 < field (placing 1 600 52 3) 9 1 ∧ field (placing 1 600 4294967295 1) 5 4 = 4294967295 ∧ field (placing 1 600 51 1) 5 4 = (51 : Word32).toNat ∧
    field (placing 1 600 52 0) 9 1 = 0 ∧ field (placing 1 600 52 0) 5 4 ≠ 0 ∧ field (placing 1 600 0 2) 9 1 ≠ 0 ∧ field (placing 1 600 0 2) 5 4 = 0 ∧
    plant.place? 5999 = none ∧ plant.place? 13 = some .listed ∧
    48 ≤ (plant.furnace .f1).rows.length + (List.replicate 46 (row 1 none 0 0 0 0)).length ∧
    (plant.furnace .f1).rows.length + (plant.furnace .f1).op.isCharging.toNat < 48 ∧
    plant.slab? 51 = some (slab 51 3000 2000 200 .f3 (.doubtful (.lifted .c1))) ∧
    (plant.furnace .f1).rows.findIdx (fun r => decide (600 < r.rear)) = 0 ∧ 600 + 2000 ≤ (row 41 none 2600 2000 100 4800).rear ∧
    (row 41 none 2600 2000 100 4800).rear < 601 + 2000 ∧ (plant.furnaceParams .f1).effectiveLength < 39001 + 2000 ∧
    (plant.furnace .f1).rows.findIdx (fun r => decide (39000 < r.rear)) = 2 ∧ 30000 + 2100 ≤ 39000 ∧
    3000 + 2 * (plant.furnaceParams .f1).sideClearance ≤ (plant.furnaceParams .f1).hearthWidth ∧
    plant.slab? 52 = some (slab 52 3000 1800 200 .f3 (.doubtful (.atEntry .f1 .left))) ∧
    field (placing 1 600 52 1) 9 1 = 1 ∧ field (placing 1 600 52 2) 9 1 = 2 ∧
    field (placing 1 600 52 1) 5 4 = 52 ∧ plant.place? 52 = some (.doubtful (.atEntry .f1 .left)) ∧
    (plant.furnaceParams .f1).doubleRow = true ∧
    3000 + 3000 + (plant.furnaceParams .f1).centreClearance + 2 * (plant.furnaceParams .f1).sideClearance ≤ (plant.furnaceParams .f1).hearthWidth := by
  refine ⟨plant_serves _, ?_, ?_, ?_, ?_, ?_, ?_, ?_, ?_, ?_, ?_, ?_, ?_, ?_, ?_, ?_, ?_, ?_, ?_, ?_, ?_, ?_, ?_, ?_, ?_, ?_, ?_, ?_, ?_, ?_, ?_, ?_,
    ?_, ?_⟩ <;> decide +kernel
/-- The front row of furnace 1 by its RIGHT slab, and row 41 shifted as far as its neighbour lets it; an id out of range, a furnace
that is not configured, an unknown slab, and slabs that stand elsewhere. -/
theorem witness_MapsAreMended : plant.serves .p0 ∧ plant.mode = .run ∧ plant.configuredFurnace (field ([1] ++ u32 43) 0 1) = some .f1 ∧
    plant.configuredFurnace (field ([4] ++ u32 43) 0 1) = none ∧ field ([1] ++ u32 0) 1 4 = 0 ∧ field ([1] ++ u32 4294967295) 1 4 = 4294967295 ∧
    plant.place? 5999 = none ∧ plant.place? 13 = some .listed ∧ plant.place? 31 = some (.atEntry .f2 .single) ∧
    field ([1] ++ u32 43) 1 4 = 43 ∧ validSlabId 43 = true ∧ plant.place? 43 = some (.inFurnace .f1 .right) ∧
    (plant.furnace .f1).rows[1]? = some (row 42 (some 43) 30000 2100 5384 5385) ∧ (row 42 (some 43) 30000 2100 5384 5385).holds 43 = true ∧
    (row 41 none 2600 2000 100 4800).holds 43 = false ∧ (row 41 none 2600 2000 100 4800).holds 42 = false ∧
    ([1] ++ u32 43 : List Byte).length = 5 ∧ (plant.furnace .f1).op.isCharging = false ∧ (plant.furnace .f2).op.isCharging = true ∧
    ([1] ++ u32 41 ++ u16 28000 : List Byte).length = 7 ∧ field ([1] ++ u32 41 ++ u16 28000) 5 2 + 2000 ≤ 30000 ∧
    30000 < field ([1] ++ u32 41 ++ u16 28001) 5 2 + 2000 ∧ (plant.furnace .f1).doubt = false ∧
    field ([1] ++ u32 42 ++ u16 38900) 5 2 + 2100 ≤ (plant.furnaceParams .f1).effectiveLength ∧
    (plant.furnaceParams .f1).effectiveLength < field ([1] ++ u32 42 ++ u16 38901) 5 2 + 2100 := by
  refine ⟨plant_serves _, ?_, ?_, ?_, ?_, ?_, ?_, ?_, ?_, ?_, ?_, ?_, ?_, ?_, ?_, ?_, ?_, ?_, ?_, ?_, ?_, ?_, ?_, ?_, ?_⟩ <;> decide +kernel
theorem witness_BankRequests : running.serves .p0 ∧ bankOfNumber (field [2] 0 1) = some .lane ∧
    bankOfNumber (field [2, 0x0F, 0xFF, 1] 0 1) = some .lane ∧ field [2, 0x0F, 0xFF, 1] 1 2 ≤ 4095 ∧ field [2, 0x0F, 0xFF, 1] 3 1 ≤ 1 ∧
    4095 < field [2, 0x10, 0x00, 1] 1 2 ∧ 1 < field [2, 0, 0, 2] 3 1 ∧ field [2, 1] 1 1 ≤ 1 ∧ 1 < field [2, 2] 1 1 := by
  refine ⟨running_serves _, ?_, ?_, ?_, ?_, ?_, ?_, ?_, ?_⟩ <;> decide +kernel
/-- A count in CONFIG and in RUN, the capacity at and below the credits held, a geometry parameter of a furnace with rows and of one
without, at the width of the pair of slabs 21 and 22 and one below it, a hearth too narrow for slab 22 and one too narrow for the
shortest slab, a gap beside a pair that no double row takes, a filter, and a period with its limits. -/
theorem witness_ParametersAreWritten : ready.serves .p0 ∧ plant.serves .p0 ∧ ([0x01, 0x01] ++ u32 1 : List Byte).length = 6 ∧
    paramOfNumber (field ([0x01, 0x01] ++ u32 1) 0 2) = some .craneCount ∧ ready.mode = .config ∧ plant.mode = .run ∧
    paramOfNumber 0x0103 = some .laneCapacity ∧ plant.creditsHeld = 5 ∧ paramOfNumber 0x1101 = some (.furnace .f1 .effectiveLength) ∧
    (plant.furnace .f1).rows ≠ [] ∧ (plant.furnace .f3).rows = [] ∧ (plant.furnace .f3).op.isCharging = false ∧
    plant.slab? 21 = some (pairedWith (slab 21 4200 1900 230 .f3 .onLane) 22 .first) ∧
    plant.slab? 22 = some (pairedWith (slab 22 4400 2100 260 .f3 .onLane) 21 .second) ∧
    4200 + 4400 + FurnaceParams.default.centreClearance + 2 * FurnaceParams.default.sideClearance = 9400 ∧
    plant.geometryPasses .f3 .hearthWidth ((plant.furnaceParams .f3).write .hearthWidth 9400) = true ∧
    plant.geometryPasses .f3 .hearthWidth ((plant.furnaceParams .f3).write .hearthWidth 9399) = false ∧
    plant.geometryPasses .f3 .hearthWidth ((plant.furnaceParams .f3).write .hearthWidth 4899) = false ∧
    plant.geometryPasses .f3 .doubleRow ((plant.furnaceParams .f3).write .doubleRow 0) = false ∧
    queued.geometryPasses .f3 .hearthWidth ((queued.furnaceParams .f3).write .hearthWidth 3000) = true ∧
    queued.geometryPasses .f3 .sideClearance { (queued.furnaceParams .f3).write .hearthWidth 3000 with sideClearance := 751 } = false ∧
    plant.geometryPasses .f3 .gap { (plant.furnaceParams .f3).write .gap 600 with doubleRow := false } = true ∧
    FurnaceParam.boundsRecords .gap = false ∧ FurnaceParam.boundsRecords .centreClearance = true ∧
    paramOfNumber 0x110B = some (.furnace .f1 .admissionMask) ∧ FurnaceParam.isGeometry .admissionMask = false ∧
    paramOfNumber 0x2001 = some .permitPeriod ∧ ParamId.permitPeriod.limits = (10, 1800) := by
  refine ⟨ready_serves_p0, plant_serves _, ?_, ?_, ?_, ?_, ?_, ?_, ?_, ?_, ?_, ?_, ?_, ?_, ?_, ?_, ?_, ?_, ?_, ?_, ?_, ?_, ?_, ?_, ?_, ?_, ?_, ?_⟩ <;> decide +kernel
/-- START in both modes and with a hearth too narrow, CLEAR_ALL with and without an ACTIVE crane port, RESET_RECORD_CLEAR. -/
theorem witness_ModeAndResetRequests : running.serves .p0 ∧ running.mode = .run ∧ ready.serves .p0 ∧ ready.mode = .config ∧
    (∀ f ∈ ready.configured, 1500 + 2 * (ready.furnaceParams f).sideClearance ≤ (ready.furnaceParams f).hearthWidth) ∧
    ¬1500 + 2 * (⟨10000, 3000, 300, 150, 800, 300, true, 240, 80, 60, 0, 0⟩ : FurnaceParams).sideClearance ≤ 3000 ∧
    (running.port .p1).link = .active ∧ (∀ p ∈ [Port.p1, .p2, .p3, .p4, .p5], (clearable.port p).link ≠ .active) ∧
    ([3] : List Byte).length = 1 ∧ ready.configuredFurnace (field [3] 0 1) = some .f3 := by
  refine ⟨running_serves _, ?_, ready_serves_p0, ?_, ?_, ?_, ?_, ?_, ?_, ?_⟩ <;> decide +kernel

end Sys2Proof.Tests
end

/-!
PROOFS. The charge planner's sums (chapter 5): the walk count, the fit test and the walks available of a furnace map.
-/

namespace Sys2Proof.Proofs

open Sys2Proof Sys2Proof.Machine

/-! ### Rows moved by walks -/

@[simp] theorem moved_rear (r : Row) (distance : Nat) : (r.moved distance).rear = r.rear + distance := rfl
@[simp] theorem moved_far (r : Row) (distance : Nat) : (r.moved distance).far = r.far + distance :=
  Nat.add_right_comm ..

/-! ### The walk count (R99) -/

theorem walkCount_nil (fp : FurnaceParams) (w : Nat) : fp.walkCount [] w = 0 := rfl

theorem walkCount_cons (fp : FurnaceParams) (newest : Row) (older : List Row) (w : Nat) :
    fp.walkCount (newest :: older) w = ceilDiv (w + fp.gap - newest.rear) fp.stroke := rfl

/-- The model's rounded-up quotient is Mathlib's, so its adjunction with the product holds. -/
theorem ceilDiv_le_iff {a b n : Nat} (hb : 0 < b) : ceilDiv a b ≤ n ↔ a ≤ b * n := by
  have same : ceilDiv a b = a ⌈/⌉ b := by rw [ceilDiv, Nat.ceilDiv_eq_add_pred_div, Nat.add_sub_assoc hb]
  rw [same, ceilDiv_le_iff_le_mul hb]

/-- What R99 asks of the walk count, in one line: a number of walks reaches it exactly when it leaves the gap. -/
theorem walkCount_cons_le_iff {fp : FurnaceParams} (hS : 0 < fp.stroke) (newest : Row) (older : List Row) (w m : Nat) :
    fp.walkCount (newest :: older) w ≤ m ↔ w + fp.gap ≤ newest.rear + m * fp.stroke := by
  rw [walkCount_cons, ceilDiv_le_iff hS, Nat.sub_le_iff_le_add', Nat.mul_comm]

/-- Each walk of the newest row takes one from the walk count, until it is 0. -/
theorem walkCount_moved_cons {fp : FurnaceParams} (hS : 0 < fp.stroke) (newest : Row) (older rest : List Row) (w walks : Nat) :
    fp.walkCount (newest.moved (walks * fp.stroke) :: rest) w = fp.walkCount (newest :: older) w - walks := by
  refine eq_of_forall_ge_iff fun m => ?_
  rw [walkCount_cons_le_iff hS, Nat.sub_le_iff_le_add', walkCount_cons_le_iff hS, moved_rear, Nat.add_mul, Nat.add_assoc]

theorem walkCount_map_moved {fp : FurnaceParams} (hS : 0 < fp.stroke) (rows : List Row) (w walks : Nat) :
    fp.walkCount (rows.map fun r => r.moved (walks * fp.stroke)) w = fp.walkCount rows w - walks := by
  cases rows with
  | nil => exact (Nat.zero_sub walks).symm
  | cons newest older => exact walkCount_moved_cons hS newest older _ w walks

/-- Settles O23: every clause but the closed formula reads off `walkCount_cons_le_iff`. -/
theorem walkCountIsLeast : Obligations.WalkCountIsLeast := by
  unfold Obligations.WalkCountIsLeast
  intro fp newest older w hS n
  have reaches (m : Nat) : n ≤ m ↔ w + fp.gap ≤ newest.rear + m * fp.stroke := walkCount_cons_le_iff hS newest older w m
  refine ⟨walkCount_nil fp w, fun clear => ?_, fun _ => ?_, (reaches n).mp le_rfl, fun m fewer => ?_,
    fun width gap stroke => ?_, fun rest => ?_⟩
  · exact Nat.le_zero.mp ((reaches 0).mpr (by omega))
  · exact congrArg (· / fp.stroke) (Nat.add_sub_assoc hS _).symm
  · exact Nat.lt_of_not_le fun leaves => Nat.not_le_of_lt fewer ((reaches m).mpr leaves)
  · exact (reaches 31).mpr (by omega)
  · simpa [Row.moved] using walkCount_moved_cons hS newest older rest w 1

/-! ### The fit test (R100) -/

theorem fit_of_maxRows_le (fp : FurnaceParams) {rows : List Row} (hfull : 48 ≤ rows.length) (w n : Nat) :
    fp.fit rows w n = .fullRows := if_pos hfull

theorem fit_nil (fp : FurnaceParams) (w n : Nat) :
    fp.fit [] w n = if w ≤ fp.effectiveLength then .fits else .fullLength := rfl

theorem fit_of_front (fp : FurnaceParams) {rows : List Row} {front : Row} (hfront : rows.getLast? = some front)
    (hroom : rows.length < 48) (w n : Nat) :
    fp.fit rows w n = if front.far + n * fp.stroke ≤ fp.effectiveLength then .fits else .fullLength := by
  rw [FurnaceParams.fit, if_neg (show ¬ Config.maxRows ≤ rows.length from Nat.not_le_of_lt hroom), hfront]

/-- With a front row, FULL_LENGTH says that a row may still be added and the walked front row would pass L. -/
theorem fit_eq_fullLength_iff (fp : FurnaceParams) {rows : List Row} {front : Row} (hfront : rows.getLast? = some front)
    (w n : Nat) :
    fp.fit rows w n = .fullLength ↔ rows.length < 48 ∧ fp.effectiveLength < front.far + n * fp.stroke := by
  by_cases hroom : rows.length < 48
  · simp [fit_of_front fp hfront hroom, hroom]
  · simp [fit_of_maxRows_le fp (Nat.le_of_not_lt hroom), hroom]

/-- A walk adds to the front row what it takes from the walk count, so the sum of the length test never falls. -/
theorem fitSum_le_fitSum_of_walks (far stroke n walks : Nat) :
    far + n * stroke ≤ far + walks * stroke + (n - walks) * stroke := by
  rw [Nat.add_assoc, ← Nat.add_mul]
  exact Nat.add_le_add_left (Nat.mul_le_mul_right stroke (by omega)) far

/-- While the walk count lasts, the sum of the length test stays as it was. -/
theorem fitSum_eq_fitSum_of_walks {n walks : Nat} (far stroke : Nat) (hwalks : walks ≤ n) :
    far + walks * stroke + (n - walks) * stroke = far + n * stroke := by
  rw [Nat.add_assoc, ← Nat.add_mul, Nat.add_sub_cancel' hwalks]

theorem getLast?_map_moved {rows : List Row} {front : Row} (hfront : rows.getLast? = some front) (distance : Nat) :
    (rows.map fun r => r.moved distance).getLast? = some (front.moved distance) := by
  rw [List.getLast?_map, hfront, Option.map_some]

/-- Walks that set no row back do not cure FULL_LENGTH: the length of an empty map does not change, and the front row of
any other comes no nearer to fitting. -/
theorem fit_map_moved_eq_fullLength {fp : FurnaceParams} (hS : 0 < fp.stroke) {rows : List Row} {w : Nat} (walks : Nat)
    (hfull : fp.fit rows w (fp.walkCount rows w) = .fullLength) :
    let walked := rows.map fun r => r.moved (walks * fp.stroke)
    fp.fit walked w (fp.walkCount walked w) = .fullLength := by
  intro walked
  cases hfront : rows.getLast? with
  | none =>
    obtain rfl := List.getLast?_eq_none_iff.mp hfront
    exact hfull
  | some front =>
    obtain ⟨hroom, hpasses⟩ := (fit_eq_fullLength_iff fp hfront _ _).mp hfull
    refine (fit_eq_fullLength_iff fp (getLast?_map_moved hfront _) _ _).mpr ⟨by rwa [List.length_map], ?_⟩
    rw [moved_far, walkCount_map_moved hS]
    exact hpasses.trans_le (fitSum_le_fitSum_of_walks ..)

/-- Settles O24. -/
theorem fitTestVerdicts : Obligations.FitTestVerdicts := by
  unfold Obligations.FitTestVerdicts
  intro fp rows w n
  refine ⟨fun full => fit_of_maxRows_le fp full w n, fun within => (fit_nil fp w n).trans (if_pos within),
    fun beyond => (fit_nil fp w n).trans (if_neg (Nat.not_le_of_lt beyond)), fun front hfront hroom => ⟨fun within => ?_, fun beyond => ?_⟩,
    fun walks hS => ⟨fun front hfront hwalks => ?_, fit_map_moved_eq_fullLength hS walks⟩⟩
  · exact (fit_of_front fp hfront hroom w n).trans (if_pos within)
  · exact (fit_eq_fullLength_iff fp hfront w n).mpr ⟨hroom, beyond⟩
  · refine ⟨_, getLast?_map_moved hfront _, ?_⟩
    have sum := fitSum_eq_fitSum_of_walks front.far fp.stroke hwalks
    rwa [← walkCount_map_moved hS, ← moved_far] at sum

/-! ### Walks available (R101) -/

theorem walksAvailable_nil (fp : FurnaceParams) : fp.walksAvailable [] = 255 := rfl

theorem walksAvailable_of_front (fp : FurnaceParams) {rows : List Row} {front : Row} (hfront : rows.getLast? = some front) :
    fp.walksAvailable rows = min 255 ((fp.effectiveLength - front.far) / fp.stroke) := by
  rw [FurnaceParams.walksAvailable, hfront]

theorem atStop_iff (fp : FurnaceParams) (r : Row) : fp.atStop r = true ↔ fp.effectiveLength < r.far + fp.stroke :=
  decide_eq_true_iff

/-- Up to the cap of 255, a number of walks is available exactly when the front row ends within L after them. -/
theorem le_walksAvailable_iff {fp : FurnaceParams} (hS : 0 < fp.stroke) {rows : List Row} {front : Row}
    (hfront : rows.getLast? = some front) {q : Nat} (hpos : 0 < q) (hcap : q ≤ 255) :
    q ≤ fp.walksAvailable rows ↔ front.far + q * fp.stroke ≤ fp.effectiveLength := by
  have walk : 0 < q * fp.stroke := Nat.mul_pos hpos hS
  rw [walksAvailable_of_front fp hfront, le_min_iff, Nat.le_div_iff_mul_le hS]
  omega

theorem walksAvailable_le (fp : FurnaceParams) (rows : List Row) : fp.walksAvailable rows ≤ 255 := by
  cases hfront : rows.getLast? with
  | none => rw [FurnaceParams.walksAvailable, hfront]
  | some front => exact walksAvailable_of_front fp hfront ▸ Nat.min_le_left ..

/-- No walk is available exactly when one more would take the front row's far edge past L. -/
theorem walksAvailable_eq_zero_iff {fp : FurnaceParams} (hS : 0 < fp.stroke) {rows : List Row} {front : Row}
    (hfront : rows.getLast? = some front) :
    fp.walksAvailable rows = 0 ↔ fp.effectiveLength < front.far + fp.stroke := by
  have one := le_walksAvailable_iff hS hfront Nat.one_pos (by decide)
  omega

/-- Settles O25. -/
theorem walksAvailableRoundsDown : Obligations.WalksAvailableRoundsDown := by
  unfold Obligations.WalksAvailableRoundsDown
  intro fp rows hS
  refine ⟨walksAvailable_nil fp, fun front hfront => ⟨fun past => ?_, fun q hq within beyond => ?_, fun within => ?_, fun _ => ?_⟩⟩
  · exact (walksAvailable_eq_zero_iff hS hfront).mpr (lt_add_of_le_of_pos past hS)
  · have notMore : ¬ q + 1 ≤ fp.walksAvailable rows := fun more =>
      Nat.not_le_of_lt beyond ((le_walksAvailable_iff hS hfront q.succ_pos (by omega)).mp more)
    have enough : q ≤ fp.walksAvailable rows := by
      rcases q.eq_zero_or_pos with rfl | hpos
      · exact Nat.zero_le _
      · exact (le_walksAvailable_iff hS hfront hpos (by omega)).mpr within
    omega
  · exact (walksAvailable_le fp rows).antisymm ((le_walksAvailable_iff hS hfront (by decide) le_rfl).mpr within)
  · rw [walksAvailable_eq_zero_iff hS hfront, atStop_iff]

end Sys2Proof.Proofs

/-!
PROOFS. The fault banks (chapter 8): when a bank's record takes a fault, and what becomes of the bank on each line of the
table of R156.
-/

namespace Sys2Proof.Proofs

open Sys2Proof Sys2Proof.Machine

/-! ### Which fault a record takes, and which it loses (R156, R157) -/

section Bank

variable {b : Bank} {r : FaultRecord} {code : FaultCode} {slab : Option SlabId}

theorem takes_of_empty (hempty : b.record = none) (sev : Severity) : b.takes sev = true := by
  rw [Bank.takes, hempty]

theorem takes_iff_of_held (hheld : b.record = some r) (sev : Severity) :
    b.takes sev = true ↔ r.severity.byte < sev.byte := by
  rw [Bank.takes, hheld, decide_eq_true_iff]

theorem raisesFault_iff_of_takes {sev : Severity} (htakes : b.takes sev = true) :
    b.raisesFault sev = true ↔ sev ≠ .advisory ∨ b.advisoryEnable = true := by
  rw [Bank.raisesFault, htakes, Bool.true_and, Bool.or_eq_true, bne_iff_ne]

theorem losesFault_iff_of_held (hheld : b.record = some r) :
    b.losesFault code slab = true ↔
      r.severity = .trackingLost ∧ code.severity = .trackingLost ∧ (r.code ≠ code ∨ r.slab ≠ slab) := by
  simp [Bank.losesFault, hheld, and_assoc]

/-- A fault is lost only to a record of its own severity, so none is lost that the record takes. -/
theorem losesFault_eq_false_of_takes (htakes : b.takes code.severity = true) : b.losesFault code slab = false := by
  cases hrecord : b.record with
  | none => rw [Bank.losesFault, hrecord]
  | some r =>
    refine Bool.eq_false_iff.mpr fun hloses => ?_
    obtain ⟨hheldLost, hfaultLost, -⟩ := (losesFault_iff_of_held hrecord).mp hloses
    have higher := (takes_iff_of_held hrecord _).mp htakes
    rw [hheldLost, hfaultLost] at higher
    exact lt_irrefl _ higher

/-! ### A bank after a fault has reached it (R156) -/

variable (port : Option Port) (stamp : Word32)

theorem logged_overflow_of_held (hheld : b.record = some r) : (b.logged code slab port stamp).overflow = true := by
  rw [Bank.logged, hheld, Option.isSome_some, Bool.or_true]

theorem logged_overflow_of_empty (hempty : b.record = none) :
    (b.logged code slab port stamp).overflow = b.overflow := by
  rw [Bank.logged, hempty, Option.isSome_none, Bool.or_false]

theorem logged_lossUnlogged_of_not_loses (hkeeps : b.losesFault code slab = false) :
    (b.logged code slab port stamp).lossUnlogged = b.lossUnlogged := by
  rw [Bank.logged, hkeeps, Bool.or_false]

theorem logged_lossUnlogged_of_loses (hloses : b.losesFault code slab = true) :
    (b.logged code slab port stamp).lossUnlogged = true := by
  rw [Bank.logged, hloses, Bool.or_true]

/-- Lines 1 and 2: what a bank shows of a fault that its record takes, overflow aside. -/
theorem logged_of_takes (htakes : b.takes code.severity = true) :
    (b.logged code slab port stamp).record = some ⟨code.severity, code, slab, port, stamp⟩ ∧
      (b.logged code slab port stamp).lossUnlogged = b.lossUnlogged ∧
      ((b.logged code slab port stamp).notified = true ↔ code.severity ≠ .advisory ∨ b.advisoryEnable = true) := by
  have hnotified : (b.logged code slab port stamp).notified = b.raisesFault code.severity := if_pos htakes
  refine ⟨if_pos htakes, logged_lossUnlogged_of_not_loses port stamp (losesFault_eq_false_of_takes htakes), ?_⟩
  rw [hnotified, raisesFault_iff_of_takes htakes]

/-- Lines 3 to 5: a fault no more severe than the one held leaves the record and notified, and sets overflow. -/
theorem logged_of_not_higher (hheld : b.record = some r) (hle : code.severity.byte ≤ r.severity.byte) :
    (b.logged code slab port stamp).record = b.record ∧ (b.logged code slab port stamp).overflow = true ∧
      (b.logged code slab port stamp).notified = b.notified := by
  have hkept : ¬ b.takes code.severity = true := fun htakes =>
    Nat.not_lt_of_le hle ((takes_iff_of_held hheld _).mp htakes)
  exact ⟨if_neg hkept, logged_overflow_of_held port stamp hheld, if_neg hkept⟩

end Bank

/-- A fault that reaches one bank is logged there, and the notices it raises touch no bank. -/
theorem logFault_banks_get (s : State) (bank other : BankId) (code : FaultCode) (slab : Option SlabId)
    (port : Option Port) :
    (s.logFault bank code slab port).banks.get other =
      if other = bank then (s.banks.get bank).logged code slab port s.runningSeconds else s.banks.get other := by
  rw [State.logFault, State.raiseWhen_banks, State.raiseWhen_banks, State.updateBank_get]

/-- Settles O16: the five lines differ only in whether the record takes the fault, and in whether it loses one. -/
theorem faultReachesBank : Obligations.FaultReachesBank := by
  unfold Obligations.FaultReachesBank
  intro s bank code slab port b b' fault raises
  have reached : b' = b.logged code slab port s.runningSeconds := (logFault_banks_get ..).trans (if_pos rfl)
  rw [reached]
  refine ⟨fun hempty => ?notValid, fun r hheld hhigher => ?higher, fun r hheld hle hnotLost => ?notHigher,
    fun r hheld hheldLost hlost hcode hslab => ?sameLoss, fun r hheld hheldLost hlost hother => ?otherLoss,
    fun other hne => (logFault_banks_get ..).trans (if_neg hne)⟩
  case notValid =>
    obtain ⟨hrecord, hloss, hnotified⟩ := logged_of_takes port s.runningSeconds (takes_of_empty hempty code.severity)
    exact ⟨hrecord, logged_overflow_of_empty port _ hempty, hloss, hnotified⟩
  case higher =>
    obtain ⟨hrecord, hloss, hnotified⟩ := logged_of_takes port s.runningSeconds ((takes_iff_of_held hheld _).mpr hhigher)
    exact ⟨hrecord, logged_overflow_of_held port _ hheld, hloss, hnotified⟩
  case notHigher =>
    obtain ⟨hrecord, hoverflow, hnotified⟩ := logged_of_not_higher port s.runningSeconds hheld hle
    have hkeeps : b.losesFault code slab = false := Bool.eq_false_iff.mpr fun hloses => by
      obtain ⟨-, hlost, -⟩ := (losesFault_iff_of_held hheld).mp hloses
      exact hnotLost hlost
    exact ⟨hrecord, hoverflow, logged_lossUnlogged_of_not_loses port _ hkeeps, hnotified⟩
  case sameLoss =>
    have hle : code.severity.byte ≤ r.severity.byte := by rw [hheldLost, hlost]
    obtain ⟨hrecord, hoverflow, hnotified⟩ := logged_of_not_higher port s.runningSeconds hheld hle
    have hkeeps : b.losesFault code slab = false := Bool.eq_false_iff.mpr fun hloses => by
      obtain ⟨-, -, hother⟩ := (losesFault_iff_of_held hheld).mp hloses
      exact hother.elim (· hcode) (· hslab)
    exact ⟨hrecord, hoverflow, logged_lossUnlogged_of_not_loses port _ hkeeps, hnotified⟩
  case otherLoss =>
    have hle : code.severity.byte ≤ r.severity.byte := by rw [hheldLost, hlost]
    obtain ⟨hrecord, hoverflow, hnotified⟩ := logged_of_not_higher port s.runningSeconds hheld hle
    have hloses : b.losesFault code slab = true := (losesFault_iff_of_held hheld).mpr ⟨hheldLost, hlost, hother⟩
    exact ⟨hrecord, hoverflow, logged_lossUnlogged_of_loses port _ hloses, hnotified⟩

end Sys2Proof.Proofs

/-!
PROOFS. What a command can do to the part, said once: the request that a row of the table stands for, the effect of a command,
and the change that the rule of a request makes. Every law of the part is a case analysis of these two.
-/

namespace Sys2Proof.Proofs

open Sys2Proof Sys2Proof.Machine

/-! ### Requests and their rows (R169, R176) -/

/-- The request that a row of the table stands for: its port, its kind and its body. -/
def asRequest : Instr → Option (Port × Kind × List Byte)
  | .powerOn | .runningSecondsAdvance | .lossOfPower => none
  | .permitTimerExpiry _ | .custodyTimerExpiry _ | .chargeTimerExpiry _ | .silenceTimerExpiry _ => none
  | .selAssert _ | .frameEnd _ _ _ | .processingEnd _ | .frameWhileBusy _ => none
  | .readout _ | .responseDiscarded _ _ | .readoutEnd _ => none
  | .hello p b => some (p, .hello, b)
  | .status p b => some (p, .status, b)
  | .noticeRead p b => some (p, .noticeRead, b)
  | .noticeClear p b => some (p, .noticeClear, b)
  | .noticeMask p b => some (p, .noticeMask, b)
  | .park p b => some (p, .park, b)
  | .mapRead p b => some (p, .mapRead, b)
  | .slabAnnounce p b => some (p, .slabAnnounce, b)
  | .slabRead p b => some (p, .slabRead, b)
  | .seqMove p b => some (p, .seqMove, b)
  | .seqWithdraw p b => some (p, .seqWithdraw, b)
  | .seqRead p b => some (p, .seqRead, b)
  | .laneRead p b => some (p, .laneRead, b)
  | .holdSet p b => some (p, .holdSet, b)
  | .holdRelease p b => some (p, .holdRelease, b)
  | .dischargeTake p b => some (p, .dischargeTake, b)
  | .slabResolveRequeue p slab extra => some (p, .slabResolve, resolveBody slab 0x00 extra)
  | .slabResolveToLaneTail p slab extra => some (p, .slabResolve, resolveBody slab 0x01 extra)
  | .slabResolveRemove p slab extra => some (p, .slabResolve, resolveBody slab 0x02 extra)
  | .slabResolvePlace p slab extra => some (p, .slabResolve, resolveBody slab 0x03 extra)
  | .doubtList p b => some (p, .doubtList, b)
  | .rowRemove p b => some (p, .rowRemove, b)
  | .mapWalk p b => some (p, .mapWalk, b)
  | .rowShift p b => some (p, .rowShift, b)
  | .confirmFurnace p b => some (p, .confirmFurnace, b)
  | .confirmLane p b => some (p, .confirmLane, b)
  | .faultRead p b => some (p, .faultRead, b)
  | .faultClear p b => some (p, .faultClear, b)
  | .thresholdSet p b => some (p, .thresholdSet, b)
  | .advisoryEnable p b => some (p, .advisoryEnable, b)
  | .paramRead p b => some (p, .paramRead, b)
  | .paramWrite p b => some (p, .paramWrite, b)
  | .start p b => some (p, .start, b)
  | .restart p b => some (p, .restart, b)
  | .clearAll p b => some (p, .clearAll, b)
  | .resetRecordClear p b => some (p, .resetRecordClear, b)
  | .permitAsk p b => some (p, .permitAsk, b)
  | .permitReturn p b => some (p, .permitReturn, b)
  | .liftReport p b => some (p, .liftReport, b)
  | .setdownAsk p b => some (p, .setdownAsk, b)
  | .depositReport p b => some (p, .depositReport, b)
  | .setAsideReport p b => some (p, .setAsideReport, b)
  | .chargeAsk p b => some (p, .chargeAsk, b)
  | .chargeBegin p b => some (p, .chargeBegin, b)
  | .chargeEnd p b => some (p, .chargeEnd, b)
  | .chargeAbortReturned p extra => some (p, .chargeAbort, 0x00 :: extra)
  | .chargeAbortStuck p extra => some (p, .chargeAbort, 0x01 :: extra)
  | .walkReport p b => some (p, .walkReport, b)
  | .dischargeAsk p b => some (p, .dischargeAsk, b)
  | .dischargeReport p b => some (p, .dischargeReport, b)

/-- A row that stands for a request is that request, taken by the rule that owns its kind. -/
theorem exec_of_asRequest {c : Instr} {p : Port} {k : Kind} {body : List Byte} (hc : asRequest c = some (p, k, body))
    (s : State) : exec c s = request p k (ruleOf p body k) s := by
  cases c <;> cases hc <;> rfl

theorem commandPort_of_asRequest {c : Instr} {p : Port} {k : Kind} {body : List Byte}
    (hc : asRequest c = some (p, k, body)) : commandPort c = some p := by
  cases c <;> cases hc <;> rfl

/-! ### One port changed twice, or not at all -/

theorem updatePort_updatePort (s : State) (p : Port) (g h : PortState → PortState) :
    (s.updatePort p g).updatePort p h = s.updatePort p (h ∘ g) := by
  cases p <;> rfl

theorem updatePort_id (s : State) (p : Port) : s.updatePort p id = s := by
  cases p <;> rfl

/-! ### The effect of a command -/

/-- A change of a port's machine and silence timer alone. -/
def MachineOnly (g : PortState → PortState) : Prop :=
  ∀ q, (g q).link = q.link ∧ (g q).notices = q.notices ∧ (g q).mask = q.mask

/-- A state as it is, or with a fault of port `p` in the LINK bank. -/
def LinkLogged (s : State) (p : Port) (u : State) : Prop :=
  u = s ∨ ∃ code, u = s.logFault .link code none (some p)

/-- The command stands for a request of that kind with that body on port `p`: its row, or the end of the processing of a good
frame that holds it. -/
def Requests (c : Instr) (s : State) (p : Port) (k : Kind) (body : List Byte) : Prop :=
  asRequest c = some (p, k, body) ∨ processes c s p k

/-- What a command can do: nothing; an event of the power, the clock or a timer; a change of the machine of its own port, as
every refusal and every event of section 9.2 is; or the answer to a request by the rule of its kind. -/
inductive Effect (c : Instr) (s : State) : State → Prop
  | nothing : Effect c s s
  | powerOn (hc : c = .powerOn) : Effect c s s.powerUp
  | lossOfPower (hc : c = .lossOfPower) (hw : s.powered = true) :
      Effect c s { s.coldStart false with powered := false }
  | seconds (hc : c = .runningSecondsAdvance) (hw : s.powered = true) : Effect c s s.advanceSeconds
  | permitExpiry (k : Crane) (hc : c = .permitTimerExpiry k) (hw : s.powered = true) : Effect c s (s.permitExpiry k)
  | custodyExpiry (k : Crane) (hc : c = .custodyTimerExpiry k) (hw : s.powered = true) : Effect c s (s.custodyExpiry k)
  | chargeExpiry (f : Furnace) (hc : c = .chargeTimerExpiry f) (hw : s.powered = true) : Effect c s (s.chargeExpiry f)
  | silenceExpiry (p : Port) (hc : c = .silenceTimerExpiry p) (hw : s.powered = true) : Effect c s (s.silenceExpiry p)
  | machine (p : Port) (u : State) (g : PortState → PortState) (hc : commandPort c = some p) (hp : s.present p = true)
      (hu : LinkLogged s p u) (hg : MachineOnly g) : Effect c s (u.updatePort p g)
  | answer (p : Port) (k : Kind) (body : List Byte) (hc : Requests c s p k body) (hport : commandPort c = some p)
      (hw : s.powered = true) (hp : s.present p = true) (hrole : k.allowedTo (portRole p) = true)
      (hstands : s.standingRefusal p k = none) : Effect c s (answered p (ruleOf p body k s))

theorem machineOnly_exchange (x : Exchange) : MachineOnly fun q => { q with exchange := x } := fun _ => ⟨rfl, rfl, rfl⟩

theorem machineOnly_setExchange (x : Exchange) (sel : Selection) :
    MachineOnly fun q => { q with exchange := x, sel := sel } := fun _ => ⟨rfl, rfl, rfl⟩

theorem machineOnly_silence (g : PortState → Timer) : MachineOnly fun q => { q with silence := g q } :=
  fun _ => ⟨rfl, rfl, rfl⟩

theorem MachineOnly.comp {g h : PortState → PortState} (hh : MachineOnly h) (hg : MachineOnly g) : MachineOnly (h ∘ g) :=
  fun q => by
    obtain ⟨hlink, hnotices, hmask⟩ := hh (g q)
    obtain ⟨glink, gnotices, gmask⟩ := hg q
    exact ⟨hlink.trans glink, hnotices.trans gnotices, hmask.trans gmask⟩

section Effects

variable {c : Instr} {s : State} {p : Port}

/-- An answer that refuses, with or without a fault of the LINK bank, changes the machine of the port alone. -/
theorem effect_of_refusal {u : State} (r : Response) (hc : commandPort c = some p) (hp : s.present p = true)
    (hu : LinkLogged s p u) : Effect c s (answered p (u, r)) :=
  .machine p u _ hc hp hu (machineOnly_exchange _)

theorem effect_of_setExchange (x : Exchange) (sel : Selection) (hc : commandPort c = some p) (hp : s.present p = true) :
    Effect c s (s.setExchange p x sel) :=
  .machine p s _ hc hp (.inl rfl) (machineOnly_setExchange x sel)

/-- Tests 3 to 6 of R169: a request is refused, or answered by the rule of its kind. -/
theorem effect_of_judged {k : Kind} {body : List Byte} (hc : Requests c s p k body) (hport : commandPort c = some p)
    (hw : s.powered = true) (hp : s.present p = true) : Effect c s (answered p (judged p k (ruleOf p body k) s)) := by
  unfold judged
  split
  · next hrole =>
    cases hstands : s.standingRefusal p k with
    | some r => exact effect_of_refusal _ hport hp (.inl rfl)
    | none => exact .answer p k body hc hport hw hp hrole hstands
  · exact effect_of_refusal _ hport hp (.inr ⟨.kindRefused, rfl⟩)

/-- R164 to R166: what the events of section 9.2 do to the machine of their port. -/
theorem effect_of_assertSel (hc : commandPort c = some p) (hp : s.present p = true) : Effect c s (s.assertSel p) := by
  unfold State.assertSel
  split
  · exact .nothing
  · split
    · exact effect_of_setExchange _ _ hc hp
    · exact .machine p _ _ hc hp (.inr ⟨.frameWhileBusy, rfl⟩) (machineOnly_setExchange _ _)
    · exact effect_of_setExchange _ _ hc hp
    · exact .nothing
    · exact .nothing

theorem effect_of_endFrame (bytes : List Byte) (hc : commandPort c = some p) (hp : s.present p = true) :
    Effect c s (s.endFrame p bytes) := by
  unfold State.endFrame
  split
  · rw [State.rearm, State.setExchange, updatePort_updatePort]
    exact .machine p s _ hc hp (.inl rfl) ((machineOnly_silence _).comp (machineOnly_setExchange _ _))
  · exact .nothing
  · exact effect_of_setExchange _ _ hc hp

theorem effect_of_beginReadout (hc : commandPort c = some p) (hp : s.present p = true) : Effect c s (s.beginReadout p) := by
  unfold State.beginReadout
  split
  · split
    · exact .nothing
    · exact effect_of_setExchange _ _ hc hp
  · exact .nothing

theorem effect_of_discardResponse (first : Byte) (hc : commandPort c = some p) (hp : s.present p = true) :
    Effect c s (s.discardResponse p first) := by
  unfold State.discardResponse
  split
  · split
    · exact effect_of_beginReadout hc hp
    · split
      · exact .nothing
      · exact .machine p _ _ hc hp (.inr ⟨.responseDiscarded, rfl⟩) (machineOnly_setExchange _ _)
  · exact .nothing

/-- R169, tests 1 and 2, and then the tests of a request. -/
theorem effect_of_judgeFrame {kept : List Byte} {count : Nat} (hx : (s.port p).exchange = .processing kept count)
    (hw : s.powered = true) (hp : s.present p = true) :
    Effect (.processingEnd p) s (answered p (judgeFrame p kept count s)) := by
  unfold judgeFrame
  split
  · exact effect_of_refusal _ rfl hp (.inr ⟨.frameCheck, rfl⟩)
  · next hgood =>
    cases hk : kindOfCode (byteAt kept 0) with
    | none => exact effect_of_refusal _ rfl hp (.inr ⟨.kindRefused, rfl⟩)
    | some k => exact effect_of_judged (.inr ⟨rfl, kept, count, hx, by simpa using hgood, hk⟩) rfl hw hp

end Effects

/-- An event does nothing without power. -/
theorem effect_of_event {c : Instr} {s t : State} (g : State → State) (h : event g s = .next t)
    (hg : s.powered = true → Effect c s (g s)) : Effect c s t := by
  cases h
  split
  · next hw => exact hg hw
  · exact .nothing

theorem effect_of_portEvent {c : Instr} {p : Port} {s t : State} (g : State → State) (h : portEvent p g s = .next t)
    (hg : s.powered = true → s.present p = true → Effect c s (g s)) : Effect c s t :=
  effect_of_event _ h fun hw => by
    split
    · next hp => exact hg hw hp
    · exact .nothing

theorem effect_of_processingEnd {p : Port} {s t : State} (h : execProcessingEnd p s = .next t) :
    Effect (.processingEnd p) s t :=
  effect_of_portEvent _ h fun hw hp => by
    split
    · next hx => exact effect_of_judgeFrame hx hw hp
    · exact .nothing

theorem effect_of_frameWhileBusy {p : Port} {s t : State} (h : execFrameWhileBusy p s = .next t) :
    Effect (.frameWhileBusy p) s t :=
  effect_of_portEvent _ h fun _ hp => by
    split
    · exact updatePort_id (s.logBusy p) p ▸
        Effect.machine p _ id rfl hp (.inr ⟨.frameWhileBusy, rfl⟩) fun _ => ⟨rfl, rfl, rfl⟩
    · exact .nothing

theorem effect_of_readoutEnd {p : Port} {s t : State} (h : execReadoutEnd p s = .next t) :
    Effect (.readoutEnd p) s t :=
  effect_of_portEvent _ h fun _ hp => by
    split
    · exact effect_of_setExchange _ _ rfl hp
    · exact .nothing
    · exact effect_of_setExchange _ _ rfl hp

/-- What a command does is one of the effects. -/
theorem effect_of_exec {c : Instr} {s t : State} (h : exec c s = .next t) : Effect c s t := by
  cases hreq : asRequest c with
  | some r =>
    obtain ⟨p, k, body⟩ := r
    rw [exec_of_asRequest hreq] at h
    cases h
    split
    · next hserved =>
      obtain ⟨hw, hp⟩ := Bool.and_eq_true_iff.mp hserved
      exact effect_of_judged (.inl hreq) (commandPort_of_asRequest hreq) hw hp
    · exact .nothing
  | none =>
    cases c with
    | powerOn => cases h; exact .powerOn rfl
    | lossOfPower => exact effect_of_event (fun u => { u.coldStart false with powered := false }) h (.lossOfPower rfl)
    | runningSecondsAdvance => exact effect_of_event State.advanceSeconds h (.seconds rfl)
    | permitTimerExpiry k => exact effect_of_event (State.permitExpiry · k) h (.permitExpiry k rfl)
    | custodyTimerExpiry k => exact effect_of_event (State.custodyExpiry · k) h (.custodyExpiry k rfl)
    | chargeTimerExpiry f => exact effect_of_event (State.chargeExpiry · f) h (.chargeExpiry f rfl)
    | silenceTimerExpiry p => exact effect_of_event (State.silenceExpiry · p) h (.silenceExpiry p rfl)
    | selAssert p => exact effect_of_portEvent (State.assertSel · p) h fun _ hp => effect_of_assertSel rfl hp
    | frameEnd p bytes _ => exact effect_of_portEvent (State.endFrame · p bytes) h fun _ hp => effect_of_endFrame bytes rfl hp
    | processingEnd p => exact effect_of_processingEnd h
    | frameWhileBusy p => exact effect_of_frameWhileBusy h
    | readout p => exact effect_of_portEvent (State.beginReadout · p) h fun _ hp => effect_of_beginReadout rfl hp
    | responseDiscarded p first =>
      exact effect_of_portEvent (State.discardResponse · p first) h fun _ hp => effect_of_discardResponse first rfl hp
    | readoutEnd p => exact effect_of_readoutEnd h
    | _ => cases hreq

/-- R169, test 6: outside CONFIG's exceptions a request that stands on a port other than P0 is taken in RUN. -/
theorem running_of_stands {s : State} {p : Port} {k : Kind} (hstands : s.standingRefusal p k = none) (hp : p ≠ .p0)
    (hhello : k ≠ .hello) (hstatus : k ≠ .status) : s.mode = .run := by
  cases hm : s.mode with
  | run => rfl
  | config =>
    unfold State.standingRefusal State.notRunning at hstands
    split at hstands
    · simp [hm, hp, hhello, hstatus] at hstands
    · split at hstands <;> cases hstands

end Sys2Proof.Proofs

/-!
PROOFS. What the rule of a request can do, said once: the changes of the state that the rules of chapters 1 to 10 make, each with
the conditions under which its rule makes it.
-/

namespace Sys2Proof.Proofs

open Sys2Proof Sys2Proof.Machine

/-- The changes that the rule of a request of kind `k` on port `p` can make, before the notices of the change are raised. A
reading and a refusal make none. -/
inductive Change (p : Port) (s : State) : Kind → State → Prop
  | kept (k : Kind) : Change p s k s
  | hello : Change p s .hello (s.hello p)
  | park (hfree : s.parkRefusal p = none) : Change p s .park (s.parkPort p)
  | noticeClear (kinds : Byte) : Change p s .noticeClear (s.updatePort p fun q => { q with notices := q.notices &&& ~~~kinds })
  | noticeMask (kinds : Byte) (hkinds : kindsInRole p kinds = true) :
      Change p s .noticeMask (s.updatePort p fun q => { q with mask := kinds })
  | announce (a : Announcement) (r : SlabRecord) (i : Nat) (hrun : s.mode = .run) (hpass : s.announceChecks a = .ok (r, i)) :
      Change p s .slabAnnounce (s.createSlab r i)
  | move (id position : Nat) (hrun : s.mode = .run) (hpass : s.moveRefusal id position = none) :
      Change p s .seqMove { s with sequence := movedOrder s.sequence id position }
  | withdrawListed (r : SlabRecord) (hrun : s.mode = .run) (hr : s.slab? r.id = some r) (hplace : r.place = .listed) :
      Change p s .seqWithdraw (s.withdrawListed r.id)
  | withdrawPermitted (r : SlabRecord) (k : Crane) (hrun : s.mode = .run) (hr : s.slab? r.id = some r)
      (hplace : r.place = .permitted k) : Change p s .seqWithdraw (s.withdrawPermitted r.id k)
  | holdSet (f : Furnace) (hrun : s.mode = .run) : Change p s .holdSet (s.changeHold f fun h => { h with supv := true })
  | holdRelease (f : Furnace) (hrun : s.mode = .run) : Change p s .holdRelease (s.changeHold f fun h => { h with supv := false })
  | dischargeTake (n : Nat) : Change p s .dischargeTake { s with log := s.log.drop n, logOverrun := false }
  | requeue (id : SlabId) (last : LastKnown) (hrun : s.mode = .run) (hplace : s.place? id = some (.doubtful last))
      (hroom : s.sequence.length < 64) : Change p s .slabResolve (s.requeue id)
  | toLaneTail (id : SlabId) (last : LastKnown) (hrun : s.mode = .run) (hplace : s.place? id = some (.doubtful last))
      (hcredit : s.creditsFree ≠ 0) : Change p s .slabResolve ((s.resolveTo id .onLane).joinLaneTail id)
  | remove (id : SlabId) (last : LastKnown) (hrun : s.mode = .run) (hplace : s.place? id = some (.doubtful last)) :
      Change p s .slabResolve (s.freeSlab id)
  | place (id : SlabId) (last : LastKnown) (q : Placing) (f : Furnace) (hrun : s.mode = .run)
      (hplace : s.place? id = some (.doubtful last)) (hpass : s.placeChecks id q = .ok f) (hres : q.residence ≤ 65535) :
      Change p s .slabResolve (s.placeRow f (q.slabs id).1 (q.slabs id).2 q)
  | removeRow (f : Furnace) (id : SlabId) (row : Row) (hrun : s.mode = .run) (hrow : s.rowInFurnace f id = .ok row)
      (hidle : (s.furnace f).op.isCharging = false) : Change p s .rowRemove (s.removeRow f row)
  | mapWalk (f : Furnace) (n : Nat) (hrun : s.mode = .run) : Change p s .mapWalk (s.walk f n .p0)
  | shiftRow (f : Furnace) (id : SlabId) (rear : Nat) (hrun : s.mode = .run) : Change p s .rowShift (s.shiftRow f id rear)
  | confirmFurnace (f : Furnace) (hrun : s.mode = .run) :
      Change p s .confirmFurnace (s.updateFurnace f fun m => { m with doubt := false })
  | confirmLane (hrun : s.mode = .run) : Change p s .confirmLane { s with laneDoubt := false }
  | faultClear (b : BankId) : Change p s .faultClear (s.updateBank b Bank.cleared)
  | thresholdSet (b : BankId) (start : Nat) (on : Bool) (hstart : start ≤ 4095) :
      Change p s .thresholdSet (s.updateBank b fun x => { x with counter := start, counting := on, thresholdFlag := false })
  | advisoryEnable (b : BankId) (on : Bool) : Change p s .advisoryEnable (s.updateBank b fun x => { x with advisoryEnable := on })
  | paramWrite (q : ParamId) (v : Nat) (hpass : s.writeRefusal q (q.clamp v) = none) :
      Change p s .paramWrite (s.writeParam q (q.clamp v))
  | start (hconfig : s.mode = .config) : Change p s .start { s with mode := .run }
  | restart : Change p s .restart s.restart
  | clearAll : Change p s .clearAll s.clearAll
  | resetRecordClear : Change p s .resetRecordClear { s with resetRecord := ⟨false, false, false⟩ }
  | admissionStall (k : Crane) (id : SlabId) (hk : portCrane p = some k) :
      Change p s .permitAsk (s.logFault .sequence .admissionStall (some id) (some (cranePort k)))
  | grant (k : Crane) (r : SlabRecord) (hk : portCrane p = some k) (hfirst : s.firstListed.bind s.slab? = some r)
      (hcredit : s.creditsFree ≠ 0) : Change p s .permitAsk (s.grantPermit k r.id)
  | permitReturn (k : Crane) (id : SlabId) (hk : portCrane p = some k) (hpermit : s.permitOf k = some id) :
      Change p s .permitReturn ((s.undoPermit k id).logFault .sequence .permitReturned (some id) (some (cranePort k)))
  | lift (k : Crane) (id : SlabId) (hk : portCrane p = some k) (hcustody : (s.crane k).custody = none)
      (hpermit : s.permitOf k = some id) : Change p s .liftReport (s.takeLift k id)
  | lateLift (k : Crane) (id : SlabId) (hk : portCrane p = some k) (hcustody : (s.crane k).custody = none)
      (hplace : s.place? id = some .listed) (hcredit : s.creditsFree ≠ 0) : Change p s .liftReport (s.lateLift k id)
  | lateLiftDoubt (k : Crane) (id : SlabId) (hk : portCrane p = some k) (hplace : s.place? id = some .listed) :
      Change p s .liftReport (s.lateLiftDoubt k id)
  | setdown (k : Crane) (id : SlabId) (hk : portCrane p = some k) (hcustody : (s.crane k).custody = some id)
      (hhead : s.sequence.head? = some id) : Change p s .setdownAsk { s with reservation := some ⟨k, id⟩ }
  | depositInTurn (k : Crane) (id : SlabId) (hk : portCrane p = some k) (hcustody : (s.crane k).custody = some id)
      (hhead : s.sequence.head? = some id) : Change p s .depositReport (s.depositInTurn k id)
  | depositOutOfTurn (k : Crane) (id : SlabId) (hk : portCrane p = some k) (hcustody : (s.crane k).custody = some id)
      (hhead : s.sequence.head? ≠ some id) : Change p s .depositReport (s.depositOutOfTurn k id)
  | setAside (k : Crane) (id : SlabId) (hk : portCrane p = some k) (hcustody : (s.crane k).custody = some id) :
      Change p s .setAsideReport (s.setAside k id)
  | chargeBegin (f : Furnace) (q : Plan) (hf : portFurnace p = some f) (hpass : s.chargeChecks f = .ok q) (hfit : q.fit = .fits) :
      Change p s .chargeBegin (s.beginCharge f q)
  | lateEnd (f : Furnace) (k : Kind) (hf : portFurnace p = some f) (hk : k = .chargeEnd ∨ k = .chargeAbort) :
      Change p s k (s.logFurnace f .lateEnd none (some (furnacePort f)))
  | chargeEnd (f : Furnace) (a : SlabId) (b : Option SlabId) (width planned : Nat) (hf : portFurnace p = some f)
      (hop : (s.furnace f).op = .charging a b width planned) : Change p s .chargeEnd (s.endCharge f a b width)
  | returned (f : Furnace) (a : SlabId) (b : Option SlabId) (width planned : Nat) (hf : portFurnace p = some f)
      (hop : (s.furnace f).op = .charging a b width planned) : Change p s .chargeAbort (s.returnCharge f a b)
  | stuck (f : Furnace) (a : SlabId) (b : Option SlabId) (width planned : Nat) (hf : portFurnace p = some f)
      (hop : (s.furnace f).op = .charging a b width planned) :
      Change p s .chargeAbort (s.giveUpCharge f a b false .chargeStuck (some (furnacePort f)))
  | walkReport (f : Furnace) (n : Nat) (hf : portFurnace p = some f) :
      Change p s .walkReport ((s.walk f n (furnacePort f)).walkDuringCharge f)
  | dischargeEmpty (f : Furnace) (hf : portFurnace p = some f) :
      Change p s .dischargeReport (s.logFurnace f .dischargeEmpty none (some (furnacePort f)))
  | dischargeMismatch (f : Furnace) (id : SlabId) (hf : portFurnace p = some f) :
      Change p s .dischargeReport (s.doubtFurnace f .dischargeMismatch (some id) (some (furnacePort f)))
  | discharge (f : Furnace) (r : Row) (hf : portFurnace p = some f) (hr : (s.furnace f).rows.getLast? = some r) :
      Change p s .dischargeReport (s.dischargeFront f r)

/-- The state in which the rule of a request leaves the part: a change, with or without the notices that it raises. -/
inductive RuleResult (p : Port) (s : State) (k : Kind) : State → Prop
  | plain {u : State} (h : Change p s k u) : RuleResult p s k u
  | settled {u : State} (h : Change p s k u) : RuleResult p s k (settle s u)

theorem RuleResult.same {p : Port} {s : State} {k : Kind} : RuleResult p s k s := .plain (.kept k)

section Rules

variable (p : Port) (body : List Byte) (s : State)

/-! ### Every port, and the maps (chapters 6, 9) -/

theorem result_of_ruleHello : RuleResult p s .hello (ruleHello p body s).1 := by
  unfold ruleHello
  split
  · exact .same
  · exact .plain .hello

theorem result_of_ruleStatus : RuleResult p s .status (ruleStatus p body s).1 := by
  unfold ruleStatus
  split <;> exact .same

theorem result_of_ruleNoticeRead : RuleResult p s .noticeRead (ruleNoticeRead p body s).1 := by
  unfold ruleNoticeRead
  split <;> exact .same

theorem result_of_ruleNoticeClear : RuleResult p s .noticeClear (ruleNoticeClear p body s).1 := by
  unfold ruleNoticeClear
  dsimp only
  split
  · exact .same
  · exact .plain (.noticeClear _)

theorem result_of_ruleNoticeMask : RuleResult p s .noticeMask (ruleNoticeMask p body s).1 := by
  unfold ruleNoticeMask
  dsimp only
  split
  · exact .same
  · next h =>
    obtain ⟨-, hkinds⟩ := not_or.mp (mt Bool.or_eq_true_iff.mpr h)
    exact .plain (.noticeMask _ (by simpa using hkinds))

theorem result_of_rulePark : RuleResult p s .park (rulePark p body s).1 := by
  unfold rulePark
  split
  · exact .same
  · cases h : s.parkRefusal p with
    | some e => exact .same
    | none => exact .settled (.park h)

theorem result_of_ruleMapRead : RuleResult p s .mapRead (ruleMapRead p body s).1 := by
  unfold ruleMapRead
  dsimp only
  split
  · exact .same
  · split
    · exact .same
    · split
      · exact .same
      · split <;> exact .same

/-! ### The register and the sequence (chapters 1 and 2) -/

theorem run_of_not_config {s : State} (h : ¬s.mode = .config) : s.mode = .run := by
  cases hm : s.mode with
  | run => rfl
  | config => exact absurd hm h

theorem result_of_ruleSlabAnnounce : RuleResult p s .slabAnnounce (ruleSlabAnnounce body s).1 := by
  unfold ruleSlabAnnounce
  split
  · exact .same
  · next hrun =>
    split
    · exact .same
    · cases h : s.announceChecks (announcementOf body) with
      | error e => exact .same
      | ok ri => exact .settled (.announce _ _ _ (run_of_not_config hrun) h)

theorem result_of_ruleSlabRead : RuleResult p s .slabRead (ruleSlabRead body s).1 := by
  unfold ruleSlabRead
  split
  · exact .same
  · split <;> exact .same

theorem result_of_ruleSeqMove : RuleResult p s .seqMove (ruleSeqMove body s).1 := by
  unfold ruleSeqMove
  dsimp only
  split
  · exact .same
  · next hrun =>
    split
    · exact .same
    · cases h : s.moveRefusal (field body 0 4) (field body 4 4) with
      | some e => exact .same
      | none => exact .settled (.move _ _ (run_of_not_config hrun) h)

theorem result_of_ruleSeqWithdraw : RuleResult p s .seqWithdraw (ruleSeqWithdraw body s).1 := by
  unfold ruleSeqWithdraw
  split
  · exact .same
  · next hrun =>
    split
    · exact .same
    · cases hr : s.slab? (field body 0 4) with
      | none => exact .same
      | some r =>
        rw [← State.slab?_id hr] at hr
        cases hplace : r.place with
        | listed => simp only [hplace]; exact .settled (.withdrawListed r (run_of_not_config hrun) hr hplace)
        | permitted k => simp only [hplace]; exact .settled (.withdrawPermitted r k (run_of_not_config hrun) hr hplace)
        | _ => simp only [hplace]; exact .same

theorem result_of_ruleSeqRead : RuleResult p s .seqRead (ruleSeqRead body s).1 := by
  unfold ruleSeqRead
  dsimp only
  split <;> exact .same

theorem result_of_ruleLaneRead : RuleResult p s .laneRead (ruleLaneRead body s).1 := by
  unfold ruleLaneRead
  split <;> exact .same

/-! ### The cranes and the lane (chapters 3 and 4) -/

theorem result_of_rulePermitAsk {p : Port} {k : Crane} (hk : portCrane p = some k) :
    RuleResult p s .permitAsk (rulePermitAsk body k s).1 := by
  unfold rulePermitAsk
  split
  · exact .same
  · split
    · exact .same
    · cases hfirst : s.firstListed.bind s.slab? with
      | none => exact .same
      | some r =>
        dsimp only
        split
        · exact .same
        · next hcredit =>
          split
          · exact .plain (.admissionStall k r.id hk)
          · exact .settled (.grant k r hk hfirst hcredit)

theorem result_of_rulePermitReturn {p : Port} {k : Crane} (hk : portCrane p = some k) :
    RuleResult p s .permitReturn (rulePermitReturn body k s).1 := by
  unfold rulePermitReturn
  split
  · exact .same
  · split
    · exact .same
    · cases hpermit : s.permitOf k with
      | none => exact .same
      | some id =>
        dsimp only
        split
        · exact .same
        · exact .settled (.permitReturn k id hk hpermit)

theorem result_of_lateReport {p : Port} {k : Crane} (hk : portCrane p = some k) (hcustody : (s.crane k).custody = none)
    (id : SlabId) : RuleResult p s .liftReport (lateReport k id s).1 := by
  unfold lateReport
  cases hplace : s.place? id with
  | none => exact .same
  | some pl =>
    cases pl with
    | listed =>
      dsimp only
      split
      · next h => exact .settled (.lateLift k id hk hcustody hplace h.2)
      · exact .settled (.lateLiftDoubt k id hk hplace)
    | _ => exact .same

theorem result_of_ruleLiftReport {p : Port} {k : Crane} (hk : portCrane p = some k) :
    RuleResult p s .liftReport (ruleLiftReport body k s).1 := by
  unfold ruleLiftReport
  split
  · exact .same
  · split
    · exact .same
    · next hcustody =>
      have hnone : (s.crane k).custody = none := by simpa using hcustody
      cases hpermit : s.permitOf k with
      | none => exact result_of_lateReport s hk hnone _
      | some id =>
        dsimp only
        split
        · exact .same
        · exact .settled (.lift k id hk hnone hpermit)

theorem result_of_ruleSetdownAsk {p : Port} {k : Crane} (hk : portCrane p = some k) :
    RuleResult p s .setdownAsk (ruleSetdownAsk body k s).1 := by
  unfold ruleSetdownAsk
  dsimp only
  split
  · exact .same
  · split
    · exact .same
    · next hcustody =>
      split
      · exact .same
      · split
        · exact .same
        · next hhead => exact .plain (.setdown k _ hk (not_not.mp hcustody) (not_not.mp hhead))

/-- R75: a deposit or a set-aside that is not refused names the slab in custody. -/
theorem custody_of_not_refused {s : State} {k : Crane} {body : List Byte} (h : s.depositRefusal k body = none) :
    (s.crane k).custody = some (field body 0 4) := by
  unfold State.depositRefusal at h
  split at h
  · cases h
  · split at h
    · cases h
    · next hcustody =>
      split at h
      · next heq => rw [hcustody, heq]
      · cases h

theorem result_of_ruleDepositReport {p : Port} {k : Crane} (hk : portCrane p = some k) :
    RuleResult p s .depositReport (ruleDepositReport body k s).1 := by
  unfold ruleDepositReport
  cases hrefusal : s.depositRefusal k body with
  | some e => exact .same
  | none =>
    have hcustody := custody_of_not_refused hrefusal
    dsimp only
    split
    · next hhead => exact .settled (.depositInTurn k _ hk hcustody hhead)
    · next hhead => exact .settled (.depositOutOfTurn k _ hk hcustody hhead)

theorem result_of_ruleSetAsideReport {p : Port} {k : Crane} (hk : portCrane p = some k) :
    RuleResult p s .setAsideReport (ruleSetAsideReport body k s).1 := by
  unfold ruleSetAsideReport
  cases hrefusal : s.depositRefusal k body with
  | some e => exact .same
  | none => exact .settled (.setAside k _ hk (custody_of_not_refused hrefusal))

/-! ### Charges (chapter 7) -/

theorem result_of_ruleChargeAsk (f : Furnace) : RuleResult p s .chargeAsk (ruleChargeAsk body f s).1 := by
  unfold ruleChargeAsk
  split
  · exact .same
  · split
    · exact .same
    · split <;> exact .same

theorem fits_of_fitWait {q : Plan} (h : q.fitWait = none) : q.fit = .fits := by
  unfold Plan.fitWait at h
  split at h
  · assumption
  · cases h
  · cases h

theorem result_of_ruleChargeBegin {p : Port} {f : Furnace} (hf : portFurnace p = some f) :
    RuleResult p s .chargeBegin (ruleChargeBegin body f s).1 := by
  unfold ruleChargeBegin
  dsimp only
  split
  · exact .same
  · cases hpass : s.chargeChecks f with
    | error w => exact .same
    | ok q =>
      dsimp only
      split
      · exact .same
      · cases hfit : q.fitWait with
        | some w => exact .same
        | none =>
          dsimp only
          split
          · exact .same
          · exact .settled (.chargeBegin f q hf hpass (fits_of_fitWait hfit))

theorem result_of_lateEnd {p : Port} {f : Furnace} (hf : portFurnace p = some f) {k : Kind}
    (hk : k = .chargeEnd ∨ k = .chargeAbort) (timedOut : Bool) : RuleResult p s k (lateEnd f timedOut s).1 := by
  unfold lateEnd
  split
  · exact .plain (.lateEnd f k hf hk)
  · exact .same

theorem result_of_ruleChargeEnd {p : Port} {f : Furnace} (hf : portFurnace p = some f) :
    RuleResult p s .chargeEnd (ruleChargeEnd body f s).1 := by
  unfold ruleChargeEnd
  split
  · exact .same
  · cases hop : (s.furnace f).op with
    | idle timedOut => exact result_of_lateEnd s hf (.inl rfl) timedOut
    | charging a b width planned => exact .settled (.chargeEnd f a b width planned hf hop)

theorem result_of_abortReturned {p : Port} {f : Furnace} (hf : portFurnace p = some f) :
    RuleResult p s .chargeAbort (abortReturned f s).1 := by
  unfold abortReturned
  cases hop : (s.furnace f).op with
  | idle timedOut => exact result_of_lateEnd s hf (.inr rfl) timedOut
  | charging a b width planned => exact .plain (.returned f a b width planned hf hop)

theorem result_of_abortStuck {p : Port} {f : Furnace} (hf : portFurnace p = some f) :
    RuleResult p s .chargeAbort (abortStuck f s).1 := by
  unfold abortStuck
  cases hop : (s.furnace f).op with
  | idle timedOut => exact result_of_lateEnd s hf (.inr rfl) timedOut
  | charging a b width planned => exact .settled (.stuck f a b width planned hf hop)

theorem result_of_ruleChargeAbort {p : Port} {f : Furnace} (hf : portFurnace p = some f) :
    RuleResult p s .chargeAbort (ruleChargeAbort body f s).1 := by
  unfold ruleChargeAbort
  split
  · exact .same
  · split
    · exact result_of_abortReturned s hf
    · exact result_of_abortStuck s hf
    · exact .same

/-! ### The furnaces (chapter 6) -/

theorem result_of_ruleWalkReport {p : Port} {f : Furnace} (hf : portFurnace p = some f) :
    RuleResult p s .walkReport (ruleWalkReport body f s).1 := by
  unfold ruleWalkReport
  dsimp only
  split
  · exact .same
  · exact .settled (.walkReport f _ hf)

theorem result_of_ruleDischargeAsk (f : Furnace) : RuleResult p s .dischargeAsk (ruleDischargeAsk body f s).1 := by
  unfold ruleDischargeAsk
  split <;> exact .same

theorem result_of_ruleDischargeReport {p : Port} {f : Furnace} (hf : portFurnace p = some f) :
    RuleResult p s .dischargeReport (ruleDischargeReport body f s).1 := by
  unfold ruleDischargeReport
  dsimp only
  split
  · exact .same
  · cases hr : (s.furnace f).rows.getLast? with
    | none => exact .plain (.dischargeEmpty f hf)
    | some r =>
      dsimp only
      split
      · exact .settled (.dischargeMismatch f _ hf)
      · exact .settled (.discharge f r hf hr)

theorem result_of_ruleHoldSet : RuleResult p s .holdSet (ruleHoldSet body s).1 := by
  unfold ruleHoldSet holdRequest
  split
  · exact .same
  · split
    · exact .same
    · next f _ =>
      split
      · exact .same
      · next hrun => exact .settled (.holdSet f (run_of_not_config hrun))

theorem result_of_ruleHoldRelease : RuleResult p s .holdRelease (ruleHoldRelease body s).1 := by
  unfold ruleHoldRelease holdRequest
  split
  · exact .same
  · split
    · exact .same
    · next f _ =>
      split
      · exact .same
      · next hrun => exact .settled (.holdRelease f (run_of_not_config hrun))

theorem result_of_ruleDischargeTake : RuleResult p s .dischargeTake (ruleDischargeTake body s).1 := by
  unfold ruleDischargeTake
  dsimp only
  split
  · exact .same
  · exact .plain (.dischargeTake _)

/-! ### Tracking doubt (chapter 8) -/

theorem result_of_ruleDoubtList : RuleResult p s .doubtList (ruleDoubtList body s).1 := by
  unfold ruleDoubtList
  dsimp only
  split <;> exact .same

/-- A field of two bytes stays below 65,536 (R168). -/
theorem field_two_le (body : List Byte) (off : Nat) : field body off 2 ≤ 65535 := by
  have hlen : ((body.drop off).take 2).length ≤ 2 := List.length_take_le _ _
  unfold field beNat
  generalize (body.drop off).take 2 = l at hlen
  match l, hlen with
  | [], _ => simp
  | [a], _ => have := a.isLt; simp only [List.foldl_cons, List.foldl_nil]; omega
  | [a, b], _ => have := a.isLt; have := b.isLt; simp only [List.foldl_cons, List.foldl_nil]; omega

theorem result_of_ruleSlabResolve : RuleResult p s .slabResolve (ruleSlabResolve body s).1 := by
  unfold ruleSlabResolve
  dsimp only
  split
  · exact .same
  · next hconfig =>
    have hrun := run_of_not_config hconfig
    split
    · exact .same
    · cases hplace : s.place? (field body 0 4) with
      | none => exact .same
      | some pl =>
        cases pl with
        | doubtful last =>
          simp only [Place.isDoubtful, Bool.not_true, Bool.false_eq_true, if_false]
          split
          · unfold resolveRequeue
            split
            · exact .same
            · next hroom => exact .settled (.requeue _ last hrun hplace (Nat.lt_of_not_le hroom))
          · unfold resolveToLaneTail
            split
            · exact .same
            · next hcredit => exact .settled (.toLaneTail _ last hrun hplace hcredit)
          · exact .settled (.remove _ last hrun hplace)
          · unfold resolvePlace
            dsimp only
            cases hpass : s.placeChecks (field body 0 4) (placingOf body) with
            | error e => exact .same
            | ok f => exact .settled (.place _ last _ f hrun hplace hpass (field_two_le body 8))
        | _ => exact .same

theorem result_of_ruleRowRemove : RuleResult p s .rowRemove (ruleRowRemove body s).1 := by
  unfold ruleRowRemove
  split
  · exact .same
  · next hconfig =>
    split
    · exact .same
    · split
      · exact .same
      · next f _ =>
        cases hrow : s.rowInFurnace f (field body 1 4) with
        | error e => exact .same
        | ok row =>
          dsimp only
          split
          · exact .same
          · next hidle => exact .settled (.removeRow f _ row (run_of_not_config hconfig) hrow (by simpa using hidle))

theorem result_of_ruleMapWalk : RuleResult p s .mapWalk (ruleMapWalk body s).1 := by
  unfold ruleMapWalk
  dsimp only
  split
  · exact .same
  · next hconfig =>
    split
    · exact .same
    · split
      · exact .same
      · exact .settled (.mapWalk _ _ (run_of_not_config hconfig))

theorem result_of_ruleRowShift : RuleResult p s .rowShift (ruleRowShift body s).1 := by
  unfold ruleRowShift
  dsimp only
  split
  · exact .same
  · next hconfig =>
    split
    · exact .same
    · split
      · exact .same
      · split
        · exact .same
        · split
          · exact .same
          · split
            · exact .same
            · exact .plain (.shiftRow _ _ _ (run_of_not_config hconfig))

theorem result_of_ruleConfirmFurnace : RuleResult p s .confirmFurnace (ruleConfirmFurnace body s).1 := by
  unfold ruleConfirmFurnace
  split
  · exact .same
  · next hconfig =>
    split
    · exact .same
    · split
      · exact .same
      · split
        · exact .same
        · exact .settled (.confirmFurnace _ (run_of_not_config hconfig))

theorem result_of_ruleConfirmLane : RuleResult p s .confirmLane (ruleConfirmLane body s).1 := by
  unfold ruleConfirmLane
  split
  · exact .same
  · next hconfig =>
    split
    · exact .same
    · exact .settled (.confirmLane (run_of_not_config hconfig))

theorem result_of_ruleFaultRead : RuleResult p s .faultRead (ruleFaultRead body s).1 := by
  unfold ruleFaultRead
  split <;> exact .same

theorem result_of_ruleFaultClear : RuleResult p s .faultClear (ruleFaultClear body s).1 := by
  unfold ruleFaultClear
  split
  · exact .same
  · exact .plain (.faultClear _)

theorem result_of_ruleThresholdSet : RuleResult p s .thresholdSet (ruleThresholdSet body s).1 := by
  unfold ruleThresholdSet
  dsimp only
  split
  · exact .same
  · next h =>
    have hstart : field body 1 2 ≤ 4095 := by
      refine Nat.le_of_not_lt fun hlt => h ?_
      simp only [Config.maxCounter, hlt, decide_true, Bool.or_true, Bool.true_or]
    split
    · exact .same
    · exact .plain (.thresholdSet _ _ _ hstart)

theorem result_of_ruleAdvisoryEnable : RuleResult p s .advisoryEnable (ruleAdvisoryEnable body s).1 := by
  unfold ruleAdvisoryEnable
  dsimp only
  split
  · exact .same
  · split
    · exact .same
    · exact .plain (.advisoryEnable _ _)

/-! ### Parameters, mode and reset record (chapter 10) -/

theorem result_of_ruleParamRead : RuleResult p s .paramRead (ruleParamRead body s).1 := by
  unfold ruleParamRead
  split
  · exact .same
  · split <;> exact .same

theorem result_of_ruleParamWrite : RuleResult p s .paramWrite (ruleParamWrite body s).1 := by
  unfold ruleParamWrite
  dsimp only
  split
  · exact .same
  · split
    · exact .same
    · next q _ =>
      cases hpass : s.writeRefusal q (q.clamp (field body 2 4)) with
      | some e => exact .same
      | none => exact .settled (.paramWrite q _ hpass)

theorem result_of_ruleStart : RuleResult p s .start (ruleStart body s).1 := by
  unfold ruleStart
  split
  · exact .same
  · split
    · exact .same
    · next hrun =>
      have hconfig : s.mode = .config := by
        cases hm : s.mode with
        | config => rfl
        | run => exact absurd hm hrun
      split
      · exact .same
      · exact .plain (.start hconfig)

theorem result_of_ruleRestart : RuleResult p s .restart (ruleRestart body s).1 := by
  unfold ruleRestart
  split
  · exact .same
  · exact .plain .restart

theorem result_of_ruleClearAll : RuleResult p s .clearAll (ruleClearAll body s).1 := by
  unfold ruleClearAll
  split
  · exact .same
  · split
    · exact .same
    · exact .plain .clearAll

theorem result_of_ruleResetRecordClear : RuleResult p s .resetRecordClear (ruleResetRecordClear body s).1 := by
  unfold ruleResetRecordClear
  split
  · exact .same
  · exact .plain .resetRecordClear

end Rules

/-! ### The rule of a kind that the role allows -/

theorem crane_of_role {p : Port} (h : portRole p = .crane) : ∃ k, p = cranePort k ∧ portCrane p = some k := by
  cases p with
  | p1 => exact ⟨.c1, rfl, rfl⟩
  | p2 => exact ⟨.c2, rfl, rfl⟩
  | _ => cases h

theorem furnace_of_role {p : Port} (h : portRole p = .furnace) : ∃ f, p = furnacePort f ∧ portFurnace p = some f := by
  cases p with
  | p3 => exact ⟨.f1, rfl, rfl⟩
  | p4 => exact ⟨.f2, rfl, rfl⟩
  | p5 => exact ⟨.f3, rfl, rfl⟩
  | _ => cases h

theorem result_of_forCrane {p : Port} {k : Kind} {rule : Crane → State → State × Response} {s : State}
    (hrole : portRole p = .crane) (h : ∀ j, portCrane p = some j → RuleResult p s k (rule j s).1) :
    RuleResult p s k (forCrane p rule s).1 := by
  obtain ⟨j, rfl, hj⟩ := crane_of_role hrole
  rw [forCrane_cranePort]
  exact h j hj

theorem result_of_forFurnace {p : Port} {k : Kind} {rule : Furnace → State → State × Response} {s : State}
    (hrole : portRole p = .furnace) (h : ∀ f, portFurnace p = some f → RuleResult p s k (rule f s).1) :
    RuleResult p s k (forFurnace p rule s).1 := by
  obtain ⟨f, rfl, hf⟩ := furnace_of_role hrole
  rw [forFurnace_furnacePort]
  exact h f hf

/-- What the rule of a kind that the role of the port allows does is one of the changes. -/
theorem result_of_ruleOf (p : Port) (k : Kind) (body : List Byte) (s : State) (hrole : k.allowedTo (portRole p) = true) :
    RuleResult p s k (ruleOf p body k s).1 := by
  cases k with
  | hello => exact result_of_ruleHello p body s
  | status => exact result_of_ruleStatus p body s
  | noticeRead => exact result_of_ruleNoticeRead p body s
  | noticeClear => exact result_of_ruleNoticeClear p body s
  | noticeMask => exact result_of_ruleNoticeMask p body s
  | park => exact result_of_rulePark p body s
  | mapRead => exact result_of_ruleMapRead p body s
  | slabAnnounce => exact result_of_ruleSlabAnnounce p body s
  | slabRead => exact result_of_ruleSlabRead p body s
  | seqMove => exact result_of_ruleSeqMove p body s
  | seqWithdraw => exact result_of_ruleSeqWithdraw p body s
  | seqRead => exact result_of_ruleSeqRead p body s
  | laneRead => exact result_of_ruleLaneRead p body s
  | holdSet => exact result_of_ruleHoldSet p body s
  | holdRelease => exact result_of_ruleHoldRelease p body s
  | dischargeTake => exact result_of_ruleDischargeTake p body s
  | slabResolve => exact result_of_ruleSlabResolve p body s
  | doubtList => exact result_of_ruleDoubtList p body s
  | rowRemove => exact result_of_ruleRowRemove p body s
  | mapWalk => exact result_of_ruleMapWalk p body s
  | rowShift => exact result_of_ruleRowShift p body s
  | confirmFurnace => exact result_of_ruleConfirmFurnace p body s
  | confirmLane => exact result_of_ruleConfirmLane p body s
  | faultRead => exact result_of_ruleFaultRead p body s
  | faultClear => exact result_of_ruleFaultClear p body s
  | thresholdSet => exact result_of_ruleThresholdSet p body s
  | advisoryEnable => exact result_of_ruleAdvisoryEnable p body s
  | paramRead => exact result_of_ruleParamRead p body s
  | paramWrite => exact result_of_ruleParamWrite p body s
  | start => exact result_of_ruleStart p body s
  | restart => exact result_of_ruleRestart p body s
  | clearAll => exact result_of_ruleClearAll p body s
  | resetRecordClear => exact result_of_ruleResetRecordClear p body s
  | permitAsk => exact result_of_forCrane (beq_iff_eq.mp hrole) fun _ hk => result_of_rulePermitAsk body s hk
  | permitReturn => exact result_of_forCrane (beq_iff_eq.mp hrole) fun _ hk => result_of_rulePermitReturn body s hk
  | liftReport => exact result_of_forCrane (beq_iff_eq.mp hrole) fun _ hk => result_of_ruleLiftReport body s hk
  | setdownAsk => exact result_of_forCrane (beq_iff_eq.mp hrole) fun _ hk => result_of_ruleSetdownAsk body s hk
  | depositReport => exact result_of_forCrane (beq_iff_eq.mp hrole) fun _ hk => result_of_ruleDepositReport body s hk
  | setAsideReport => exact result_of_forCrane (beq_iff_eq.mp hrole) fun _ hk => result_of_ruleSetAsideReport body s hk
  | chargeAsk => exact result_of_forFurnace (beq_iff_eq.mp hrole) fun f _ => result_of_ruleChargeAsk p body s f
  | chargeBegin => exact result_of_forFurnace (beq_iff_eq.mp hrole) fun _ hf => result_of_ruleChargeBegin body s hf
  | chargeEnd => exact result_of_forFurnace (beq_iff_eq.mp hrole) fun _ hf => result_of_ruleChargeEnd body s hf
  | chargeAbort => exact result_of_forFurnace (beq_iff_eq.mp hrole) fun _ hf => result_of_ruleChargeAbort body s hf
  | walkReport => exact result_of_forFurnace (beq_iff_eq.mp hrole) fun _ hf => result_of_ruleWalkReport body s hf
  | dischargeAsk => exact result_of_forFurnace (beq_iff_eq.mp hrole) fun f _ => result_of_ruleDischargeAsk p body s f
  | dischargeReport => exact result_of_forFurnace (beq_iff_eq.mp hrole) fun _ hf => result_of_ruleDischargeReport body s hf

end Sys2Proof.Proofs

/-!
PROOFS. The setting in which the part works, its power, mode, parameters, clock and queue, and which changes leave it as it is.
-/

namespace Sys2Proof.Proofs

open Sys2Proof Sys2Proof.Machine

/-- The setting of the part: its power, store, mode, reset record, clock, parameters and queue. -/
structure Setting where
  powered : Bool
  storeWritten : Bool
  mode : Mode
  resetRecord : ResetRecord
  runningSeconds : Word32
  subSecond : Nat
  params : Params
  pending : List Instr

def setting (s : State) : Setting :=
  ⟨s.powered, s.storeWritten, s.mode, s.resetRecord, s.runningSeconds, s.subSecond, s.params, s.pending⟩

section Setting

variable {s t : State}

theorem params_of_setting (h : setting t = setting s) : t.params = s.params := congrArg Setting.params h
theorem mode_of_setting (h : setting t = setting s) : t.mode = s.mode := congrArg Setting.mode h
theorem powered_of_setting (h : setting t = setting s) : t.powered = s.powered := congrArg Setting.powered h
theorem pending_of_setting (h : setting t = setting s) : t.pending = s.pending := congrArg Setting.pending h

theorem present_of_params (h : t.params = s.params) (p : Port) : t.present p = s.present p := by
  cases p <;> simp only [State.present, h]

/-! ### The operations leave the setting -/

@[simp] theorem setting_updateCrane (s : State) (k : Crane) (g : CraneState → CraneState) :
    setting (s.updateCrane k g) = setting s := rfl
@[simp] theorem setting_updateFurnace (s : State) (f : Furnace) (g : FurnaceState → FurnaceState) :
    setting (s.updateFurnace f g) = setting s := rfl
@[simp] theorem setting_updatePort (s : State) (p : Port) (g : PortState → PortState) : setting (s.updatePort p g) = setting s := rfl
@[simp] theorem setting_updateBank (s : State) (b : BankId) (g : Bank → Bank) : setting (s.updateBank b g) = setting s := rfl
@[simp] theorem setting_updateSlab (s : State) (id : SlabId) (g : SlabRecord → SlabRecord) :
    setting (s.updateSlab id g) = setting s := rfl
@[simp] theorem setting_setPlace (s : State) (id : SlabId) (pl : Place) : setting (s.setPlace id pl) = setting s := rfl
@[simp] theorem setting_dissolvePair (s : State) (id : SlabId) : setting (s.dissolvePair id) = setting s := rfl
@[simp] theorem setting_formPair (s : State) (a b : SlabId) : setting (s.formPair a b) = setting s := rfl
@[simp] theorem setting_freeSlab (s : State) (id : SlabId) : setting (s.freeSlab id) = setting s := rfl
@[simp] theorem setting_makeDoubtful (s : State) (id : SlabId) (last : LastKnown) : setting (s.makeDoubtful id last) = setting s := rfl
@[simp] theorem setting_resolveTo (s : State) (id : SlabId) (pl : Place) : setting (s.resolveTo id pl) = setting s := rfl
@[simp] theorem setting_leaveSequence (s : State) (id : SlabId) : setting (s.leaveSequence id) = setting s := rfl
@[simp] theorem setting_joinSequence (s : State) (i : Nat) (id : SlabId) : setting (s.joinSequence i id) = setting s := rfl
@[simp] theorem setting_releaseReservation (s : State) (k : Crane) : setting (s.releaseReservation k) = setting s := rfl
@[simp] theorem setting_raiseWhen (s : State) (c : Bool) (p : Port) (bit : Byte) : setting (s.raiseWhen c p bit) = setting s := rfl
@[simp] theorem setting_raiseSupv (s : State) (n : SupvNotice) : setting (s.raiseSupv n) = setting s := rfl
@[simp] theorem setting_raiseCrane (s : State) (k : Crane) (n : CraneNotice) : setting (s.raiseCrane k n) = setting s := rfl
@[simp] theorem setting_endCustody (s : State) (k : Crane) : setting (s.endCustody k) = setting s := rfl
@[simp] theorem setting_beginCustody (s : State) (k : Crane) (id : SlabId) : setting (s.beginCustody k id) = setting s := rfl
@[simp] theorem setting_stopPermitTimer (s : State) (k : Crane) : setting (s.stopPermitTimer k) = setting s := rfl
@[simp] theorem setting_startPermitTimer (s : State) (k : Crane) : setting (s.startPermitTimer k) = setting s := rfl
@[simp] theorem setting_changeHold (s : State) (f : Furnace) (g : HoldSet → HoldSet) : setting (s.changeHold f g) = setting s := rfl
@[simp] theorem setting_respond (s : State) (p : Port) (r : Response) : setting (s.respond p r) = setting s := rfl
@[simp] theorem setting_settle (s t : State) : setting (settle s t) = setting t := by
  simp only [setting, settle_powered, settle_storeWritten, settle_mode, settle_resetRecord, settle_runningSeconds, settle_subSecond,
    settle_params, settle_pending]
@[simp] theorem setting_logFault (s : State) (b : BankId) (code : FaultCode) (slab : Option SlabId) (port : Option Port) :
    setting (s.logFault b code slab port) = setting s := by rw [State.logFault_eq]; rfl
@[simp] theorem setting_logFurnace (s : State) (f : Furnace) (code : FaultCode) (slab : Option SlabId) (port : Option Port) :
    setting (s.logFurnace f code slab port) = setting s := setting_logFault s _ code slab port
@[simp] theorem setting_doubtFurnace (s : State) (f : Furnace) (code : FaultCode) (slab : Option SlabId) (port : Option Port) :
    setting (s.doubtFurnace f code slab port) = setting s := by simp [State.doubtFurnace]
@[simp] theorem setting_soakCheck (s : State) (f : Furnace) : setting (s.soakCheck f) = setting s := by
  rw [State.soakCheck_eq]; rfl
@[simp] theorem setting_joinLaneTail (s : State) (id : SlabId) : setting (s.joinLaneTail id) = setting s := by
  rw [State.joinLaneTail_eq]; rfl

theorem setting_foldl {α : Type} {g : State → α → State} (hg : ∀ u x, setting (g u x) = setting u) (l : List α) (s : State) :
    setting (l.foldl g s) = setting s := by
  induction l generalizing s with
  | nil => rfl
  | cons x l ih => exact (ih (g s x)).trans (hg s x)

theorem setting_ite {c : Prop} [Decidable c] {a b : State} (ha : setting a = setting s) (hb : setting b = setting s) :
    setting (if c then a else b) = setting s := by
  split
  · exact ha
  · exact hb

theorem setting_makeDoubtfuls (place : SlabId × Side → LastKnown) (l : List (SlabId × Side)) (s : State) :
    setting (l.foldl (fun v x => v.makeDoubtful x.1 (place x)) s) = setting s := by
  refine setting_foldl (fun u x => ?_) l s
  exact setting_makeDoubtful u x.1 (place x)

theorem setting_setPlaces {α : Type} (id : α → SlabId) (place : α → Place) (l : List α) (s : State) :
    setting (l.foldl (fun v x => v.setPlace (id x) (place x)) s) = setting s :=
  setting_foldl (g := fun v x => v.setPlace (id x) (place x)) (fun u x => setting_setPlace u (id x) (place x)) l s

/-! ### The changes of the rules leave the setting -/

theorem setting_hello (s : State) (p : Port) : setting (s.hello p) = setting s := by
  have hgreet : ∀ u : State, setting (u.greet p) = setting u := fun u => by unfold State.greet; split <;> simp
  have hunpark : ∀ u : State, setting (u.unparkFurnace p) = setting u := fun u => by unfold State.unparkFurnace; split <;> simp
  simp [State.hello, hgreet, hunpark, State.openPort]

theorem setting_parkPort (s : State) (p : Port) : setting (s.parkPort p) = setting s := by
  unfold State.parkPort
  dsimp only
  split <;> simp

theorem setting_placeRow (s : State) (f : Furnace) (a : SlabId) (b : Option SlabId) (q : Placing) :
    setting (s.placeRow f a b q) = setting s := by
  have hresolved := fun u : State => setting_foldl (g := fun v x => v.resolveTo x.1 (.inFurnace f x.2))
    (fun v x => setting_resolveTo v x.1 (.inFurnace f x.2)) (slabsWithSides a b) u
  have hpair : ∀ u : State, setting (u.formRowPair a b) = setting u := fun u => by cases b <;> simp [State.formRowPair]
  unfold State.placeRow
  exact setting_ite (by simp [hpair, hresolved]) (by simp [hpair, hresolved])

theorem setting_removeRow (s : State) (f : Furnace) (row : Row) : setting (s.removeRow f row) = setting s := by
  have hdoubted := fun u : State => setting_makeDoubtfuls (fun x => .inFurnace f x.2) (slabsWithSides row.slabA row.slabB) u
  unfold State.removeRow
  rw [setting_raiseSupv]
  exact setting_ite (by simp [hdoubted]) (by simp [hdoubted])

theorem setting_walk (s : State) (f : Furnace) (n : Nat) (p : Port) : setting (s.walk f n p) = setting s := by
  unfold State.walk
  dsimp only
  split
  · rw [setting_doubtFurnace]
    exact setting_ite (by simp) (by simp)
  · exact setting_ite (by simp) (by simp)

theorem setting_walkDuringCharge (s : State) (f : Furnace) : setting (s.walkDuringCharge f) = setting s := by
  unfold State.walkDuringCharge
  split <;> simp

theorem setting_grantPermit (s : State) (k : Crane) (id : SlabId) : setting (s.grantPermit k id) = setting s := by
  unfold State.grantPermit State.pairingTest
  split <;> simp [State.markTested]

theorem setting_depositInTurn (s : State) (k : Crane) (id : SlabId) : setting (s.depositInTurn k id) = setting s := by
  simp only [State.depositInTurn, setting_joinLaneTail, setting_setPlace, setting_leaveSequence]
  exact setting_ite (by simp) (by simp)

theorem setting_dissolveHeadPair (s : State) : setting s.dissolveHeadPair = setting s := by
  unfold State.dissolveHeadPair
  split <;> simp

theorem setting_laneDoubt (s : State) (on : Bool) : setting { s with laneDoubt := on } = setting s := rfl

theorem setting_depositOutOfTurn (s : State) (k : Crane) (id : SlabId) : setting (s.depositOutOfTurn k id) = setting s := by
  rw [State.depositOutOfTurn, setting_raiseSupv, setting_logFault, setting_laneDoubt]
  simp [setting_dissolveHeadPair]

theorem setting_beginCharge (s : State) (f : Furnace) (q : Plan) : setting (s.beginCharge f q) = setting s := by
  rw [State.beginCharge, setting_updateFurnace, State.toEntry, setting_setPlaces Prod.fst fun x => .atEntry f x.2]
  rfl

theorem setting_entryOverlap (s : State) (f : Furnace) (row : Row) (older : Option Row) :
    setting (s.entryOverlap f row older) = setting s := by
  unfold State.entryOverlap
  split
  · exact setting_ite (setting_doubtFurnace s f _ _ _) rfl
  · rfl

theorem setting_endCharge (s : State) (f : Furnace) (a : SlabId) (b : Option SlabId) (width : Nat) :
    setting (s.endCharge f a b width) = setting s := by
  have hinside : setting ((s.endOperation f false).toFurnace f a b) = setting s :=
    setting_setPlaces Prod.fst (fun x => .inFurnace f x.2) (slabsWithSides a b) (s.endOperation f false)
  rw [State.endCharge, setting_entryOverlap]
  exact setting_ite (by simp [hinside]) (by simp [hinside])

theorem setting_returnCharge (s : State) (f : Furnace) (a : SlabId) (b : Option SlabId) :
    setting (s.returnCharge f a b) = setting s :=
  setting_setPlaces (fun x => x) (fun _ => .onLane) (a :: b.toList) _

theorem setting_giveUpCharge (s : State) (f : Furnace) (a : SlabId) (b : Option SlabId) (timedOut : Bool) (code : FaultCode)
    (port : Option Port) : setting (s.giveUpCharge f a b timedOut code port) = setting s := by
  rw [State.giveUpCharge, setting_doubtFurnace, State.endOperation, setting_updateFurnace,
    setting_makeDoubtfuls fun x => .atEntry f x.2]

theorem setting_dischargeSlab (s : State) (f : Furnace) (r : Row) (x : SlabId × Side) :
    setting (s.dischargeSlab f r x) = setting s := by
  have hroom : setting (s.makeRoom f) = setting s := setting_ite (by rw [setting_logFurnace]; rfl) rfl
  rw [State.dischargeSlab, setting_freeSlab, State.pushDischarge, setting_raiseWhen]
  exact hroom

theorem setting_dischargeFront (s : State) (f : Furnace) (r : Row) : setting (s.dischargeFront f r) = setting s := by
  rw [State.dischargeFront, setting_soakCheck, setting_foldl fun u x => setting_dischargeSlab u f r x]
  exact setting_ite (by simp) (by simp)

/-! ### The events of the timers and of recovery leave the setting -/

theorem setting_recover (s : State) : setting s.recover = setting s := by
  have hpermits : setting s.recoverPermits = setting s := by
    refine setting_foldl (fun u x => ?_) _ s
    split <;> simp
  have hcustody : ∀ u : State, setting u.recoverCustody = setting u := fun u => by
    refine setting_foldl (fun u x => ?_) _ u
    split <;> simp
  have hentry : ∀ (u : State) (f : Furnace), setting (u.recoverEntry f) = setting u := fun u f => by
    unfold State.recoverEntry
    rw [setting_updateFurnace]
    split
    · exact setting_makeDoubtfuls (fun x => .atEntry f x.2) _ u
    · rfl
  have hdoubt : ∀ (u : State) (f : Furnace), setting (u.recoverDoubt f) = setting u := fun u f => by
    unfold State.recoverDoubt
    exact setting_ite rfl (by simp)
  rw [State.recover, hdoubt, hdoubt, hdoubt, setting_logFault, setting_laneDoubt, hentry, hentry, hentry, hcustody, hpermits]

theorem setting_lapsePermit (s : State) (k : Crane) (id : SlabId) (notify : Bool) :
    setting (s.lapsePermit k id notify) = setting s := by
  simp [State.lapsePermit, State.undoPermit]

theorem setting_permitExpiry (s : State) (k : Crane) : setting (s.permitExpiry k) = setting s := by
  unfold State.permitExpiry
  split
  · rw [setting_settle, setting_lapsePermit]
  · rfl

theorem setting_custodyExpiry (s : State) (k : Crane) : setting (s.custodyExpiry k) = setting s := by
  unfold State.custodyExpiry
  split
  · simp [State.overdue]
  · rfl

theorem setting_chargeExpiry (s : State) (f : Furnace) : setting (s.chargeExpiry f) = setting s := by
  unfold State.chargeExpiry
  split
  · rw [setting_settle, setting_giveUpCharge]
  · rfl

theorem setting_custodyLost (s : State) (k : Crane) (id : SlabId) : setting (s.custodyLost k id) = setting s := by
  simp [State.custodyLost]

theorem setting_craneLost (s : State) (k : Crane) : setting (s.craneLost k) = setting s := by
  unfold State.craneLost
  dsimp only
  split
  · rw [setting_custodyLost]
    split
    · exact setting_lapsePermit s k _ false
    · rfl
  · split
    · exact setting_lapsePermit s k _ false
    · rfl

theorem setting_silenceExpiry (s : State) (p : Port) : setting (s.silenceExpiry p) = setting s := by
  have hrole : ∀ u : State, setting (u.roleLoss p) = setting u := fun u => by
    unfold State.roleLoss
    split
    · exact setting_craneLost u _
    · exact setting_ite (by simp) rfl
    · rfl
  exact setting_ite (by rw [setting_settle, State.losePort, hrole]; simp) rfl

theorem setting_advanceSeconds (s : State) :
    setting s.advanceSeconds = { setting s with runningSeconds := s.runningSeconds + 1 } := by
  simp only [State.advanceSeconds, State.ageMap, setting_soakCheck, setting_updateFurnace]
  rfl

theorem setting_of_linkLogged {p : Port} {u : State} (hu : LinkLogged s p u) : setting u = setting s := by
  rcases hu with rfl | ⟨code, rfl⟩
  · rfl
  · exact setting_logFault s _ _ _ _

/-- The kinds whose rules change the setting, all of the SUPV role. -/
def Kind.changesSetting (k : Kind) : Prop :=
  k = .paramWrite ∨ k = .start ∨ k = .restart ∨ k = .clearAll ∨ k = .resetRecordClear

/-- A change of any other kind leaves the setting. -/
theorem setting_of_change {p : Port} {k : Kind} (hc : Change p s k t) : setting t = setting s ∨ Kind.changesSetting k := by
  cases hc with
  | paramWrite | start | restart | clearAll | resetRecordClear => exact .inr (by simp [Kind.changesSetting])
  | hello => exact .inl (setting_hello s p)
  | park => exact .inl (setting_parkPort s p)
  | announce => exact .inl rfl
  | withdrawListed => exact .inl (by simp [State.withdrawListed])
  | withdrawPermitted => exact .inl (by simp [State.withdrawPermitted, State.withdrawListed])
  | requeue => exact .inl (by simp [State.requeue])
  | toLaneTail => exact .inl (by simp)
  | place => exact .inl (setting_placeRow s _ _ _ _)
  | removeRow => exact .inl (setting_removeRow s _ _)
  | mapWalk => exact .inl (setting_walk s _ _ _)
  | shiftRow => exact .inl (by simp [State.shiftRow])
  | grant => exact .inl (setting_grantPermit s _ _)
  | permitReturn => exact .inl (by simp [State.undoPermit])
  | lift => exact .inl (by simp [State.takeLift])
  | lateLift => exact .inl (by simp [State.lateLift, State.takeLift])
  | lateLiftDoubt => exact .inl (by simp [State.lateLiftDoubt])
  | depositInTurn => exact .inl (setting_depositInTurn s _ _)
  | depositOutOfTurn => exact .inl (setting_depositOutOfTurn s _ _)
  | setAside => exact .inl (by simp [State.setAside])
  | chargeBegin => exact .inl (setting_beginCharge s _ _)
  | chargeEnd => exact .inl (setting_endCharge s _ _ _ _)
  | returned => exact .inl (setting_returnCharge s _ _ _)
  | stuck => exact .inl (setting_giveUpCharge s _ _ _ _ _ _)
  | walkReport => exact .inl ((setting_walkDuringCharge _ _).trans (setting_walk s _ _ _))
  | discharge => exact .inl (setting_dischargeFront s _ _)
  | kept | setdown | confirmLane | move | dischargeTake => exact .inl rfl
  | _ => exact .inl (by simp)

theorem setting_of_result {p : Port} {k : Kind} (hr : RuleResult p s k t) : setting t = setting s ∨ Kind.changesSetting k := by
  cases hr with
  | plain hc => exact setting_of_change hc
  | settled hc => rw [setting_settle]; exact setting_of_change hc

theorem p0_of_changesSetting {p : Port} {k : Kind} (hk : Kind.changesSetting k) (hrole : k.allowedTo (portRole p) = true) : p = .p0 := by
  rcases hk with rfl | rfl | rfl | rfl | rfl <;> cases p <;> first | rfl | cases hrole

/-- R162: the port of a request is still present after it. -/
theorem present_of_result {p : Port} {k : Kind} (hrole : k.allowedTo (portRole p) = true) (hp : s.present p = true)
    (hr : RuleResult p s k t) : t.present p = true := by
  rcases setting_of_result hr with h | h
  · rw [present_of_params (params_of_setting h)]; exact hp
  · rw [p0_of_changesSetting h hrole]; rfl

end Setting

end Sys2Proof.Proofs

/-!
PROOFS. The bounds of the lists, counters, notice sets and parameters: every operation of the state keeps them, and so does
every step.
-/

namespace Sys2Proof.Proofs

open Sys2Proof Sys2Proof.Machine

/-! ### Steps -/

/-- A law that does not read the queue, and that the tick and every effect of a command keep, is kept by every step. -/
theorem keeps_of_step {I : State → Prop} (hqueue : ∀ s rest, I s → I { s with pending := rest }) (htick : ∀ s, I s → I s.tick)
    (heffect : ∀ c s t, I s → Effect c s t → I t) {s t : State} (hI : I s) (h : step s = .next t) : I t := by
  unfold step at h
  split at h
  · cases h; exact htick s hI
  · exact heffect _ _ t (hqueue s _ hI) (effect_of_exec h)

/-! ### Kinds of a role (R173) -/

theorem kindsInRole_iff (p : Port) (kinds : Byte) :
    kindsInRole p kinds = true ↔ ∀ i : Nat, kinds.getLsbD i = true → (roleKinds (portRole p)).getLsbD i = true := by
  rw [kindsInRole, beq_iff_eq]
  constructor
  · intro h i hi
    have hbit := congrArg (BitVec.getLsbD · i) h
    have hlt : i < 8 := BitVec.lt_of_getLsbD hi
    simpa [hi, hlt] using hbit
  · intro h
    refine BitVec.eq_of_getLsbD_eq fun i hlt => ?_
    cases hi : kinds.getLsbD i with
    | false => simp [hi]
    | true => simp [hi, h i hi]

theorem kindsInRole_or {p : Port} {a b : Byte} (ha : kindsInRole p a = true) (hb : kindsInRole p b = true) :
    kindsInRole p (a ||| b) = true := by
  rw [kindsInRole_iff] at *
  intro i hi
  rw [BitVec.getLsbD_or, Bool.or_eq_true] at hi
  exact hi.elim (ha i) (hb i)

theorem kindsInRole_and {p : Port} {a : Byte} (ha : kindsInRole p a = true) (b : Byte) : kindsInRole p (a &&& b) = true := by
  rw [kindsInRole_iff] at *
  intro i hi
  rw [BitVec.getLsbD_and, Bool.and_eq_true] at hi
  exact ha i hi.1

theorem kindsInRole_zero (p : Port) : kindsInRole p 0 = true := by cases p <;> rfl

theorem kindsInRole_roleKinds (p : Port) : kindsInRole p (roleKinds (portRole p)) = true := by cases p <;> rfl

theorem kindsInRole_supv (n : SupvNotice) : kindsInRole .p0 n.bit = true := by cases n <;> rfl

theorem kindsInRole_crane (k : Crane) (n : CraneNotice) : kindsInRole (cranePort k) n.bit = true := by
  cases k <;> cases n <;> rfl

theorem kindsInRole_furnace (f : Furnace) (n : FurnaceNotice) : kindsInRole (furnacePort f) n.bit = true := by
  cases f <;> cases n <;> rfl

/-! ### Bounds kept by the operations on one part of the state -/

section Bounds

variable {s t : State}

/-- The bounds read of the register and the sequence their lengths alone. -/
theorem bounds_of_lists (h : Bounds s) (hregister : t.register.length ≤ 384) (hsequence : t.sequence.length ≤ 64)
    (hfurnaces : t.furnaces = s.furnaces) (hlog : t.log.length ≤ 16) (hbanks : t.banks = s.banks) (hports : t.ports = s.ports)
    (hparams : t.params = s.params) : Bounds t where
  register := hregister
  sequence := hsequence
  rows := by simpa only [State.furnace, hfurnaces] using h.rows
  residence := by simpa only [State.furnace, hfurnaces] using h.residence
  log := hlog
  counter := by simpa only [hbanks] using h.counter
  notices := by simpa only [State.port, hports] using h.notices
  mask := by simpa only [State.port, hports] using h.mask
  params := by simpa only [hparams] using h.params
  absent := by
    have hpresent : ∀ p, t.present p = s.present p := fun p => by cases p <;> simp only [State.present, hparams]
    simpa only [hpresent, State.port, hports] using h.absent

/-- R104, R116: a map that is changed within its bounds. -/
theorem bounds_updateFurnace (h : Bounds s) (f : Furnace) (g : FurnaceState → FurnaceState)
    (hrows : (g (s.furnace f)).rowsHeld ≤ 48) (hres : ∀ r ∈ (g (s.furnace f)).rows, r.residence ≤ 65535) :
    Bounds (s.updateFurnace f g) where
  register := h.register
  sequence := h.sequence
  rows e := by
    rw [State.updateFurnace_furnace]
    split
    · exact hrows
    · exact h.rows e
  residence e := by
    rw [State.updateFurnace_furnace]
    split
    · exact hres
    · exact h.residence e
  log := h.log
  counter := h.counter
  notices := h.notices
  mask := h.mask
  params := h.params
  absent := h.absent

/-- A furnace whose rows stay, and whose operation does not begin. -/
theorem bounds_updateFurnace_same (h : Bounds s) (f : Furnace) (g : FurnaceState → FurnaceState)
    (hrows : (g (s.furnace f)).rows = (s.furnace f).rows)
    (hop : (g (s.furnace f)).op.isCharging.toNat ≤ (s.furnace f).op.isCharging.toNat) : Bounds (s.updateFurnace f g) := by
  have hheld : (g (s.furnace f)).rowsHeld ≤ 48 :=
    le_trans (by rw [FurnaceState.rowsHeld, hrows]; exact Nat.add_le_add_left hop _) (h.rows f)
  exact bounds_updateFurnace h f g hheld (hrows ▸ h.residence f)

/-- R173: a port that is present, with kinds of its role alone. -/
theorem bounds_updatePort (h : Bounds s) (p : Port) (g : PortState → PortState) (hp : s.present p = true)
    (hnotices : kindsInRole p (g (s.port p)).notices = true) (hmask : kindsInRole p (g (s.port p)).mask = true) :
    Bounds (s.updatePort p g) where
  register := h.register
  sequence := h.sequence
  rows := h.rows
  residence := h.residence
  log := h.log
  counter := h.counter
  notices q := by
    rw [State.updatePort_port]
    split
    · next hq => exact hq ▸ hnotices
    · exact h.notices q
  mask q := by
    rw [State.updatePort_port]
    split
    · next hq => exact hq ▸ hmask
    · exact h.mask q
  params := h.params
  absent q hq := by
    rw [State.updatePort_port]
    split
    · next heq => rw [heq, State.updatePort_present, hp] at hq; cases hq
    · exact h.absent q hq

theorem bounds_updateBank (h : Bounds s) (b : BankId) (g : Bank → Bank) (hcounter : (g (s.banks.get b)).counter ≤ 4095) :
    Bounds (s.updateBank b g) where
  register := h.register
  sequence := h.sequence
  rows := h.rows
  residence := h.residence
  log := h.log
  counter c := by
    rw [State.updateBank_get]
    split
    · exact hcounter
    · exact h.counter c
  notices := h.notices
  mask := h.mask
  params := h.params
  absent := h.absent

/-- R173: a raise of a kind of the port's role. -/
theorem bounds_raiseWhen (h : Bounds s) (c : Bool) (p : Port) {bit : Byte} (hbit : kindsInRole p bit = true) :
    Bounds (s.raiseWhen c p bit) where
  register := h.register
  sequence := h.sequence
  rows := h.rows
  residence := h.residence
  log := h.log
  counter := h.counter
  notices q := by
    rw [State.raiseWhen_port]
    split
    · next hq => obtain ⟨-, -, rfl⟩ := hq; exact kindsInRole_or (h.notices q) hbit
    · exact h.notices q
  mask q := by
    rw [State.raiseWhen_port]
    split
    · next hq => obtain ⟨-, -, rfl⟩ := hq; exact h.mask q
    · exact h.mask q
  params := h.params
  absent q hq := by
    rw [State.raiseWhen_port]
    split
    · next heq => rw [heq.2.2, State.raiseWhen_present, heq.2.1] at hq; cases hq
    · exact h.absent q hq

/-- R158: the counter of a bank stays within its range. -/
theorem logged_counter_le {b : Bank} (hb : b.counter ≤ 4095) (code : FaultCode) (slab : Option SlabId) (port : Option Port)
    (stamp : Word32) : (b.logged code slab port stamp).counter ≤ 4095 := by
  unfold Bank.logged
  dsimp only
  split
  · next hcounts =>
    have hlt : b.counter < 4095 := by
      simp only [Bank.counts, Bool.and_eq_true, decide_eq_true_eq] at hcounts
      exact hcounts.2
    exact hlt
  · exact hb

theorem bounds_logFault (h : Bounds s) (b : BankId) (code : FaultCode) (slab : Option SlabId) (port : Option Port) :
    Bounds (s.logFault b code slab port) :=
  bounds_raiseWhen (bounds_raiseWhen (bounds_updateBank h b _ (logged_counter_le (h.counter b) ..)) _ _
    (kindsInRole_supv .fault)) _ _ (kindsInRole_supv .threshold)

theorem bounds_logFurnace (h : Bounds s) (f : Furnace) (code : FaultCode) (slab : Option SlabId) (port : Option Port) :
    Bounds (s.logFurnace f code slab port) := bounds_logFault h _ code slab port

theorem bounds_raiseSupv (h : Bounds s) (n : SupvNotice) : Bounds (s.raiseSupv n) :=
  bounds_raiseWhen h _ _ (kindsInRole_supv n)

theorem bounds_doubtFurnace (h : Bounds s) (f : Furnace) (code : FaultCode) (slab : Option SlabId) (port : Option Port) :
    Bounds (s.doubtFurnace f code slab port) :=
  bounds_raiseSupv (bounds_logFurnace (bounds_updateFurnace_same h f _ rfl le_rfl) f code slab port) .doubt

theorem bounds_settleCrane {before after : State} (h : Bounds t) (k : Crane) : Bounds (settleCrane before after k t) :=
  bounds_raiseWhen (bounds_raiseWhen h _ _ (kindsInRole_crane k .credit)) _ _ (kindsInRole_crane k .turn)

theorem bounds_settleFurnace {before after : State} (h : Bounds t) (f : Furnace) : Bounds (settleFurnace before after f t) :=
  bounds_raiseWhen (bounds_raiseWhen (bounds_raiseWhen h _ _ (kindsInRole_furnace f .hold)) _ _ (kindsInRole_supv .hold)) _ _
    (kindsInRole_furnace f .rowReady)

theorem bounds_settle (before : State) (h : Bounds t) : Bounds (settle before t) :=
  bounds_settleFurnace (bounds_settleFurnace (bounds_settleFurnace (bounds_settleCrane (bounds_settleCrane
    (bounds_raiseWhen h _ _ (kindsInRole_supv .seqLow)) .c1) .c2) .f1) .f2) .f3

/-- An operation on the register, the lane, the cranes, the flags or the clock that adds no record and no entry. -/
theorem bounds_of_books (h : Bounds s) (hregister : t.register.length ≤ s.register.length)
    (hsequence : t.sequence.length ≤ s.sequence.length) (hfurnaces : t.furnaces = s.furnaces) (hlog : t.log = s.log)
    (hbanks : t.banks = s.banks) (hports : t.ports = s.ports) (hparams : t.params = s.params) : Bounds t :=
  bounds_of_lists h (hregister.trans h.register) (hsequence.trans h.sequence) hfurnaces (hlog ▸ h.log) hbanks hports hparams

theorem bounds_updateCrane (h : Bounds s) (k : Crane) (g : CraneState → CraneState) : Bounds (s.updateCrane k g) :=
  bounds_of_books h le_rfl le_rfl rfl rfl rfl rfl rfl

theorem bounds_updateSlab (h : Bounds s) (id : SlabId) (g : SlabRecord → SlabRecord) : Bounds (s.updateSlab id g) :=
  bounds_of_books h (List.length_map _).le le_rfl rfl rfl rfl rfl rfl

theorem bounds_setPlace (h : Bounds s) (id : SlabId) (pl : Place) : Bounds (s.setPlace id pl) := bounds_updateSlab h id _

theorem bounds_dissolvePair (h : Bounds s) (id : SlabId) : Bounds (s.dissolvePair id) :=
  bounds_of_books h (List.length_map _).le le_rfl rfl rfl rfl rfl rfl

theorem bounds_formPair (h : Bounds s) (a b : SlabId) : Bounds (s.formPair a b) :=
  bounds_updateSlab (bounds_updateSlab h a _) b _

theorem bounds_freeSlab (h : Bounds s) (id : SlabId) : Bounds (s.freeSlab id) :=
  bounds_of_books h (by simpa only [State.freeSlab, List.length_map] using List.length_filter_le _ _) le_rfl rfl rfl rfl rfl rfl

theorem bounds_makeDoubtful (h : Bounds s) (id : SlabId) (last : LastKnown) : Bounds (s.makeDoubtful id last) :=
  bounds_of_books (bounds_setPlace (bounds_dissolvePair h id) id (.doubtful last)) le_rfl le_rfl rfl rfl rfl rfl rfl

theorem bounds_resolveTo (h : Bounds s) (id : SlabId) (pl : Place) : Bounds (s.resolveTo id pl) :=
  bounds_of_books h (List.length_map _).le le_rfl rfl rfl rfl rfl rfl

theorem bounds_leaveSequence (h : Bounds s) (id : SlabId) : Bounds (s.leaveSequence id) :=
  bounds_of_books h le_rfl (List.length_filter_le _ _) rfl rfl rfl rfl rfl

theorem bounds_joinSequence (h : Bounds s) (i : Nat) (id : SlabId) (hroom : s.sequence.length < 64) :
    Bounds (s.joinSequence i id) := by
  refine bounds_of_lists h h.register ?_ rfl h.log rfl rfl rfl
  simp only [State.joinSequence, List.length_append, List.length_cons, List.length_take, List.length_drop]
  omega

theorem bounds_releaseReservation (h : Bounds s) (k : Crane) : Bounds (s.releaseReservation k) :=
  bounds_of_books h le_rfl le_rfl rfl rfl rfl rfl rfl

theorem bounds_foldl {α : Type} {g : State → α → State} (hg : ∀ u x, Bounds u → Bounds (g u x)) (l : List α) (h : Bounds s) :
    Bounds (l.foldl g s) := by
  induction l generalizing s with
  | nil => exact h
  | cons x l ih => exact ih (hg s x h)

theorem bounds_joinLaneTail (h : Bounds s) (id : SlabId) : Bounds (s.joinLaneTail id) :=
  bounds_foldl (fun u x hu => by
    split
    · exact hu
    · exact bounds_dissolvePair hu x) _ (bounds_of_books h le_rfl le_rfl rfl rfl rfl rfl rfl)

/-! ### Bounds kept by the events -/

theorem mem_markFront {rows : List Row} {r : Row} (h : r ∈ markFront rows) :
    ∃ q ∈ rows, r.residence = q.residence ∧ r.slabA = q.slabA := by
  induction rows with
  | nil => cases h
  | cons x rest ih =>
    cases rest with
    | nil => rw [markFront, List.mem_singleton] at h; exact ⟨x, List.mem_singleton_self x, by rw [h], by rw [h]⟩
    | cons y rest =>
      rw [markFront, List.mem_cons] at h
      rcases h with rfl | h
      · exact ⟨r, List.mem_cons_self, rfl, rfl⟩
      · obtain ⟨q, hq, heq⟩ := ih h
        exact ⟨q, List.mem_cons_of_mem _ hq, heq⟩

@[simp] theorem markFront_length (rows : List Row) : (markFront rows).length = rows.length := by
  induction rows with
  | nil => rfl
  | cons x rest ih =>
    cases rest with
    | nil => rfl
    | cons y rest => simp [markFront, ih]

theorem bounds_soakCheck (h : Bounds s) (f : Furnace) : Bounds (s.soakCheck f) := by
  refine bounds_raiseWhen (bounds_updateFurnace h f _ ?_ ?_) _ _ (kindsInRole_furnace f .soak)
  · have hlen : (if s.soakDue f then markFront (s.furnace f).rows else (s.furnace f).rows).length =
        (s.furnace f).rows.length := by split <;> simp
    simpa only [FurnaceState.rowsHeld, hlen] using h.rows f
  · intro r hr
    dsimp only at hr
    split at hr
    · obtain ⟨q, hq, heq, -⟩ := mem_markFront hr
      exact heq ▸ h.residence f q hq
    · exact h.residence f r hr

theorem bounds_ageMap (h : Bounds s) (f : Furnace) : Bounds (s.ageMap f) := by
  refine bounds_soakCheck (bounds_updateFurnace h f _ ?_ ?_) f
  · simpa only [FurnaceState.rowsHeld, List.length_map] using h.rows f
  · intro r hr
    obtain ⟨q, -, rfl⟩ := List.mem_map.mp hr
    exact Nat.min_le_left _ _

theorem bounds_advanceSeconds (h : Bounds s) : Bounds s.advanceSeconds := by
  have hstart : Bounds { s with runningSeconds := s.runningSeconds + 1 } := bounds_of_books h le_rfl le_rfl rfl rfl rfl rfl rfl
  unfold State.advanceSeconds
  exact bounds_ageMap (bounds_ageMap (bounds_ageMap hstart .f1) .f2) .f3

theorem bounds_undoPermit (h : Bounds s) (k : Crane) (id : SlabId) : Bounds (s.undoPermit k id) :=
  bounds_dissolvePair (bounds_setPlace (bounds_updateCrane h k _) id .listed) id

theorem bounds_lapsePermit (h : Bounds s) (k : Crane) (id : SlabId) (notify : Bool) : Bounds (s.lapsePermit k id notify) :=
  bounds_logFault (bounds_raiseWhen (bounds_undoPermit h k id) _ _ (kindsInRole_crane k .permitLapsed)) _ _ _ _

theorem bounds_permitExpiry (h : Bounds s) (k : Crane) : Bounds (s.permitExpiry k) := by
  unfold State.permitExpiry
  split
  · exact bounds_settle s (bounds_lapsePermit h k _ true)
  · exact h

theorem bounds_custodyExpiry (h : Bounds s) (k : Crane) : Bounds (s.custodyExpiry k) := by
  unfold State.custodyExpiry
  split
  · exact bounds_updateCrane (bounds_logFault (bounds_setPlace h _ _) _ _ _ _) k _
  · exact h

theorem bounds_endOperation (h : Bounds s) (f : Furnace) (timedOut : Bool) : Bounds (s.endOperation f timedOut) :=
  bounds_updateFurnace_same h f _ rfl (Nat.zero_le _)

theorem bounds_giveUpCharge (h : Bounds s) (f : Furnace) (a : SlabId) (b : Option SlabId) (timedOut : Bool) (code : FaultCode)
    (port : Option Port) : Bounds (s.giveUpCharge f a b timedOut code port) :=
  bounds_doubtFurnace (bounds_endOperation (bounds_foldl (fun _ x hu => bounds_makeDoubtful hu x.1 _) _ h) f timedOut) f code _ port

theorem bounds_chargeExpiry (h : Bounds s) (f : Furnace) : Bounds (s.chargeExpiry f) := by
  unfold State.chargeExpiry
  split
  · exact bounds_settle s (bounds_giveUpCharge h f _ _ true .chargeTimeout none)
  · exact h

theorem bounds_custodyLost (h : Bounds s) (k : Crane) (id : SlabId) : Bounds (s.custodyLost k id) :=
  bounds_raiseSupv (bounds_logFault (bounds_makeDoubtful (bounds_leaveSequence (bounds_dissolvePair
    (bounds_releaseReservation (bounds_updateCrane h k _) k) id) id) id _) _ _ _ _) .doubt

theorem bounds_craneLost (h : Bounds s) (k : Crane) : Bounds (s.craneLost k) := by
  have hlapsed : Bounds (match s.permitOf k with
      | some id => s.lapsePermit k id false
      | none => s) := by
    split
    · exact bounds_lapsePermit h k _ false
    · exact h
  unfold State.craneLost
  dsimp only
  split
  · exact bounds_custodyLost hlapsed k _
  · exact hlapsed

theorem bounds_changeHold (h : Bounds s) (f : Furnace) (g : HoldSet → HoldSet) : Bounds (s.changeHold f g) :=
  bounds_updateFurnace_same h f _ rfl le_rfl

theorem bounds_roleLoss (h : Bounds s) (p : Port) : Bounds (s.roleLoss p) := by
  unfold State.roleLoss
  split
  · exact bounds_craneLost h _
  · unfold State.controllerLost
    split
    · exact bounds_doubtFurnace (bounds_changeHold h _ _) _ _ _ _
    · exact h
  · exact h

/-- R162: a port that is ACTIVE is present. -/
theorem present_of_active (h : Bounds s) {p : Port} (hactive : (s.port p).link = .active) : s.present p = true := by
  cases hp : s.present p with
  | true => rfl
  | false => rw [h.absent p hp] at hactive; cases hactive

theorem bounds_silenceExpiry (h : Bounds s) (p : Port) : Bounds (s.silenceExpiry p) := by
  unfold State.silenceExpiry
  split
  · next hruns =>
    refine bounds_settle s (bounds_roleLoss (bounds_raiseWhen (bounds_logFault (bounds_updatePort h p _
      (present_of_active h hruns.1) (h.notices p) (h.mask p)) _ _ _ _) _ _ (kindsInRole_supv .portLost)) p)
  · exact h

/-! ### Bounds at a start-up -/

theorem params_default_within (q : ParamId) : q.limits.1 ≤ Params.default.value q ∧ Params.default.value q ≤ q.limits.2 := by
  cases q with
  | furnace f g => cases f <;> cases g <;> decide
  | _ => decide

/-- R162, R173: ports at their start values meet their bounds under any parameters. -/
theorem fresh_ports_get (v : ByPort PortState) (keepSel : Bool) (p : Port) :
    (v.fresh keepSel).get p = { PortState.fresh with sel := ((v.fresh keepSel).get p).sel } := by
  cases p <;> rfl

/-- The bounds of a state whose ports stand at their start values. -/
theorem bounds_of_fresh_ports (hregister : t.register.length ≤ 384) (hsequence : t.sequence.length ≤ 64)
    (hrows : ∀ f, (t.furnace f).rowsHeld ≤ 48) (hres : ∀ f, ∀ r ∈ (t.furnace f).rows, r.residence ≤ 65535)
    (hlog : t.log.length ≤ 16) (hcounter : ∀ b, (t.banks.get b).counter ≤ 4095)
    (hports : ∀ p, t.port p = { PortState.fresh with sel := (t.port p).sel })
    (hparams : ∀ q : ParamId, q.limits.1 ≤ t.params.value q ∧ t.params.value q ≤ q.limits.2) : Bounds t where
  register := hregister
  sequence := hsequence
  rows := hrows
  residence := hres
  log := hlog
  counter := hcounter
  notices p := by rw [hports p]; exact kindsInRole_zero p
  mask p := by rw [hports p]; exact kindsInRole_zero p
  params := hparams
  absent p _ := hports p

theorem coldStart_furnace (s : State) (keepSel : Bool) (f : Furnace) :
    (s.coldStart keepSel).furnace f = (s.furnace f).restarted := by cases f <;> rfl

theorem coldStart_banks_get (s : State) (keepSel : Bool) (b : BankId) : (s.coldStart keepSel).banks.get b = Bank.fresh := by
  cases b <;> rfl

theorem bounds_coldStart (h : Bounds s) (keepSel : Bool) : Bounds (s.coldStart keepSel) :=
  bounds_of_fresh_ports h.register h.sequence (fun f => by rw [coldStart_furnace]; exact h.rows f)
    (fun f => by rw [coldStart_furnace]; exact h.residence f) h.log
    (fun b => by rw [coldStart_banks_get]; exact Nat.zero_le _) (fresh_ports_get s.ports keepSel) h.params

/-- A state whose lists, maps and log are empty and whose parameters stand at their defaults. -/
theorem bounds_of_erased (hregister : t.register = []) (hsequence : t.sequence = [])
    (hfurnaces : t.furnaces = ⟨.fresh, .fresh, .fresh⟩) (hlog : t.log = []) (hparams : t.params = .default)
    (hcounter : ∀ b, (t.banks.get b).counter ≤ 4095) (hports : ∀ p, t.port p = { PortState.fresh with sel := (t.port p).sel }) :
    Bounds t := by
  have hfresh : ∀ f, t.furnace f = FurnaceState.fresh := fun f => by rw [State.furnace, hfurnaces]; cases f <;> rfl
  refine bounds_of_fresh_ports (by simp [hregister]) (by simp [hsequence]) (fun f => ?_) (fun f => ?_) (by simp [hlog]) hcounter hports
    (hparams ▸ params_default_within)
  · rw [hfresh]; decide
  · rw [hfresh]; exact fun r hr => by cases hr

theorem bounds_recoverPermits (h : Bounds s) : Bounds s.recoverPermits :=
  bounds_foldl (fun u x hu => by
    split
    · exact bounds_dissolvePair (bounds_setPlace hu x .listed) x
    · exact hu) _ h

theorem bounds_recoverCustody (h : Bounds s) : Bounds s.recoverCustody :=
  bounds_foldl (fun u x hu => by
    split
    · exact bounds_makeDoubtful (bounds_leaveSequence hu x) x _
    · exact hu) _ h

theorem bounds_recoverEntry (h : Bounds s) (f : Furnace) : Bounds (s.recoverEntry f) := by
  unfold State.recoverEntry
  refine bounds_updateFurnace_same ?_ f _ rfl (Nat.zero_le _)
  split
  · exact bounds_foldl (fun _ x hu => bounds_makeDoubtful hu x.1 _) _ h
  · exact h

theorem bounds_recoverDoubt (h : Bounds s) (f : Furnace) : Bounds (s.recoverDoubt f) := by
  unfold State.recoverDoubt
  split
  · exact h
  · exact bounds_logFurnace (bounds_updateFurnace_same h f _ rfl le_rfl) f _ _ _

theorem bounds_laneDoubt (h : Bounds s) (on : Bool) : Bounds { s with laneDoubt := on } :=
  bounds_of_books h le_rfl le_rfl rfl rfl rfl rfl rfl

theorem bounds_recover (h : Bounds s) : Bounds s.recover := by
  unfold State.recover
  have hentries := bounds_recoverEntry (bounds_recoverEntry (bounds_recoverEntry
    (bounds_recoverCustody (bounds_recoverPermits h)) .f1) .f2) .f3
  exact bounds_recoverDoubt (bounds_recoverDoubt (bounds_recoverDoubt (bounds_logFault (bounds_laneDoubt hentries true) _ _ _ _)
    .f1) .f2) .f3

theorem bounds_startUp (h : Bounds s) (keepSel : Bool) : Bounds (s.startUp keepSel) := by
  unfold State.startUp
  dsimp only
  split
  · exact bounds_of_erased rfl rfl rfl rfl rfl (fun b => (coldStart_banks_get s keepSel b).symm ▸ Nat.zero_le _)
      (fresh_ports_get s.ports keepSel)
  · split
    · exact bounds_coldStart h keepSel
    · exact bounds_recover (bounds_coldStart h keepSel)

theorem bounds_restart (h : Bounds s) : Bounds s.restart :=
  bounds_of_books (bounds_startUp h true) le_rfl le_rfl rfl rfl rfl rfl rfl

theorem bounds_clearAll (h : Bounds s) : Bounds s.clearAll :=
  bounds_of_erased rfl rfl rfl rfl rfl h.counter (fresh_ports_get s.ports true)

end Bounds

end Sys2Proof.Proofs

namespace Sys2Proof.Proofs

open Sys2Proof Sys2Proof.Machine

/-! ### What the checks of a rule say when they pass -/

/-- R10, R11, R14: an announcement that passes its checks describes a record that is LISTED, fresh and not live, and there is
room for it in the register and the sequence; its index is the tail or that of an unfixed entry. -/
structure Announced (s : State) (r : SlabRecord) (i : Nat) : Prop where
  room : s.register.length < 384
  fresh : s.live r.id = false
  valid : validSlabId r.id = true
  place : r.place = .listed
  partner : r.partner = none
  space : s.sequence.length < 64
  index : i = s.sequence.length ∨ ∃ position ∈ s.sequence, s.isFixed position = false ∧ i = s.sequence.idxOf position

theorem announcedRecord_some {s : State} {a : Announcement} {r : SlabRecord} (h : s.announcedRecord a = some r) :
    r.id = a.id ∧ validSlabId r.id = true ∧ r.place = .listed ∧ r.partner = none := by
  unfold State.announcedRecord at h
  split at h
  · next hrange =>
    split at h
    · cases h
      simp only [Bool.and_eq_true] at hrange
      exact ⟨rfl, hrange.1.1.1.1.1, rfl, rfl⟩
    · cases h
  · cases h

theorem announceIndex_ok {s : State} {position i : Nat} (h : s.announceIndex position = .ok i) :
    s.sequence.length < 64 ∧
      (i = s.sequence.length ∨ ∃ position ∈ s.sequence, s.isFixed position = false ∧ i = s.sequence.idxOf position) := by
  unfold State.announceIndex at h
  split at h
  · cases h
  · next hroom =>
    refine ⟨Nat.lt_of_not_le hroom, ?_⟩
    split at h
    · cases h; exact .inl rfl
    · split at h
      · cases h
      · next hmem =>
        split at h
        · cases h
        · next hfixed => cases h; exact .inr ⟨position, not_not.mp hmem, by simpa using hfixed, rfl⟩

theorem announced_of_checks {s : State} {a : Announcement} {r : SlabRecord} {i : Nat} (h : s.announceChecks a = .ok (r, i)) :
    Announced s r i := by
  unfold State.announceChecks at h
  split at h
  · cases h
  · next hroom =>
    split at h
    · cases h
    · next hlive =>
      split at h
      · cases h
      · next x hx =>
        split at h
        · cases h
        · split at h
          · cases h
          · split at h
            · cases h
            · next j hj =>
              cases h
              obtain ⟨hid, hvalid, hplace, hpartner⟩ := announcedRecord_some hx
              obtain ⟨hspace, hindex⟩ := announceIndex_ok hj
              exact ⟨Nat.lt_of_not_le hroom, by simpa [hid] using hlive, hvalid, hplace, hpartner, hspace, hindex⟩

/-- R29: a move that passes its checks is of an unfixed entry, to the tail or before an unfixed entry. -/
theorem moveRefusal_none {s : State} {id position : Nat} (h : s.moveRefusal id position = none) :
    id ∈ s.sequence ∧ s.isFixed id = false ∧ (position = 0 ∨ position ∈ s.sequence ∧ s.isFixed position = false) := by
  unfold State.moveRefusal at h
  split at h
  · cases h
  · split at h
    · cases h
    · next hmem =>
      split at h
      · cases h
      · next hfixed =>
        refine ⟨not_not.mp hmem, by simpa using hfixed, ?_⟩
        split at h
        · next hzero => exact .inl hzero
        · split at h
          · cases h
          · next hpos =>
            split at h
            · cases h
            · next hposFixed => exact .inr ⟨not_not.mp hpos, by simpa using hposFixed⟩

/-- R148: a placing that passes its checks is of one or two DOUBTFUL slabs, into a map with room for the row. -/
theorem placeChecks_ok {s : State} {id : SlabId} {q : Placing} {f : Furnace} (h : s.placeChecks id q = .ok f) :
    q.inRange id = true ∧ s.secondRefusal q.second = none ∧ (s.furnace f).rowsHeld < 48 := by
  unfold State.placeChecks at h
  dsimp only at h
  split at h
  · cases h
  · split at h
    · cases h
    · next hrange =>
      split at h
      · cases h
      · next hsecond =>
        split at h
        · cases h
        · next hfull =>
          split at h
          · cases h
          · split at h
            · cases h
            · split at h
              · cases h
              · cases h
                exact ⟨by simpa using hrange, hsecond, Nat.lt_of_not_le hfull⟩

/-- R129: when the checks of a charge pass, the lane is sure, the furnace idle, and the plan is that of the head row. -/
theorem chargeChecks_ok {s : State} {f : Furnace} {q : Plan} (h : s.chargeChecks f = .ok q) :
    (s.furnace f).op.isCharging = false ∧ s.headPlan f = some q := by
  unfold State.chargeChecks at h
  split at h
  · cases h
  · split at h
    · cases h
    · split at h
      · cases h
      · split at h
        · cases h
        · next hcharging =>
          split at h
          · cases h
          · split at h
            · cases h
            · split at h
              · cases h
              · next hplan => cases h; exact ⟨by simpa using hcharging, hplan⟩

/-- R129: the plan of a head row is of its slab, or of its two slabs. -/
theorem headPlan_some {s : State} {f : Furnace} {q : Plan} (h : s.headPlan f = some q) :
    ∃ a b, q = s.planFor f a b ∧ ((s.headRow = .single a ∧ b = none) ∨ ∃ c, s.headRow = .pair a c ∧ b = some c) := by
  unfold State.headPlan at h
  split at h
  · next a ha => cases h; exact ⟨a, none, rfl, .inl ⟨ha, rfl⟩⟩
  · next a b hab => cases h; exact ⟨a, some b, rfl, .inr ⟨b, hab, rfl⟩⟩
  · cases h
  · cases h

/-- R100: a plan that fits has room for its row. -/
theorem room_of_fits {s : State} {f : Furnace} {a : SlabId} {b : Option SlabId} (h : (s.planFor f a b).fit = .fits) :
    (s.furnace f).rows.length < 48 := by
  by_contra hfull
  have : (s.planFor f a b).fit = .fullRows := if_pos (Nat.le_of_not_lt hfull)
  rw [this] at h
  cases h

/-! ### Parameters that are written (R177, R178) -/

theorem clamp_within (q : ParamId) (v : Nat) : q.limits.1 ≤ q.clamp v ∧ q.clamp v ≤ q.limits.2 := by
  have horder : q.limits.1 ≤ q.limits.2 := by
    cases q with
    | furnace f g => change g.limits.1 ≤ g.limits.2; cases g <;> decide
    | _ => decide
  unfold ParamId.clamp
  omega

theorem furnaceValue_write (fp : FurnaceParams) (g h : FurnaceParam) (v : Nat) (hv : v ≤ g.limits.2) :
    (fp.write g v).value h = if h = g then v else fp.value h := by
  cases g with
  | doubleRow =>
    have hbit : v = 0 ∨ v = 1 := by change v ≤ 1 at hv; omega
    cases h <;> rcases hbit with rfl | rfl <;> rfl
  | admissionMask =>
    have hbyte : v % 256 = v := Nat.mod_eq_of_lt (Nat.lt_succ_of_le hv)
    cases h <;> simp [FurnaceParams.write, FurnaceParams.value, hbyte]
  | admissionMatch =>
    have hbyte : v % 256 = v := Nat.mod_eq_of_lt (Nat.lt_succ_of_le hv)
    cases h <;> simp [FurnaceParams.write, FurnaceParams.value, hbyte]
  | _ => cases h <;> rfl

/-- R178: a write stores the value of its parameter and leaves every other. -/
theorem value_write (ps : Params) (q x : ParamId) (v : Nat) (hv : v ≤ q.limits.2) :
    (ps.write q v).value x = if x = q then v else ps.value x := by
  cases q with
  | furnace f g =>
    cases x with
    | furnace e h =>
      simp only [Params.write, Params.value, ByFurnace.get_set, ParamId.furnace.injEq]
      by_cases he : e = f
      · simp [he, furnaceValue_write _ _ _ _ hv]
      · simp [he]
    | _ => rfl
  | _ => cases x <;> rfl

/-- R162: what a write leaves at a port, by whether its presence changes. -/
theorem writeParam_port (s : State) (q : ParamId) (v : Nat) (p : Port) :
    (s.writeParam q v).port p = if s.present p = (s.writeParam q v).present p then s.port p else PortState.fresh := by
  cases p <;> rfl

section Bounds

variable {s t : State}

theorem bounds_writeParam (h : Bounds s) (q : ParamId) {v : Nat} (hlow : q.limits.1 ≤ v) (hhigh : v ≤ q.limits.2) :
    Bounds (s.writeParam q v) where
  register := h.register
  sequence := h.sequence
  rows := h.rows
  residence := h.residence
  log := h.log
  counter := h.counter
  notices p := by
    rw [writeParam_port]
    split
    · exact h.notices p
    · exact kindsInRole_zero p
  mask p := by
    rw [writeParam_port]
    split
    · exact h.mask p
    · exact kindsInRole_zero p
  params x := by
    have hvalue : (s.writeParam q v).params.value x = if x = q then v else s.params.value x := value_write _ _ _ _ hhigh
    rw [hvalue]
    split
    · next hx => exact hx ▸ ⟨hlow, hhigh⟩
    · exact h.params x
  absent p hp := by
    rw [writeParam_port]
    split
    · next hsame => exact h.absent p (hsame.trans hp)
    · rfl

/-! ### Bounds kept by the rules -/

theorem bounds_openPort (h : Bounds s) (p : Port) (hp : s.present p = true) : Bounds (s.openPort p) :=
  bounds_updatePort h p _ hp (kindsInRole_zero p) (kindsInRole_roleKinds p)

theorem bounds_unparkFurnace (h : Bounds s) (p : Port) : Bounds (s.unparkFurnace p) := by
  unfold State.unparkFurnace
  split
  · exact bounds_changeHold h _ _
  · exact h

theorem bounds_greet (h : Bounds s) (p : Port) : Bounds (s.greet p) := by
  unfold State.greet
  split
  · next k hk =>
    have hp : p = cranePort k := by cases p <;> cases hk <;> rfl
    exact bounds_raiseWhen h _ _ (hp ▸ kindsInRole_crane k .turn)
  · next f _ hf =>
    have hp : p = furnacePort f := by cases p <;> cases hf <;> rfl
    exact bounds_raiseWhen h _ _ (hp ▸ kindsInRole_furnace f .rowReady)
  · exact h

theorem bounds_hello (h : Bounds s) (p : Port) (hp : s.present p = true) : Bounds (s.hello p) :=
  bounds_greet (bounds_settle s (bounds_unparkFurnace (bounds_openPort h p hp) p)) p

theorem bounds_parkPort (h : Bounds s) (p : Port) (hp : s.present p = true) : Bounds (s.parkPort p) := by
  have hparked : Bounds (s.updatePort p fun q => { q with link := .parked, silence := none }) :=
    bounds_updatePort h p _ hp (h.notices p) (h.mask p)
  unfold State.parkPort
  dsimp only
  split
  · exact bounds_changeHold hparked _ _
  · exact hparked

theorem insertRecord_length (r : SlabRecord) (l : List SlabRecord) : (insertRecord r l).length = l.length + 1 := by
  induction l with
  | nil => rfl
  | cons x xs ih =>
    unfold insertRecord
    split
    · rfl
    · simp [ih]

theorem bounds_createSlab (h : Bounds s) {r : SlabRecord} {i : Nat} (ha : Announced s r i) : Bounds (s.createSlab r i) :=
  bounds_of_lists (bounds_joinSequence h i r.id ha.space)
    (by rw [State.createSlab, insertRecord_length]; exact ha.room) (bounds_joinSequence h i r.id ha.space).sequence rfl
    h.log rfl rfl rfl

/-- R30: a move leaves the number of entries. -/
theorem movedOrder_length_le {seq : List SlabId} {id position : Nat} (hid : id ∈ seq) :
    (movedOrder seq id position).length ≤ seq.length := by
  unfold movedOrder
  split
  · exact le_rfl
  · have hshort : (seq.filter fun x => x != id).length < seq.length :=
      List.length_filter_lt_length_iff_exists.mpr ⟨id, hid, by simp⟩
    simp only [List.length_append, List.length_cons, List.length_take, List.length_drop]
    omega

theorem bounds_formRowPair (h : Bounds s) (a : SlabId) (b : Option SlabId) : Bounds (s.formRowPair a b) := by
  unfold State.formRowPair
  split
  · exact bounds_formPair h _ _
  · exact h

theorem bounds_placeRow (h : Bounds s) {f : Furnace} (a : SlabId) (b : Option SlabId) {q : Placing}
    (hroom : (s.furnace f).rowsHeld < 48) (hres : q.residence ≤ 65535) : Bounds (s.placeRow f a b q) := by
  have hlaid : Bounds (s.updateFurnace f fun m => { m with
      rows := (s.furnace f).rows.take (placeIndex (s.furnace f).rows q.rear) ++ s.placedRow f a b q ::
        (s.furnace f).rows.drop (placeIndex (s.furnace f).rows q.rear) }) := by
    refine bounds_updateFurnace h f _ ?_ ?_
    · simp only [FurnaceState.rowsHeld, List.length_append, List.length_cons, List.length_take, List.length_drop] at hroom ⊢
      omega
    · intro r hr
      rcases List.mem_append.mp hr with hr | hr
      · exact h.residence f r (List.mem_of_mem_take hr)
      · rcases List.mem_cons.mp hr with rfl | hr
        · exact hres
        · exact h.residence f r (List.mem_of_mem_drop hr)
  have hresolved := bounds_foldl (g := fun v x => v.resolveTo x.1 (.inFurnace f x.2))
    (fun _ x hu => bounds_resolveTo hu x.1 _) (slabsWithSides a b) hlaid
  have hpaired := bounds_formRowPair hresolved a b
  unfold State.placeRow
  dsimp only
  split
  · exact bounds_soakCheck hpaired f
  · exact hpaired

theorem bounds_mapRows (h : Bounds s) (f : Furnace) (g : List Row → List Row)
    (hlen : (g (s.furnace f).rows).length ≤ (s.furnace f).rows.length)
    (hres : ∀ r ∈ g (s.furnace f).rows, ∃ q ∈ (s.furnace f).rows, r.residence = q.residence) :
    Bounds (s.updateFurnace f fun m => { m with rows := g m.rows }) := by
  refine bounds_updateFurnace h f _ ?_ ?_
  · exact le_trans (Nat.add_le_add_right hlen _) (h.rows f)
  · intro r hr
    obtain ⟨q, hq, heq⟩ := hres r hr
    exact heq ▸ h.residence f q hq

theorem bounds_removeRow (h : Bounds s) (f : Furnace) (row : Row) : Bounds (s.removeRow f row) := by
  have hoff := bounds_mapRows h f (fun rows => rows.filter fun r => !r.holds row.slabA) (List.length_filter_le _ _)
    (fun r hr => ⟨r, List.mem_of_mem_filter hr, rfl⟩)
  have hdoubted := bounds_foldl (g := fun v x => v.makeDoubtful x.1 (.inFurnace f x.2))
    (fun _ x hu => bounds_makeDoubtful hu x.1 _) (slabsWithSides row.slabA row.slabB) hoff
  unfold State.removeRow
  dsimp only
  refine bounds_raiseSupv ?_ .doubt
  split
  · exact bounds_soakCheck hdoubted f
  · exact hdoubted

theorem bounds_walk (h : Bounds s) (f : Furnace) (c : Nat) (p : Port) : Bounds (s.walk f c p) := by
  have hmoved := bounds_mapRows h f (fun rows => (s.furnaceParams f).walkedRows c rows) (List.length_map _).le
    (fun r hr => by obtain ⟨q, hq, rfl⟩ := List.mem_map.mp hr; exact ⟨q, hq, rfl⟩)
  unfold State.walk
  dsimp only
  have hlogged : Bounds (if (s.furnaceParams f).walkClamps c (s.furnace f).rows then
      (s.updateFurnace f fun m => { m with rows := (s.furnaceParams f).walkedRows c (s.furnace f).rows }).logFurnace f .overtravel
        (frontSlab ((s.furnaceParams f).walkedRows c (s.furnace f).rows)) (some p)
      else s.updateFurnace f fun m => { m with rows := (s.furnaceParams f).walkedRows c (s.furnace f).rows }) := by
    split
    · exact bounds_logFurnace hmoved f _ _ _
    · exact hmoved
  split
  · exact bounds_doubtFurnace hlogged f _ _ _
  · exact hlogged

theorem bounds_walkDuringCharge (h : Bounds s) (f : Furnace) : Bounds (s.walkDuringCharge f) := by
  unfold State.walkDuringCharge
  split
  · exact bounds_doubtFurnace h f _ _ _
  · exact h

theorem bounds_shiftRow (h : Bounds s) (f : Furnace) (id : SlabId) (rear : Nat) : Bounds (s.shiftRow f id rear) := by
  refine bounds_mapRows h f (List.map fun r => if r.holds id then { r with rear := rear } else r) (List.length_map _).le
    fun r hr => ?_
  obtain ⟨q, hq, rfl⟩ := List.mem_map.mp hr
  refine ⟨q, hq, ?_⟩
  split <;> rfl

theorem bounds_grantPermit (h : Bounds s) (k : Crane) (id : SlabId) : Bounds (s.grantPermit k id) := by
  have htimed : Bounds ((s.setPlace id (.permitted k)).startPermitTimer k) := bounds_updateCrane (bounds_setPlace h _ _) k _
  unfold State.grantPermit State.pairingTest
  split
  · exact bounds_formPair (bounds_updateSlab htimed id _) id _
  · exact bounds_updateSlab htimed id _

theorem bounds_beginCustody (h : Bounds s) (k : Crane) (id : SlabId) : Bounds (s.beginCustody k id) := bounds_updateCrane h k _

theorem bounds_takeLift (h : Bounds s) (k : Crane) (id : SlabId) : Bounds (s.takeLift k id) :=
  have hstopped : Bounds (s.stopPermitTimer k) := bounds_updateCrane h k _
  bounds_beginCustody (bounds_setPlace hstopped id (.lifted k false)) k id

theorem bounds_lateLiftDoubt (h : Bounds s) (k : Crane) (id : SlabId) : Bounds (s.lateLiftDoubt k id) :=
  bounds_raiseSupv (bounds_logFault (bounds_makeDoubtful (bounds_leaveSequence (bounds_dissolvePair h id) id) id _) _ _ _ _) .doubt

theorem bounds_depositInTurn (h : Bounds s) (k : Crane) (id : SlabId) : Bounds (s.depositInTurn k id) := by
  unfold State.depositInTurn
  dsimp only
  refine bounds_joinLaneTail (bounds_setPlace (bounds_leaveSequence ?_ id) id _) id
  split
  · exact bounds_releaseReservation (bounds_updateCrane h k _) k
  · exact bounds_logFault (bounds_updateCrane h k _) _ _ _ _

theorem bounds_dissolveHeadPair (h : Bounds s) : Bounds s.dissolveHeadPair := by
  unfold State.dissolveHeadPair
  split
  · exact bounds_dissolvePair h _
  · exact h

theorem bounds_depositOutOfTurn (h : Bounds s) (k : Crane) (id : SlabId) : Bounds (s.depositOutOfTurn k id) := by
  have hended : Bounds (s.endCustody k) := bounds_updateCrane h k _
  have hleft := bounds_setPlace (bounds_leaveSequence (bounds_dissolveHeadPair (bounds_dissolvePair hended id)) id) id .onLane
  exact bounds_raiseSupv (bounds_logFault (bounds_laneDoubt (bounds_joinLaneTail hleft id) true) _ _ _ _) .doubt

theorem bounds_beginCharge (h : Bounds s) {f : Furnace} (q : Plan) (hroom : (s.furnace f).rows.length < 48) :
    Bounds (s.beginCharge f q) := by
  have hleft : Bounds { s with lane := s.lane.drop (slabsWithSides q.slabA q.slabB).length } :=
    bounds_of_books h le_rfl le_rfl rfl rfl rfl rfl rfl
  have hentry := bounds_foldl (g := fun t x => t.setPlace x.1 (.atEntry f x.2)) (fun _ x hu => bounds_setPlace hu x.1 _)
    (slabsWithSides q.slabA q.slabB) hleft
  have hsame : ∀ (l : List (SlabId × Side)) (u : State),
      (l.foldl (fun t x => t.setPlace x.1 (.atEntry f x.2)) u).furnaces = u.furnaces := by
    intro l
    induction l with
    | nil => exact fun _ => rfl
    | cons x l ih => exact fun u => ih _
  have hrows : (State.furnace (State.toEntry { s with lane := s.lane.drop (slabsWithSides q.slabA q.slabB).length } f q.slabA q.slabB)
      f).rows = (s.furnace f).rows := by
    rw [State.furnace, State.toEntry, hsame]; rfl
  refine bounds_updateFurnace hentry f _ ?_ ?_
  · exact (congrArg (fun rows : List Row => rows.length + 1) hrows).trans_le hroom
  · exact fun r hr => h.residence f r (hrows ▸ hr)

theorem setPlaces_furnaces {α : Type} (id : α → SlabId) (pl : α → Place) (l : List α) (u : State) :
    (l.foldl (fun t x => t.setPlace (id x) (pl x)) u).furnaces = u.furnaces := by
  induction l generalizing u with
  | nil => rfl
  | cons x l ih => exact ih _

theorem bounds_entryOverlap (h : Bounds s) (f : Furnace) (row : Row) (older : Option Row) :
    Bounds (s.entryOverlap f row older) := by
  unfold State.entryOverlap
  split
  · split
    · exact bounds_doubtFurnace h f _ _ _
    · exact h
  · exact h

theorem bounds_endCharge (h : Bounds s) {f : Furnace} {a : SlabId} {b : Option SlabId} {width planned : Nat}
    (hop : (s.furnace f).op = .charging a b width planned) : Bounds (s.endCharge f a b width) := by
  have hended := bounds_foldl (g := fun t x => t.setPlace x.1 (.inFurnace f x.2)) (fun _ x hu => bounds_setPlace hu x.1 _)
    (slabsWithSides a b) (bounds_endOperation h f false)
  have hmap : (State.furnace ((s.endOperation f false).toFurnace f a b) f) =
      { s.furnace f with op := .idle false, chargeTimer := none } := by
    rw [State.furnace, State.toFurnace, setPlaces_furnaces]
    exact (State.updateFurnace_furnace ..).trans (if_pos rfl)
  have hheld : (s.furnace f).rows.length + 1 ≤ 48 := by
    have hrows := h.rows f
    rwa [FurnaceState.rowsHeld, hop] at hrows
  have hinside : Bounds (((s.endOperation f false).toFurnace f a b).updateFurnace f fun m =>
      { m with rows := s.chargedRow f a b width :: m.rows }) := by
    refine bounds_updateFurnace hended f _ ?_ ?_
    · change _ + 0 ≤ 48
      rw [List.length_cons]
      exact hmap ▸ hheld
    · intro r hr
      rcases List.mem_cons.mp hr with rfl | hr
      · exact Nat.zero_le _
      · exact h.residence f r (by rw [State.toFurnace] at hmap; rw [hmap] at hr; exact hr)
  unfold State.endCharge
  refine bounds_entryOverlap ?_ f _ _
  split
  · exact bounds_soakCheck hinside f
  · exact hinside

theorem bounds_returnCharge (h : Bounds s) (f : Furnace) (a : SlabId) (b : Option SlabId) : Bounds (s.returnCharge f a b) := by
  have hlane : Bounds { s.endOperation f false with lane := a :: b.toList ++ s.lane } :=
    bounds_of_books (bounds_endOperation h f false) le_rfl le_rfl rfl rfl rfl rfl rfl
  exact bounds_foldl (g := fun t id => t.setPlace id .onLane) (fun _ x hu => bounds_setPlace hu x _) (a :: b.toList) hlane

/-- R123: a full log makes room for a record. -/
theorem bounds_makeRoom (h : Bounds s) (f : Furnace) : Bounds (s.makeRoom f) ∧ (s.makeRoom f).log.length ≤ 15 := by
  unfold State.makeRoom
  split
  · have hlog := h.log
    have hdropped : Bounds { s with log := s.log.drop 1, logOverrun := true } :=
      bounds_of_lists h h.register h.sequence rfl (by simp only [List.length_drop]; omega) rfl rfl rfl
    exact ⟨bounds_logFurnace hdropped f _ _ _, by simp only [State.logFurnace_log, List.length_drop]; omega⟩
  · next hroom => exact ⟨h, Nat.le_of_lt_succ (Nat.lt_of_not_le hroom)⟩

theorem bounds_pushDischarge (h : Bounds s) (f : Furnace) (r : DischargeRecord) : Bounds (s.pushDischarge f r) := by
  obtain ⟨hmade, hroom⟩ := bounds_makeRoom h f
  have hpushed : Bounds { s.makeRoom f with log := (s.makeRoom f).log ++ [r] } := by
    refine bounds_of_lists hmade hmade.register hmade.sequence rfl ?_ rfl rfl rfl
    simp only [List.length_append, List.length_singleton]
    omega
  exact bounds_raiseWhen hpushed _ _ (kindsInRole_supv .discharge)

theorem bounds_dischargeFront (h : Bounds s) (f : Furnace) (r : Row) : Bounds (s.dischargeFront f r) := by
  have hoff := bounds_mapRows h f List.dropLast (List.length_dropLast.trans_le (Nat.sub_le _ _))
    (fun x hx => ⟨x, List.mem_of_mem_dropLast hx, rfl⟩)
  unfold State.dischargeFront
  dsimp only
  refine bounds_soakCheck (bounds_foldl (g := fun v x => v.dischargeSlab f r x)
    (fun _ x hu => bounds_freeSlab (bounds_pushDischarge hu f _) x.1) _ ?_) f
  split
  · exact bounds_logFurnace hoff f _ _ _
  · exact hoff

/-- Every change of a rule keeps the bounds. -/
theorem bounds_of_change {p : Port} {k : Kind} (h : Bounds s) (hp : s.present p = true) (hc : Change p s k t) : Bounds t := by
  cases hc with
  | kept => exact h
  | hello => exact bounds_hello h p hp
  | park => exact bounds_parkPort h p hp
  | noticeClear kinds => exact bounds_updatePort h p _ hp (kindsInRole_and (h.notices p) _) (h.mask p)
  | noticeMask kinds hkinds => exact bounds_updatePort h p _ hp (h.notices p) hkinds
  | announce a r i hrun hpass => exact bounds_createSlab h (announced_of_checks hpass)
  | move id position hrun hpass =>
    exact bounds_of_books h le_rfl (movedOrder_length_le (moveRefusal_none hpass).1) rfl rfl rfl rfl rfl
  | withdrawListed r => exact bounds_freeSlab (bounds_leaveSequence (bounds_dissolvePair h r.id) r.id) r.id
  | withdrawPermitted r k =>
    exact bounds_freeSlab (bounds_leaveSequence (bounds_dissolvePair (bounds_raiseWhen (bounds_updateCrane h k _) _ _
      (kindsInRole_crane k .permitLapsed)) r.id) r.id) r.id
  | holdSet f => exact bounds_changeHold h f _
  | holdRelease f => exact bounds_changeHold h f _
  | dischargeTake n =>
    exact bounds_of_lists h h.register h.sequence rfl (List.length_drop.trans_le ((Nat.sub_le _ _).trans h.log)) rfl rfl rfl
  | requeue id last hrun hplace hroom =>
    exact bounds_joinSequence (bounds_updateSlab (bounds_resolveTo h id .listed) id _) _ id hroom
  | toLaneTail id => exact bounds_joinLaneTail (bounds_resolveTo h id .onLane) id
  | remove id => exact bounds_freeSlab h id
  | place id last q f hrun hplace hpass hres => exact bounds_placeRow h _ _ (placeChecks_ok hpass).2.2 hres
  | removeRow f id row => exact bounds_removeRow h f row
  | mapWalk f n => exact bounds_walk h f n .p0
  | shiftRow f id rear => exact bounds_shiftRow h f id rear
  | confirmFurnace f => exact bounds_updateFurnace_same h f _ rfl le_rfl
  | confirmLane => exact bounds_laneDoubt h false
  | faultClear b => exact bounds_updateBank h b _ (h.counter b)
  | thresholdSet b start on hstart => exact bounds_updateBank h b _ hstart
  | advisoryEnable b on => exact bounds_updateBank h b _ (h.counter b)
  | paramWrite q v => exact bounds_writeParam h q (clamp_within q v).1 (clamp_within q v).2
  | start => exact bounds_of_books h le_rfl le_rfl rfl rfl rfl rfl rfl
  | restart => exact bounds_restart h
  | clearAll => exact bounds_clearAll h
  | resetRecordClear => exact bounds_of_books h le_rfl le_rfl rfl rfl rfl rfl rfl
  | admissionStall k id => exact bounds_logFault h _ _ _ _
  | grant k r => exact bounds_grantPermit h k r.id
  | permitReturn k id => exact bounds_logFault (bounds_undoPermit h k id) _ _ _ _
  | lift k id => exact bounds_takeLift h k id
  | lateLift k id => exact bounds_logFault (bounds_takeLift h k id) _ _ _ _
  | lateLiftDoubt k id => exact bounds_lateLiftDoubt h k id
  | setdown k id => exact bounds_of_books h le_rfl le_rfl rfl rfl rfl rfl rfl
  | depositInTurn k id => exact bounds_depositInTurn h k id
  | depositOutOfTurn k id => exact bounds_depositOutOfTurn h k id
  | setAside k id => exact bounds_setPlace (bounds_releaseReservation (bounds_updateCrane h k _) k) id _
  | chargeBegin f q hf hpass hfit =>
    obtain ⟨a, b, rfl, -⟩ := headPlan_some (chargeChecks_ok hpass).2
    exact bounds_beginCharge h _ (room_of_fits hfit)
  | lateEnd f => exact bounds_logFurnace h f _ _ _
  | chargeEnd f a b width planned hf hop => exact bounds_endCharge h hop
  | returned f a b => exact bounds_returnCharge h f a b
  | stuck f a b => exact bounds_giveUpCharge h f a b _ _ _
  | walkReport f n => exact bounds_walkDuringCharge (bounds_walk h f n _) f
  | dischargeEmpty f => exact bounds_logFurnace h f _ _ _
  | dischargeMismatch f id => exact bounds_doubtFurnace h f _ _ _
  | discharge f r => exact bounds_dischargeFront h f r

theorem bounds_of_result {p : Port} {k : Kind} (h : Bounds s) (hp : s.present p = true) (hr : RuleResult p s k t) : Bounds t := by
  cases hr with
  | plain hc => exact bounds_of_change h hp hc
  | settled hc => exact bounds_settle s (bounds_of_change h hp hc)

theorem bounds_of_linkLogged {u : State} {p : Port} (h : Bounds s) (hu : LinkLogged s p u) : Bounds u := by
  rcases hu with rfl | ⟨code, rfl⟩
  · exact h
  · exact bounds_logFault h _ _ _ _

theorem bounds_respond (h : Bounds s) {p : Port} (hp : s.present p = true) (r : Response) : Bounds (s.respond p r) :=
  bounds_updatePort h p _ hp (h.notices p) (h.mask p)

/-- Every effect of a command keeps the bounds. -/
theorem bounds_of_effect {c : Instr} (h : Bounds s) (he : Effect c s t) : Bounds t := by
  cases he with
  | nothing => exact h
  | powerOn => exact bounds_of_books (bounds_startUp h false) le_rfl le_rfl rfl rfl rfl rfl rfl
  | lossOfPower => exact bounds_of_books (bounds_coldStart h false) le_rfl le_rfl rfl rfl rfl rfl rfl
  | seconds => exact bounds_advanceSeconds h
  | permitExpiry k => exact bounds_permitExpiry h k
  | custodyExpiry k => exact bounds_custodyExpiry h k
  | chargeExpiry f => exact bounds_chargeExpiry h f
  | silenceExpiry p => exact bounds_silenceExpiry h p
  | machine p u g hc hp hu hg =>
    have hlogged := bounds_of_linkLogged h hu
    obtain ⟨-, hnotices, hmask⟩ := hg (u.port p)
    refine bounds_updatePort hlogged p g ?_ (hnotices ▸ hlogged.notices p) (hmask ▸ hlogged.mask p)
    rcases hu with rfl | ⟨code, rfl⟩
    · exact hp
    · rw [State.logFault_present]; exact hp
  | answer p k body hc hport hw hp hrole hstands =>
    have hresult := result_of_ruleOf p k body s hrole
    exact bounds_respond (bounds_of_result h hp hresult) (present_of_result hrole hp hresult) _

/-! ### Bounds kept by the tick -/

theorem tick_furnace (hw : s.powered = true) (f : Furnace) : s.tick.furnace f = (s.furnace f).ticked := by
  cases f <;> simp only [State.tick, hw, if_true] <;> rfl

theorem tick_crane (hw : s.powered = true) (k : Crane) : s.tick.crane k = (s.crane k).ticked := by
  cases k <;> simp only [State.tick, hw, if_true] <;> rfl

theorem tick_port (hw : s.powered = true) (p : Port) : s.tick.port p = (s.port p).ticked := by
  cases p <;> simp only [State.tick, hw, if_true] <;> rfl

theorem tick_of_unpowered (hw : s.powered = false) : s.tick = s := by
  simp only [State.tick, hw, Bool.false_eq_true, if_false]
  rw [← hw]

theorem bounds_tick (h : Bounds s) : Bounds s.tick := by
  cases hw : s.powered with
  | false => exact (tick_of_unpowered hw).symm ▸ h
  | true =>
    exact {
      register := h.register
      sequence := h.sequence
      rows := fun f => by rw [tick_furnace hw]; exact h.rows f
      residence := fun f => by rw [tick_furnace hw]; exact h.residence f
      log := h.log
      counter := h.counter
      notices := fun p => by rw [tick_port hw]; exact h.notices p
      mask := fun p => by rw [tick_port hw]; exact h.mask p
      params := h.params
      absent := fun p hp => by rw [tick_port hw, h.absent p hp]; rfl }

end Bounds

/-- Settles O4: the clock tick and every effect of a command keep the bounds. -/
theorem boundsKept : Obligations.BoundsKept := by
  unfold Obligations.BoundsKept
  intro s t h hstep
  exact keeps_of_step (fun s rest h => bounds_of_books h le_rfl le_rfl rfl rfl rfl rfl rfl) (fun s h => bounds_tick h)
    (fun c s t h he => bounds_of_effect h he) h hstep

end Sys2Proof.Proofs

/-!
PROOFS. The books of the part: its register, lists, cranes, maps and operations. Which operations leave them as they are, and
that in CONFIG no step writes anything into them.
-/

namespace Sys2Proof.Proofs

open Sys2Proof Sys2Proof.Machine

/-- The books of `t` are those of `s`; of a map they hold the slabs, and not the figures of its rows. -/
structure SameBooks (s t : State) : Prop where
  register : t.register = s.register
  doubtList : t.doubtList = s.doubtList
  sequence : t.sequence = s.sequence
  lane : t.lane = s.lane
  reservation : t.reservation = s.reservation
  cranes : t.cranes = s.cranes
  maps : ∀ f : Furnace, (t.furnace f).mapSlabs = (s.furnace f).mapSlabs
  ops : ∀ f : Furnace, (t.furnace f).op = (s.furnace f).op
  timers : ∀ f : Furnace, (t.furnace f).chargeTimer = (s.furnace f).chargeTimer

section Books

variable {s t u : State}

theorem SameBooks.refl (s : State) : SameBooks s s := ⟨rfl, rfl, rfl, rfl, rfl, rfl, fun _ => rfl, fun _ => rfl, fun _ => rfl⟩

theorem SameBooks.trans (h : SameBooks s t) (g : SameBooks t u) : SameBooks s u where
  register := g.register.trans h.register
  doubtList := g.doubtList.trans h.doubtList
  sequence := g.sequence.trans h.sequence
  lane := g.lane.trans h.lane
  reservation := g.reservation.trans h.reservation
  cranes := g.cranes.trans h.cranes
  maps f := (g.maps f).trans (h.maps f)
  ops f := (g.ops f).trans (h.ops f)
  timers f := (g.timers f).trans (h.timers f)

/-! ### Operations that leave the books -/

theorem sameBooks_of_ports (s : State) (banks : ByBank Bank) (ports : ByPort PortState) :
    SameBooks s { s with banks := banks, ports := ports } := ⟨rfl, rfl, rfl, rfl, rfl, rfl, fun _ => rfl, fun _ => rfl, fun _ => rfl⟩

theorem sameBooks_updatePort (s : State) (p : Port) (g : PortState → PortState) : SameBooks s (s.updatePort p g) :=
  sameBooks_of_ports s s.banks _

theorem sameBooks_updateBank (s : State) (b : BankId) (g : Bank → Bank) : SameBooks s (s.updateBank b g) :=
  sameBooks_of_ports s _ s.ports

theorem sameBooks_raiseWhen (s : State) (c : Bool) (p : Port) (bit : Byte) : SameBooks s (s.raiseWhen c p bit) :=
  sameBooks_of_ports s s.banks _

theorem sameBooks_logFault (s : State) (b : BankId) (code : FaultCode) (slab : Option SlabId) (port : Option Port) :
    SameBooks s (s.logFault b code slab port) := by
  rw [State.logFault_eq]
  exact sameBooks_of_ports s _ _

theorem sameBooks_settle (s t : State) : SameBooks t (settle s t) := by
  rw [settle_eq]
  exact sameBooks_of_ports t t.banks _

/-- A furnace whose slabs, operation and timer stay. -/
theorem sameBooks_updateFurnace (s : State) (f : Furnace) (g : FurnaceState → FurnaceState)
    (hmap : (g (s.furnace f)).mapSlabs = (s.furnace f).mapSlabs) (hop : (g (s.furnace f)).op = (s.furnace f).op)
    (htimer : (g (s.furnace f)).chargeTimer = (s.furnace f).chargeTimer) : SameBooks s (s.updateFurnace f g) where
  register := rfl
  doubtList := rfl
  sequence := rfl
  lane := rfl
  reservation := rfl
  cranes := rfl
  maps e := by rw [State.updateFurnace_furnace]; split <;> simp [*]
  ops e := by rw [State.updateFurnace_furnace]; split <;> simp [*]
  timers e := by rw [State.updateFurnace_furnace]; split <;> simp [*]

theorem sameBooks_changeHold (s : State) (f : Furnace) (g : HoldSet → HoldSet) : SameBooks s (s.changeHold f g) :=
  sameBooks_updateFurnace s f _ rfl rfl rfl

theorem sameBooks_setDoubt (s : State) (f : Furnace) (on : Bool) :
    SameBooks s (s.updateFurnace f fun m => { m with doubt := on }) := sameBooks_updateFurnace s f _ rfl rfl rfl

theorem sameBooks_doubtFurnace (s : State) (f : Furnace) (code : FaultCode) (slab : Option SlabId) (port : Option Port) :
    SameBooks s (s.doubtFurnace f code slab port) :=
  (sameBooks_setDoubt s f true).trans ((sameBooks_logFault _ _ code slab port).trans (sameBooks_raiseWhen _ _ _ _))

/-- R104: the slabs of rows that keep their slabs. -/
theorem slabs_of_mapped {g : Row → Row} (hg : ∀ r, (g r).slabA = r.slabA ∧ (g r).slabB = r.slabB) (rows : List Row) :
    (rows.map g).flatMap (fun r => slabsWithSides r.slabA r.slabB) = rows.flatMap fun r => slabsWithSides r.slabA r.slabB := by
  rw [List.flatMap_map]
  exact congrArg (rows.flatMap ·) (funext fun r => by rw [(hg r).1, (hg r).2])

theorem slabs_of_markFront (rows : List Row) :
    (markFront rows).flatMap (fun r => slabsWithSides r.slabA r.slabB) = rows.flatMap fun r => slabsWithSides r.slabA r.slabB := by
  induction rows with
  | nil => rfl
  | cons x rest ih =>
    cases rest with
    | nil => rfl
    | cons y rest => rw [markFront, List.flatMap_cons, List.flatMap_cons, ih]

theorem sameBooks_mapRows (s : State) (f : Furnace) {g : Row → Row}
    (hg : ∀ r, (g r).slabA = r.slabA ∧ (g r).slabB = r.slabB) :
    SameBooks s (s.updateFurnace f fun m => { m with rows := m.rows.map g }) :=
  sameBooks_updateFurnace s f _ (slabs_of_mapped hg _) rfl rfl

theorem sameBooks_soakCheck (s : State) (f : Furnace) : SameBooks s (s.soakCheck f) := by
  have hmarked : SameBooks s (s.updateFurnace f fun m => { m with rows := if s.soakDue f then markFront m.rows else m.rows }) := by
    refine sameBooks_updateFurnace s f _ ?_ rfl rfl
    unfold FurnaceState.mapSlabs
    dsimp only
    split
    · exact slabs_of_markFront _
    · rfl
  exact hmarked.trans (sameBooks_raiseWhen _ _ _ _)

theorem sameBooks_ageMap (s : State) (f : Furnace) : SameBooks s (s.ageMap f) :=
  (sameBooks_mapRows s f (g := Row.aged) fun _ => ⟨rfl, rfl⟩).trans (sameBooks_soakCheck _ f)

theorem sameBooks_advanceSeconds (s : State) : SameBooks s s.advanceSeconds := by
  have hstart : SameBooks s { s with runningSeconds := s.runningSeconds + 1 } :=
    ⟨rfl, rfl, rfl, rfl, rfl, rfl, fun _ => rfl, fun _ => rfl, fun _ => rfl⟩
  exact hstart.trans ((sameBooks_ageMap _ .f1).trans ((sameBooks_ageMap _ .f2).trans (sameBooks_ageMap _ .f3)))

theorem sameBooks_hello (s : State) (p : Port) : SameBooks s (s.hello p) := by
  have hunpark : ∀ u : State, SameBooks u (u.unparkFurnace p) := fun u => by
    unfold State.unparkFurnace
    split
    · exact sameBooks_changeHold u _ _
    · exact .refl u
  have hgreet : ∀ u : State, SameBooks u (u.greet p) := fun u => by
    unfold State.greet
    split
    · exact sameBooks_raiseWhen u _ _ _
    · exact sameBooks_raiseWhen u _ _ _
    · exact .refl u
  exact (sameBooks_updatePort s p _).trans ((hunpark _).trans ((sameBooks_settle s _).trans (hgreet _)))

theorem sameBooks_parkPort (s : State) (p : Port) : SameBooks s (s.parkPort p) := by
  unfold State.parkPort
  dsimp only
  split
  · exact (sameBooks_updatePort s p _).trans (sameBooks_changeHold _ _ _)
  · exact sameBooks_updatePort s p _

theorem sameBooks_walk (s : State) (f : Furnace) (n : Nat) (p : Port) : SameBooks s (s.walk f n p) := by
  have hmoved : SameBooks s (s.updateFurnace f fun m => { m with rows := (s.furnaceParams f).walkedRows n (s.furnace f).rows }) :=
    sameBooks_mapRows s f (g := fun r => (r.moved (n * (s.furnaceParams f).stroke)).clamped (s.furnaceParams f).effectiveLength)
      fun _ => ⟨rfl, rfl⟩
  have hlogged : SameBooks s (if (s.furnaceParams f).walkClamps n (s.furnace f).rows then
      (s.updateFurnace f fun m => { m with rows := (s.furnaceParams f).walkedRows n (s.furnace f).rows }).logFurnace f .overtravel
        (frontSlab ((s.furnaceParams f).walkedRows n (s.furnace f).rows)) (some p)
      else s.updateFurnace f fun m => { m with rows := (s.furnaceParams f).walkedRows n (s.furnace f).rows }) := by
    split
    · exact hmoved.trans (sameBooks_logFault _ _ _ _ _)
    · exact hmoved
  unfold State.walk
  dsimp only
  split
  · exact hlogged.trans (sameBooks_doubtFurnace _ _ _ _ _)
  · exact hlogged

theorem sameBooks_walkDuringCharge (s : State) (f : Furnace) : SameBooks s (s.walkDuringCharge f) := by
  unfold State.walkDuringCharge
  split
  · exact sameBooks_doubtFurnace s _ _ _ _
  · exact .refl s

theorem sameBooks_shiftRow (s : State) (f : Furnace) (id : SlabId) (rear : Nat) : SameBooks s (s.shiftRow f id rear) :=
  sameBooks_mapRows s f fun r => by split <;> exact ⟨rfl, rfl⟩

theorem sameBooks_writeParam (s : State) (q : ParamId) (v : Nat) : SameBooks s (s.writeParam q v) :=
  ⟨rfl, rfl, rfl, rfl, rfl, rfl, fun _ => rfl, fun _ => rfl, fun _ => rfl⟩

theorem sameBooks_answered (p : Port) (x : State × Response) : SameBooks x.1 (answered p x) :=
  sameBooks_updatePort x.1 p fun q => { q with exchange := .responseReady x.2.frame }

theorem sameBooks_linkLogged {p : Port} (hu : LinkLogged s p u) : SameBooks s u := by
  rcases hu with rfl | ⟨code, rfl⟩
  · exact .refl u
  · exact sameBooks_logFault s _ _ _ _

theorem sameBooks_of_setting (s : State) (powered written : Bool) (mode : Mode) (record : ResetRecord) (seconds : Word32) :
    SameBooks s { s with powered := powered, storeWritten := written, mode := mode, resetRecord := record,
                         runningSeconds := seconds } :=
  ⟨rfl, rfl, rfl, rfl, rfl, rfl, fun _ => rfl, fun _ => rfl, fun _ => rfl⟩

theorem sameBooks_queue (s : State) (rest : List Instr) : SameBooks s { s with pending := rest } :=
  ⟨rfl, rfl, rfl, rfl, rfl, rfl, fun _ => rfl, fun _ => rfl, fun _ => rfl⟩

/-! ### CONFIG tracks nothing (O5) -/

theorem rows_eq_nil_iff (m : FurnaceState) : m.rows = [] ↔ m.mapSlabs = [] := by
  have hrow : ∀ a b, slabsWithSides a b ≠ [] := fun a b => by cases b <;> exact List.cons_ne_nil _ _
  rw [FurnaceState.mapSlabs, List.flatMap_eq_nil_iff]
  exact ⟨fun h => h ▸ nofun, fun h => List.eq_nil_iff_forall_not_mem.mpr fun r hr => hrow _ _ (h r hr)⟩

theorem tracksNothing_of_sameBooks (h : SameBooks s t) (hs : TracksNothing s) : TracksNothing t where
  register := h.register.trans hs.register
  doubtList := h.doubtList.trans hs.doubtList
  sequence := h.sequence.trans hs.sequence
  lane := h.lane.trans hs.lane
  reservation := h.reservation.trans hs.reservation
  cranes k := (congrArg (ByCrane.get · k) h.cranes).trans (hs.cranes k)
  maps f := by
    obtain ⟨hrows, hop, htimer⟩ := hs.maps f
    rw [rows_eq_nil_iff] at hrows ⊢
    exact ⟨(h.maps f).trans hrows, by rw [h.ops f]; exact hop, (h.timers f).trans htimer⟩

/-- R181, R182: the erasure tracks nothing. -/
theorem tracksNothing_of_erased (hregister : t.register = []) (hdoubt : t.doubtList = []) (hsequence : t.sequence = [])
    (hlane : t.lane = []) (hreservation : t.reservation = none) (hcranes : t.cranes = ⟨.fresh, .fresh⟩)
    (hfurnaces : t.furnaces = ⟨.fresh, .fresh, .fresh⟩) : TracksNothing t where
  register := hregister
  doubtList := hdoubt
  sequence := hsequence
  lane := hlane
  reservation := hreservation
  cranes k := by rw [State.crane, hcranes]; cases k <;> rfl
  maps f := by rw [State.furnace, hfurnaces]; cases f <;> exact ⟨rfl, rfl, rfl⟩

theorem tracksNothing_coldStart (h : TracksNothing s) (keepSel : Bool) : TracksNothing (s.coldStart keepSel) where
  register := h.register
  doubtList := h.doubtList
  sequence := h.sequence
  lane := h.lane
  reservation := rfl
  cranes k := by cases k <;> rfl
  maps f := by
    obtain ⟨hrows, hop, -⟩ := h.maps f
    rw [coldStart_furnace]
    exact ⟨hrows, hop, rfl⟩

theorem tracksNothing_unpowered (h : TracksNothing s) : TracksNothing { s with powered := false } :=
  ⟨h.register, h.doubtList, h.sequence, h.lane, h.reservation, h.cranes, h.maps⟩

/-- R181: a start-up ends in CONFIG only where the store was never written or held CONFIG. -/
theorem tracksNothing_startUp (h : s.mode = .config → TracksNothing s) (keepSel : Bool)
    (hmode : (s.startUp keepSel).mode = .config) : TracksNothing (s.startUp keepSel) := by
  unfold State.startUp at hmode ⊢
  dsimp only at hmode ⊢
  split
  · exact tracksNothing_of_erased rfl rfl rfl rfl rfl rfl rfl
  · next hwritten =>
    rw [if_neg hwritten] at hmode
    split
    · next hconfig => exact tracksNothing_coldStart (h hconfig) keepSel
    · next hrun =>
      rw [hrun] at hmode
      dsimp only at hmode
      rw [mode_of_setting (setting_recover _), hrun] at hmode
      cases hmode

/-- In CONFIG the changes that a rule can make leave the books, but for a start-up and a CLEAR_ALL. -/
theorem sameBooks_of_config {p : Port} {k : Kind} (hconfig : s.mode = .config)
    (hp0 : k ≠ .hello → k ≠ .status → p = .p0) (hc : Change p s k t) (hrestart : k ≠ .restart) (hclear : k ≠ .clearAll) :
    SameBooks s t := by
  have hcrane : ∀ {j : Crane}, portCrane p = some j → k ≠ .hello → k ≠ .status → False := fun hj h₁ h₂ => by
    cases hp0 h₁ h₂; cases hj
  have hfurnace : ∀ {f : Furnace}, portFurnace p = some f → k ≠ .hello → k ≠ .status → False := fun hf h₁ h₂ => by
    cases hp0 h₁ h₂; cases hf
  have hnotRun : s.mode ≠ .run := fun h => by rw [hconfig] at h; cases h
  cases hc with
  | kept => exact .refl s
  | hello => exact sameBooks_hello s p
  | park => exact sameBooks_parkPort s p
  | noticeClear | noticeMask => exact sameBooks_updatePort s p _
  | dischargeTake | start | resetRecordClear => exact ⟨rfl, rfl, rfl, rfl, rfl, rfl, fun _ => rfl, fun _ => rfl, fun _ => rfl⟩
  | faultClear | thresholdSet | advisoryEnable => exact sameBooks_updateBank s _ _
  | paramWrite => exact sameBooks_writeParam s _ _
  | restart => exact absurd rfl hrestart
  | clearAll => exact absurd rfl hclear
  | announce _ _ _ hrun | move _ _ hrun | withdrawListed _ hrun | withdrawPermitted _ _ hrun | holdSet _ hrun
  | holdRelease _ hrun | requeue _ _ hrun | toLaneTail _ _ hrun | remove _ _ hrun | place _ _ _ _ hrun | removeRow _ _ _ hrun
  | mapWalk _ _ hrun | shiftRow _ _ _ hrun | confirmFurnace _ hrun | confirmLane hrun => exact absurd hrun hnotRun
  | admissionStall _ _ hj | grant _ _ hj | permitReturn _ _ hj | lift _ _ hj | lateLift _ _ hj | lateLiftDoubt _ _ hj
  | setdown _ _ hj | depositInTurn _ _ hj | depositOutOfTurn _ _ hj | setAside _ _ hj => exact (hcrane hj nofun nofun).elim
  | chargeBegin _ _ hf | chargeEnd _ _ _ _ _ hf | returned _ _ _ _ _ hf | stuck _ _ _ _ _ hf | walkReport _ _ hf
  | dischargeEmpty _ hf | dischargeMismatch _ _ hf | discharge _ _ hf => exact (hfurnace hf nofun nofun).elim
  | lateEnd _ _ hf hk => rcases hk with rfl | rfl <;> exact (hfurnace hf nofun nofun).elim

/-- R179, R181, R182: only a start-up and a CLEAR_ALL enter CONFIG. -/
theorem config_of_change {p : Port} {k : Kind} (hc : Change p s k t) (hrestart : k ≠ .restart) (hclear : k ≠ .clearAll)
    (hmode : t.mode = .config) : s.mode = .config := by
  rcases setting_of_change hc with hsame | hk
  · exact (mode_of_setting hsame).symm.trans hmode
  · cases hc with
    | start hconfig => exact hconfig
    | restart => exact absurd rfl hrestart
    | clearAll => exact absurd rfl hclear
    | kept | paramWrite | resetRecordClear => exact hmode
    | lateEnd _ _ _ hkind => rcases hkind with rfl | rfl <;> exact absurd hk (by simp [Kind.changesSetting])
    | _ => exact absurd hk (by simp [Kind.changesSetting])

theorem tracksNothing_of_change {p : Port} {k : Kind} (h : s.mode = .config → TracksNothing s)
    (hstands : s.standingRefusal p k = none) (hc : Change p s k t) (hmode : t.mode = .config) : TracksNothing t := by
  by_cases hrestart : k = .restart
  · subst hrestart
    cases hc with
    | kept => exact h hmode
    | restart => exact tracksNothing_of_sameBooks (sameBooks_of_setting (s.startUp true) _ _ _ _ _) (tracksNothing_startUp h true hmode)
    | lateEnd _ _ _ hk => rcases hk with hk | hk <;> cases hk
  by_cases hclear : k = .clearAll
  · subst hclear
    cases hc with
    | kept => exact h hmode
    | clearAll => exact tracksNothing_of_erased rfl rfl rfl rfl rfl rfl rfl
    | lateEnd _ _ _ hk => rcases hk with hk | hk <;> cases hk
  have hconfig : s.mode = .config := config_of_change hc hrestart hclear hmode
  refine tracksNothing_of_sameBooks (sameBooks_of_config hconfig (fun hhello hstatus => ?_) hc hrestart hclear) (h hconfig)
  by_contra hp
  rw [running_of_stands hstands hp hhello hstatus] at hconfig
  cases hconfig

/-- In CONFIG no timer of a crane or a charge runs, so that none expires. -/
theorem timers_of_tracksNothing (h : TracksNothing s) : (∀ k, s.permitExpiry k = s) ∧ (∀ k, s.custodyExpiry k = s) ∧
    (∀ f, s.chargeExpiry f = s) := by
  refine ⟨fun k => ?_, fun k => ?_, fun f => ?_⟩
  · rw [State.permitExpiry, h.cranes k]; rfl
  · rw [State.custodyExpiry, h.cranes k]; rfl
  · rw [State.chargeExpiry, (h.maps f).2.2]

/-- R80, R172: in CONFIG the loss of a port takes nothing from a crane, and leaves the furnaces. -/
theorem sameBooks_silenceExpiry (h : TracksNothing s) (hconfig : s.mode = .config) (p : Port) :
    SameBooks s (s.silenceExpiry p) := by
  unfold State.silenceExpiry
  split
  · have hlost : SameBooks s (((s.updatePort p fun q => { q with link := .lost, silence := none }).logFault .link .portSilent none
        (some p)).raiseWhen (p != .p0) .p0 SupvNotice.portLost.bit) :=
      (sameBooks_updatePort s p _).trans ((sameBooks_logFault _ _ _ _ _).trans (sameBooks_raiseWhen _ _ _ _))
    refine hlost.trans (SameBooks.trans ?_ (sameBooks_settle s _))
    have hnothing := tracksNothing_of_sameBooks hlost h
    have hmode : (((s.updatePort p fun q => { q with link := .lost, silence := none }).logFault .link .portSilent none
        (some p)).raiseWhen (p != .p0) .p0 SupvNotice.portLost.bit).mode = .config := by simpa using hconfig
    rw [State.losePort]
    generalize ((s.updatePort p fun q => { q with link := .lost, silence := none }).logFault .link .portSilent none
        (some p)).raiseWhen (p != .p0) .p0 SupvNotice.portLost.bit = u at hnothing hmode
    unfold State.roleLoss
    split
    · next k _ =>
      have hpermit : u.permitOf k = none := by rw [State.permitOf, hnothing.register]; rfl
      simp only [State.craneLost, hpermit, hnothing.cranes k]
      exact .refl u
    · simp only [State.controllerLost, hmode]
      exact .refl u
    · exact .refl u
  · exact .refl s

theorem tracksNothing_tick (h : TracksNothing s) : TracksNothing s.tick where
  register := h.register
  doubtList := h.doubtList
  sequence := h.sequence
  lane := h.lane
  reservation := h.reservation
  cranes k := by
    cases hw : s.powered with
    | false => rw [tick_of_unpowered hw]; exact h.cranes k
    | true => rw [tick_crane hw, h.cranes k]; rfl
  maps f := by
    cases hw : s.powered with
    | false => rw [tick_of_unpowered hw]; exact h.maps f
    | true =>
      obtain ⟨hrows, hop, htimer⟩ := h.maps f
      rw [tick_furnace hw]
      exact ⟨hrows, hop, by rw [FurnaceState.ticked, htimer]; rfl⟩

theorem tracksNothing_of_effect {c : Instr} (h : s.mode = .config → TracksNothing s) (he : Effect c s t)
    (hmode : t.mode = .config) : TracksNothing t := by
  cases he with
  | nothing => exact h hmode
  | powerOn => exact tracksNothing_of_sameBooks (sameBooks_of_setting (s.startUp false) _ _ _ _ _) (tracksNothing_startUp h false hmode)
  | lossOfPower => exact tracksNothing_unpowered (tracksNothing_coldStart (h hmode) false)
  | seconds =>
    have hconfig : s.mode = .config := (congrArg Setting.mode (setting_advanceSeconds s)).symm.trans hmode
    exact tracksNothing_of_sameBooks (sameBooks_advanceSeconds s) (h hconfig)
  | permitExpiry k =>
    have hs := h ((mode_of_setting (setting_permitExpiry s k)).symm.trans hmode)
    rw [(timers_of_tracksNothing hs).1 k]
    exact hs
  | custodyExpiry k =>
    have hs := h ((mode_of_setting (setting_custodyExpiry s k)).symm.trans hmode)
    rw [(timers_of_tracksNothing hs).2.1 k]
    exact hs
  | chargeExpiry f =>
    have hs := h ((mode_of_setting (setting_chargeExpiry s f)).symm.trans hmode)
    rw [(timers_of_tracksNothing hs).2.2 f]
    exact hs
  | silenceExpiry p =>
    have hconfig := (mode_of_setting (setting_silenceExpiry s p)).symm.trans hmode
    exact tracksNothing_of_sameBooks (sameBooks_silenceExpiry (h hconfig) hconfig p) (h hconfig)
  | machine p u g hc hp hu =>
    have hconfig : s.mode = .config := (mode_of_setting (setting_of_linkLogged hu)).symm.trans hmode
    exact tracksNothing_of_sameBooks ((sameBooks_linkLogged hu).trans (sameBooks_updatePort u p g)) (h hconfig)
  | answer p k body hc hport hw hp hrole hstands =>
    refine tracksNothing_of_sameBooks (sameBooks_answered p (ruleOf p body k s)) ?_
    have hresult := result_of_ruleOf p k body s hrole
    change (ruleOf p body k s).1.mode = .config at hmode
    generalize (ruleOf p body k s).1 = u at hresult hmode
    cases hresult with
    | plain hchange => exact tracksNothing_of_change h hstands hchange hmode
    | settled hchange =>
      exact tracksNothing_of_sameBooks (sameBooks_settle s _) (tracksNothing_of_change h hstands hchange (by simpa using hmode))

end Books

/-- Settles O5: what CONFIG allows leaves the books, and RUN ends by an erasure alone. -/
theorem configTracksNothing : Obligations.ConfigTracksNothing := by
  unfold Obligations.ConfigTracksNothing
  intro s t h hstep
  exact keeps_of_step (I := fun u => u.mode = .config → TracksNothing u)
    (fun s rest h hmode => tracksNothing_of_sameBooks (sameBooks_queue s rest) (h hmode))
    (fun s h hmode => tracksNothing_tick (h hmode)) (fun c s t h he hmode => tracksNothing_of_effect h he hmode) h hstep

end Sys2Proof.Proofs

/-!
PROOFS. The account as a ledger: what the register says of each slab, and how often each collection holds it. A slab's location
state names one spot, and that spot alone holds it, once.
-/

namespace Sys2Proof.Proofs

open Sys2Proof Sys2Proof.Machine

/-- R3: the collections that hold slabs; at an entry and in a map the side is part of the spot. -/
inductive Spot where
  | sequence
  | lane
  | doubt
  | entry (f : Furnace) (side : Side)
  | map (f : Furnace) (side : Side)
deriving DecidableEq

/-- R3: the collection that a location state names. -/
def spotOfPlace : Place → Spot
  | .listed | .permitted _ | .lifted _ _ => .sequence
  | .onLane => .lane
  | .atEntry f side => .entry f side
  | .inFurnace f side => .map f side
  | .doubtful _ => .doubt

/-- The collection that the register names for a slab. -/
def spotOf (s : State) (x : SlabId) : Option Spot := (s.place? x).map spotOfPlace

/-- How often a collection holds a slab. -/
def countIn (s : State) (x : SlabId) : Spot → Nat
  | .sequence => s.sequence.count x
  | .lane => s.lane.count x
  | .doubt => s.doubtList.count x
  | .entry f side => (s.furnace f).op.slabs.count (x, side)
  | .map f side => (s.furnace f).mapSlabs.count (x, side)

/-- R3, R21, R56, R104, R142: each slab stands once in the collection that its record names, and nowhere else. -/
def Stands (s : State) : Prop := ∀ x σ, countIn s x σ = if spotOf s x = some σ then 1 else 0

/-- The laws of the register by itself (R1, R2, R5, R142). -/
structure Files (s : State) : Prop where
  ids : (s.register.map fun r => r.id).Pairwise (· < ·)
  valid : ∀ id ∈ s.register.map fun r => r.id, validSlabId id = true
  partners : ∀ x q, s.partner? x = some q → q.id ≠ x ∧ s.partner? q.id = some ⟨x, q.role.other⟩
  single : ∀ x last, s.place? x = some (.doubtful last) → s.partner? x = none

/-- The account, read from the register and the collections. -/
structure Ledger (s : State) : Prop where
  files : Files s
  stands : Stands s
  custody : ∀ k id, (s.crane k).custody = some id → ∃ o, s.place? id = some (.lifted k o)
  lifted : s.powered = true → ∀ id k o, s.place? id = some (.lifted k o) → (s.crane k).custody = some id
  credits : s.creditsHeld ≤ s.params.laneCapacity
  config : s.mode = .config → TracksNothing s

section Ledger

variable {s t : State}

/-! ### The register by id -/

/-- R1: a slab id has one record. -/
theorem slab?_eq_some_iff (h : (s.register.map fun r => r.id).Pairwise (· < ·)) {x : SlabId} {r : SlabRecord} :
    s.slab? x = some r ↔ r ∈ s.register ∧ r.id = x := by
  constructor
  · exact fun hx => ⟨List.mem_of_find?_eq_some hx, State.slab?_id hx⟩
  · rintro ⟨hr, rfl⟩
    obtain ⟨o, ho⟩ : ∃ o, s.slab? r.id = some o :=
      Option.isSome_iff_exists.mp (List.find?_isSome.mpr ⟨r, hr, beq_self_eq_true _⟩)
    have hinj := List.inj_on_of_nodup_map (h.imp fun hlt => hlt.ne) (List.mem_of_find?_eq_some ho) hr (State.slab?_id ho)
    exact ho.trans (congrArg some hinj)

theorem place?_eq_some {x : SlabId} {pl : Place} : s.place? x = some pl ↔ ∃ r, s.slab? x = some r ∧ r.place = pl := by
  simp [State.place?]

theorem partner?_eq_some {x : SlabId} {q : Partner} :
    s.partner? x = some q ↔ ∃ r, s.slab? x = some r ∧ r.partner = some q := by
  simp [State.partner?, Option.bind_eq_some_iff]

theorem spotOf_eq_some {x : SlabId} {σ : Spot} : spotOf s x = some σ ↔ ∃ r, s.slab? x = some r ∧ spotOfPlace r.place = σ := by
  simp [spotOf, State.place?]

theorem isInSequence_iff (pl : Place) : pl.isInSequence = true ↔ spotOfPlace pl = .sequence := by
  cases pl <;> simp [Place.isInSequence, spotOfPlace]

theorem isDoubtful_iff (pl : Place) : pl.isDoubtful = true ↔ spotOfPlace pl = .doubt := by
  cases pl <;> simp [Place.isDoubtful, spotOfPlace]

theorem spotOfPlace_lane (pl : Place) : spotOfPlace pl = .lane ↔ pl = .onLane := by cases pl <;> simp [spotOfPlace]

theorem spotOfPlace_entry (pl : Place) (f : Furnace) (side : Side) : spotOfPlace pl = .entry f side ↔ pl = .atEntry f side := by
  cases pl <;> simp [spotOfPlace]

theorem spotOfPlace_map (pl : Place) (f : Furnace) (side : Side) : spotOfPlace pl = .map f side ↔ pl = .inFurnace f side := by
  cases pl <;> simp [spotOfPlace]

/-! ### The account and the ledger -/

theorem holdsAt_iff (s : State) (x : SlabId) (pl : Place) : s.holdsAt x pl ↔ 0 < countIn s x (spotOfPlace pl) := by
  cases pl <;> simp [State.holdsAt, spotOfPlace, countIn, List.count_pos_iff]

theorem stands_of_account (h : Account s) : Stands s := by
  have hat : ∀ {x σ}, (0 < countIn s x σ ↔ spotOf s x = some σ) → countIn s x σ ≤ 1 →
      countIn s x σ = if spotOf s x = some σ then 1 else 0 := fun hiff hle => by
    split
    · next hspot => have := hiff.mpr hspot; omega
    · next hspot => have := mt hiff.mp hspot; omega
  have hheld : ∀ {x σ}, spotOf s x = some σ → 0 < countIn s x σ := fun hspot => by
    obtain ⟨r, hr, rfl⟩ := spotOf_eq_some.mp hspot
    obtain ⟨hmem, rfl⟩ := (slab?_eq_some_iff h.ids).mp hr
    exact (holdsAt_iff s _ _).mp (h.held r hmem)
  have hspot : ∀ {x r σ}, r ∈ s.register → r.id = x → spotOfPlace r.place = σ → spotOf s x = some σ := fun hr hid hσ =>
    spotOf_eq_some.mpr ⟨_, (slab?_eq_some_iff h.ids).mpr ⟨hr, hid⟩, hσ⟩
  intro x σ
  refine hat ⟨fun hpos => ?_, hheld⟩ ?_
  · cases σ with
    | sequence =>
      obtain ⟨r, hr, hid, hplace⟩ := h.sequence x (List.count_pos_iff.mp hpos)
      exact hspot hr hid ((isInSequence_iff _).mp hplace)
    | lane =>
      obtain ⟨r, hr, hid, hplace⟩ := h.lane x (List.count_pos_iff.mp hpos)
      exact hspot hr hid ((spotOfPlace_lane _).mpr hplace)
    | doubt =>
      obtain ⟨r, hr, hid, hplace, -⟩ := h.doubt x (List.count_pos_iff.mp hpos)
      exact hspot hr hid ((isDoubtful_iff _).mp hplace)
    | entry f side =>
      obtain ⟨r, hr, hid, hplace⟩ := h.entry f (x, side) (List.count_pos_iff.mp hpos)
      exact hspot hr hid ((spotOfPlace_entry _ _ _).mpr hplace)
    | map f side =>
      obtain ⟨r, hr, hid, hplace⟩ := h.rows f (x, side) (List.count_pos_iff.mp hpos)
      exact hspot hr hid ((spotOfPlace_map _ _ _).mpr hplace)
  · obtain ⟨hsequence, hlane, hdoubt⟩ := h.once
    cases σ with
    | sequence => exact List.nodup_iff_count_le_one.mp hsequence x
    | lane => exact List.nodup_iff_count_le_one.mp hlane x
    | doubt => exact List.nodup_iff_count_le_one.mp hdoubt x
    | entry f side => exact List.nodup_iff_count_le_one.mp (.of_map _ (h.onceInFurnace f).1) _
    | map f side => exact List.nodup_iff_count_le_one.mp (.of_map _ (h.onceInFurnace f).2) _

theorem files_of_account (h : Account s) : Files s where
  ids := h.ids
  valid := by simpa using h.valid
  partners x q hq := by
    obtain ⟨r, hr, hpartner⟩ := partner?_eq_some.mp hq
    obtain ⟨hmem, rfl⟩ := (slab?_eq_some_iff h.ids).mp hr
    obtain ⟨hne, o, ho, hid, hback⟩ := h.partners r hmem q hpartner
    exact ⟨hne, partner?_eq_some.mpr ⟨o, (slab?_eq_some_iff h.ids).mpr ⟨ho, hid⟩, hback⟩⟩
  single x last hplace := by
    have hspot : spotOf s x = some .doubt := by simp [spotOf, hplace, spotOfPlace]
    have hcount := stands_of_account h x .doubt
    rw [if_pos hspot] at hcount
    obtain ⟨r, hr, hid, -, hsingle⟩ := h.doubt x (List.count_pos_iff.mp (Nat.lt_of_lt_of_eq Nat.one_pos hcount.symm))
    rw [State.partner?, (slab?_eq_some_iff h.ids).mpr ⟨hr, hid⟩]
    exact hsingle

theorem ledger_of_account (h : Account s) : Ledger s where
  files := files_of_account h
  stands := stands_of_account h
  custody k id hid := by
    obtain ⟨r, hr, hid, o, hplace⟩ := h.custody k id hid
    exact ⟨o, place?_eq_some.mpr ⟨r, (slab?_eq_some_iff h.ids).mpr ⟨hr, hid⟩, hplace⟩⟩
  lifted hw id k o hplace := by
    obtain ⟨r, hr, hat⟩ := place?_eq_some.mp hplace
    obtain ⟨hmem, rfl⟩ := (slab?_eq_some_iff h.ids).mp hr
    exact h.lifted hw r hmem k o hat
  credits := h.credits
  config := h.config

/-- A list of slabs with sides in which each slab has one side. -/
theorem nodup_fst_of_count {l : List (SlabId × Side)} {spot : SlabId → Option Spot} {σ : Side → Spot}
    (hσ : ∀ a b, σ a = σ b → a = b) (h : ∀ x side, l.count (x, side) = if spot x = some (σ side) then 1 else 0) :
    (l.map Prod.fst).Nodup := by
  refine List.Nodup.map_on ?_ (List.nodup_iff_count_le_one.mpr fun x => ?_)
  · rintro ⟨x, a⟩ ha ⟨y, b⟩ hb rfl
    have hat : ∀ c, (x, c) ∈ l → spot x = some (σ c) := fun c hc => by
      by_contra hne
      have := h x c
      rw [if_neg hne] at this
      exact absurd (List.count_pos_iff.mpr hc) (by omega)
    rw [hσ a b (Option.some_injective _ ((hat a ha).symm.trans (hat b hb)))]
  · rw [h]
    split <;> omega

theorem account_of_ledger (h : Ledger s) : Account s := by
  have hids := h.files.ids
  have hslab : ∀ {x r}, s.slab? x = some r ↔ r ∈ s.register ∧ r.id = x := slab?_eq_some_iff hids
  have hrecord : ∀ {x σ}, 0 < countIn s x σ → ∃ r ∈ s.register, r.id = x ∧ spotOfPlace r.place = σ := fun {x σ} hpos => by
    rw [h.stands x σ] at hpos
    have hspot : spotOf s x = some σ := by by_contra hne; rw [if_neg hne] at hpos; cases hpos
    obtain ⟨r, hr, hσ⟩ := spotOf_eq_some.mp hspot
    obtain ⟨hmem, hid⟩ := hslab.mp hr
    exact ⟨r, hmem, hid, hσ⟩
  have honce : ∀ x σ, countIn s x σ ≤ 1 := fun x σ => by rw [h.stands]; split <;> omega
  exact {
    ids := hids
    valid := by simpa using h.files.valid
    held := fun r hr => by
      rw [holdsAt_iff, h.stands, if_pos (spotOf_eq_some.mpr ⟨r, hslab.mpr ⟨hr, rfl⟩, rfl⟩)]
      exact Nat.one_pos
    sequence := fun id hid => by
      obtain ⟨r, hr, hx, hσ⟩ := hrecord (σ := .sequence) (List.count_pos_iff.mpr hid)
      exact ⟨r, hr, hx, (isInSequence_iff _).mpr hσ⟩
    lane := fun id hid => by
      obtain ⟨r, hr, hx, hσ⟩ := hrecord (σ := .lane) (List.count_pos_iff.mpr hid)
      exact ⟨r, hr, hx, (spotOfPlace_lane _).mp hσ⟩
    doubt := fun id hid => by
      obtain ⟨r, hr, hx, hσ⟩ := hrecord (σ := .doubt) (List.count_pos_iff.mpr hid)
      have hdoubtful := (isDoubtful_iff _).mpr hσ
      refine ⟨r, hr, hx, hdoubtful, ?_⟩
      cases hplace : r.place with
      | doubtful last =>
        have hsingle := h.files.single id last (place?_eq_some.mpr ⟨r, hslab.mpr ⟨hr, hx⟩, hplace⟩)
        rwa [State.partner?, hslab.mpr ⟨hr, hx⟩] at hsingle
      | _ => rw [hplace] at hdoubtful; cases hdoubtful
    entry := fun f x hx => by
      obtain ⟨r, hr, hid, hσ⟩ := hrecord (σ := .entry f x.2) (List.count_pos_iff.mpr hx)
      exact ⟨r, hr, hid, (spotOfPlace_entry _ _ _).mp hσ⟩
    rows := fun f x hx => by
      obtain ⟨r, hr, hid, hσ⟩ := hrecord (σ := .map f x.2) (List.count_pos_iff.mpr hx)
      exact ⟨r, hr, hid, (spotOfPlace_map _ _ _).mp hσ⟩
    once := ⟨List.nodup_iff_count_le_one.mpr fun x => honce x .sequence, List.nodup_iff_count_le_one.mpr fun x => honce x .lane,
      List.nodup_iff_count_le_one.mpr fun x => honce x .doubt⟩
    onceInFurnace := fun f => ⟨nodup_fst_of_count (σ := Spot.entry f) (by simp) fun x side => h.stands x (.entry f side),
      nodup_fst_of_count (σ := Spot.map f) (by simp) fun x side => h.stands x (.map f side)⟩
    partners := fun r hr q hq => by
      obtain ⟨hne, hback⟩ := h.files.partners r.id q (partner?_eq_some.mpr ⟨r, hslab.mpr ⟨hr, rfl⟩, hq⟩)
      obtain ⟨o, ho, hpartner⟩ := partner?_eq_some.mp hback
      obtain ⟨hmem, hid⟩ := hslab.mp ho
      exact ⟨hne, o, hmem, hid, hpartner⟩
    custody := fun k id hid => by
      obtain ⟨o, hplace⟩ := h.custody k id hid
      obtain ⟨r, hr, hplace⟩ := place?_eq_some.mp hplace
      obtain ⟨hmem, hx⟩ := hslab.mp hr
      exact ⟨r, hmem, hx, o, hplace⟩
    lifted := fun hw r hr k o hplace =>
      h.lifted hw r.id k o (place?_eq_some.mpr ⟨r, hslab.mpr ⟨hr, rfl⟩, hplace⟩)
    credits := h.credits
    config := h.config }

theorem account_iff_ledger : Account s ↔ Ledger s := ⟨ledger_of_account, account_of_ledger⟩

end Ledger

end Sys2Proof.Proofs

/-!
PROOFS. The operations on the register: what each does to the location states and the partner fields, and that it keeps the laws
of the register.
-/

namespace Sys2Proof.Proofs

open Sys2Proof Sys2Proof.Machine

section Register

variable {s t : State}

/-! ### Location states and partner fields after an operation -/

theorem place?_updateSlab (s : State) (id x : SlabId) (g : SlabRecord → SlabRecord) (hg : ∀ r, (g r).id = r.id) :
    (s.updateSlab id g).place? x = if x = id then (s.slab? x).map fun r => (g r).place else s.place? x := by
  simp only [State.place?, s.updateSlab_slab? id x g hg]
  split <;> simp [Function.comp_def]

/-- A change of a record that leaves its location state. -/
theorem place?_updateSlab_same (s : State) (id x : SlabId) (g : SlabRecord → SlabRecord)
    (hg : ∀ r, (g r).id = r.id ∧ (g r).place = r.place) : (s.updateSlab id g).place? x = s.place? x := by
  rw [place?_updateSlab s id x g fun r => (hg r).1]
  split
  · simp [State.place?, (hg _).2]
  · rfl

theorem partner?_updateSlab (s : State) (id x : SlabId) (g : SlabRecord → SlabRecord) (hg : ∀ r, (g r).id = r.id) :
    (s.updateSlab id g).partner? x = if x = id then (s.slab? x).bind fun r => (g r).partner else s.partner? x := by
  simp only [State.partner?, s.updateSlab_slab? id x g hg]
  split
  · cases s.slab? x <;> rfl
  · rfl

/-- A change of a record that leaves its partner field. -/
theorem partner?_updateSlab_same (s : State) (id x : SlabId) (g : SlabRecord → SlabRecord)
    (hg : ∀ r, (g r).id = r.id ∧ (g r).partner = r.partner) : (s.updateSlab id g).partner? x = s.partner? x := by
  rw [partner?_updateSlab s id x g fun r => (hg r).1]
  split
  · exact congrArg _ (funext fun r => (hg r).2)
  · rfl

theorem paired_iff (r : SlabRecord) (id : SlabId) : r.paired id = true ↔ ∃ q, r.partner = some q ∧ q.id = id := by
  unfold SlabRecord.paired
  cases r.partner <;> simp

/-- R5: the partner fields that the end of a pair leaves: those that neither are the slab's nor name it. -/
theorem partner?_dissolvePair_eq_some (s : State) (id x : SlabId) (q : Partner) :
    (s.dissolvePair id).partner? x = some q ↔ s.partner? x = some q ∧ x ≠ id ∧ q.id ≠ id := by
  simp only [State.partner?, State.dissolvePair_slab?]
  cases hx : s.slab? x with
  | none => simp
  | some r =>
    obtain rfl := State.slab?_id hx
    simp only [Option.map_some, Option.bind_some, Bool.or_eq_true, beq_iff_eq, paired_iff]
    split
    · next hends =>
      refine ⟨nofun, fun ⟨hq, hne, hnamed⟩ => ?_⟩
      rcases hends with hends | ⟨p, hp, hpid⟩
      · exact absurd hends hne
      · rw [hp] at hq; cases hq; exact absurd hpid hnamed
    · next hstays =>
      push Not at hstays
      exact ⟨fun hq => ⟨hq, hstays.1, hstays.2 q hq⟩, fun hq => hq.1⟩

/-- R5, R17: the partner fields that a freed slab leaves. -/
theorem partner?_freeSlab_eq_some (s : State) (id x : SlabId) (q : Partner) :
    (s.freeSlab id).partner? x = some q ↔ s.partner? x = some q ∧ x ≠ id ∧ q.id ≠ id := by
  simp only [State.partner?, State.freeSlab_slab?]
  by_cases hid : x = id
  · simp [hid]
  cases hx : s.slab? x with
  | none => simp [hid]
  | some r =>
    simp only [hid, if_false, Option.map_some, Option.bind_some, SlabRecord.forget_partner, paired_iff, ne_eq, not_false_eq_true,
      true_and]
    split
    · next hnamed =>
      obtain ⟨p, hp, hpid⟩ := hnamed
      refine ⟨nofun, fun ⟨hq, hne⟩ => ?_⟩
      rw [hp] at hq; cases hq; exact absurd hpid hne
    · next hstays =>
      push Not at hstays
      exact ⟨fun hq => ⟨hq, hstays q hq⟩, fun hq => hq.1⟩

theorem partner?_dissolvePair_self (s : State) (id : SlabId) : (s.dissolvePair id).partner? id = none := by
  refine Option.eq_none_iff_forall_not_mem.mpr fun q hq => ?_
  exact ((partner?_dissolvePair_eq_some s id id q).mp hq).2.1 rfl

theorem place?_formPair (s : State) (a b x : SlabId) : (s.formPair a b).place? x = s.place? x :=
  (place?_updateSlab_same (s.updateSlab a fun r => { r with partner := some ⟨b, .first⟩ }) b x
    (fun r => { r with partner := some ⟨a, .second⟩ }) fun _ => ⟨rfl, rfl⟩).trans
    (place?_updateSlab_same s a x (fun r => { r with partner := some ⟨b, .first⟩ }) fun _ => ⟨rfl, rfl⟩)

/-- R5: the partner fields after a pair of two other live slabs has formed. -/
theorem partner?_formPair {a b : SlabId} (ha : s.place? a ≠ none) (hb : s.place? b ≠ none) (hab : a ≠ b) (x : SlabId) :
    (s.formPair a b).partner? x =
      if x = b then some ⟨a, .second⟩ else if x = a then some ⟨b, .first⟩ else s.partner? x := by
  have hlive : ∀ {u : State} {y}, u.place? y ≠ none → ∃ r, u.slab? y = some r := fun hy =>
    Option.ne_none_iff_exists'.mp fun hnone => hy (by rw [State.place?, hnone]; rfl)
  obtain ⟨ra, hra⟩ := hlive ha
  obtain ⟨rb, hrb⟩ := hlive hb
  have hfirst := s.updateSlab_slab? a x (fun r => { r with partner := some ⟨b, .first⟩ }) fun _ => rfl
  have hboth := (s.updateSlab a fun r => { r with partner := some ⟨b, .first⟩ }).updateSlab_slab? b x
    (fun r => { r with partner := some ⟨a, .second⟩ }) fun _ => rfl
  rw [State.partner?, State.formPair, hboth, hfirst]
  by_cases hxb : x = b
  · simp [hxb, hab.symm, hrb]
  · by_cases hxa : x = a
    · simp [hxa, hab, hra]
    · simp [hxb, hxa, State.partner?]

/-- R14: the record of a slab after an announcement. -/
theorem slab?_createSlab (hs : (s.register.map fun r => r.id).Pairwise (· < ·)) {r : SlabRecord} (hr : s.live r.id = false) (i : Nat)
    (x : SlabId) : (s.createSlab r i).slab? x = if x = r.id then some r else s.slab? x := by
  have hfind : ∀ (l : List SlabRecord), (∀ o ∈ l, o.id ≠ r.id) →
      (insertRecord r l).find? (fun o => o.id == x) = if x = r.id then some r else l.find? fun o => o.id == x := by
    intro l hl
    induction l with
    | nil =>
      by_cases hx : x = r.id
      · simp [insertRecord, hx]
      · simpa [insertRecord, hx] using fun h => hx h.symm
    | cons o l ih =>
      obtain ⟨ho, hrest⟩ := List.forall_mem_cons.mp hl
      unfold insertRecord
      split
      · by_cases hx : x = r.id
        · simp [hx]
        · rw [List.find?_cons_of_neg (by simpa using fun h => hx h.symm), if_neg hx]
      · by_cases hox : o.id = x
        · have hxr : x ≠ r.id := hox ▸ ho
          simp [hox, hxr]
        · rw [List.find?_cons_of_neg (by simpa using hox), List.find?_cons_of_neg (by simpa using hox), ih hrest]
  refine hfind s.register fun o ho hid => ?_
  have : s.slab? r.id = some o := (slab?_eq_some_iff hs).mpr ⟨ho, hid⟩
  rw [State.live, this] at hr
  cases hr

/-! ### Laws of the register -/

theorem files_of_register (h : Files s) (hregister : t.register = s.register) : Files t where
  ids := hregister ▸ h.ids
  valid := hregister ▸ h.valid
  partners := by simpa only [State.partner?, State.slab?, hregister] using h.partners
  single := by simpa only [State.partner?, State.place?, State.slab?, hregister] using h.single

/-- Records that keep their ids, or go. -/
theorem files_of_ids (h : Files s) (hids : (t.register.map fun r => r.id).Sublist (s.register.map fun r => r.id))
    (hpartners : ∀ x q, t.partner? x = some q → q.id ≠ x ∧ t.partner? q.id = some ⟨x, q.role.other⟩)
    (hsingle : ∀ x last, t.place? x = some (.doubtful last) → t.partner? x = none) : Files t where
  ids := h.ids.sublist hids
  valid id hid := h.valid id (hids.subset hid)
  partners := hpartners
  single := hsingle

theorem sublist_of_eq {l m : List SlabId} (h : l = m) : l.Sublist m := h ▸ .refl l

theorem ids_mapped {g : SlabRecord → SlabRecord} (hg : ∀ r, (g r).id = r.id) (l : List SlabRecord) :
    ((l.map g).map fun r => r.id) = l.map fun r => r.id := by
  rw [List.map_map]
  exact List.map_congr_left fun r _ => hg r

theorem ids_updateSlab (s : State) (id : SlabId) {g : SlabRecord → SlabRecord} (hg : ∀ r, (g r).id = r.id) :
    ((s.updateSlab id g).register.map fun r => r.id) = s.register.map fun r => r.id :=
  ids_mapped (fun r => by split <;> simp [hg]) _

theorem ids_dissolvePair (s : State) (id : SlabId) :
    ((s.dissolvePair id).register.map fun r => r.id) = s.register.map fun r => r.id :=
  ids_mapped (fun r => by split <;> simp) _

/-- A change of one record that leaves its partner field and does not make it DOUBTFUL. -/
theorem files_updateSlab (h : Files s) (id : SlabId) {g : SlabRecord → SlabRecord}
    (hg : ∀ r, (g r).id = r.id ∧ (g r).partner = r.partner)
    (hplace : ∀ r last, (g r).place = .doubtful last → r.place = .doubtful last) : Files (s.updateSlab id g) := by
  have hpartner : ∀ x, (s.updateSlab id g).partner? x = s.partner? x := fun x => partner?_updateSlab_same s id x g hg
  refine files_of_ids h (sublist_of_eq (ids_updateSlab s id fun r => (hg r).1)) ?_ ?_
  · simpa only [hpartner] using h.partners
  · intro x last hx
    rw [hpartner]
    rw [place?_updateSlab s id x g fun r => (hg r).1] at hx
    split at hx
    · obtain ⟨r, hr, hdoubt⟩ := Option.map_eq_some_iff.mp hx
      exact h.single x last (place?_eq_some.mpr ⟨r, hr, hplace r last hdoubt⟩)
    · exact h.single x last hx

theorem files_setPlace (h : Files s) (id : SlabId) {pl : Place} (hpl : pl.isDoubtful = false) : Files (s.setPlace id pl) :=
  files_updateSlab h id (fun _ => ⟨rfl, rfl⟩) fun _ _ hr => by subst hr; cases hpl

theorem files_resolveTo (h : Files s) (id : SlabId) {pl : Place} (hpl : pl.isDoubtful = false) : Files (s.resolveTo id pl) :=
  files_of_register (files_updateSlab h id (g := fun r => { r with place := pl, edited := true }) (fun _ => ⟨rfl, rfl⟩)
    fun _ _ hr => by subst hr; cases hpl) rfl

theorem files_dissolvePair (h : Files s) (id : SlabId) : Files (s.dissolvePair id) := by
  refine files_of_ids h (sublist_of_eq (ids_dissolvePair s id)) ?_ ?_
  · intro x q hq
    obtain ⟨hq, hx, hqid⟩ := (partner?_dissolvePair_eq_some s id x q).mp hq
    obtain ⟨hne, hback⟩ := h.partners x q hq
    exact ⟨hne, (partner?_dissolvePair_eq_some s id q.id _).mpr ⟨hback, hqid, hx⟩⟩
  · intro x last hplace
    rw [State.dissolvePair_place?] at hplace
    refine Option.eq_none_iff_forall_not_mem.mpr fun q hq => ?_
    have := ((partner?_dissolvePair_eq_some s id x q).mp hq).1
    rw [h.single x last hplace] at this
    cases this

theorem files_freeSlab (h : Files s) (id : SlabId) : Files (s.freeSlab id) := by
  refine files_of_ids h ?_ ?_ ?_
  · have hmap := ids_mapped (fun r => SlabRecord.forget_id r id) (s.register.filter fun r => r.id != id)
    rw [State.freeSlab, hmap]
    exact List.filter_sublist.map _
  · intro x q hq
    obtain ⟨hq, hx, hqid⟩ := (partner?_freeSlab_eq_some s id x q).mp hq
    obtain ⟨hne, hback⟩ := h.partners x q hq
    exact ⟨hne, (partner?_freeSlab_eq_some s id q.id _).mpr ⟨hback, hqid, hx⟩⟩
  · intro x last hplace
    rw [State.freeSlab_place?] at hplace
    split at hplace
    · cases hplace
    · refine Option.eq_none_iff_forall_not_mem.mpr fun q hq => ?_
      have := ((partner?_freeSlab_eq_some s id x q).mp hq).1
      rw [h.single x last hplace] at this
      cases this

theorem files_makeDoubtful (h : Files s) (id : SlabId) (last : LastKnown) : Files (s.makeDoubtful id last) := by
  have hd := files_dissolvePair h id
  have hpartner : ∀ x, (s.makeDoubtful id last).partner? x = (s.dissolvePair id).partner? x := fun x =>
    (s.dissolvePair id).setPlace_partner? id x (.doubtful last)
  refine files_of_ids hd (sublist_of_eq (ids_updateSlab (s.dissolvePair id) id (g := fun r => { r with place := .doubtful last }) fun _ => rfl)) ?_ ?_
  · simpa only [hpartner] using hd.partners
  · intro x l hplace
    rw [hpartner]
    rw [State.makeDoubtful_place?] at hplace
    split at hplace
    · next hx => exact hx ▸ partner?_dissolvePair_self s id
    · exact hd.single x l ((State.dissolvePair_place? s id x).trans hplace)

/-- R5, R91, R149: a pair of two single slabs that are not DOUBTFUL. -/
theorem files_formPair (h : Files s) {a b : SlabId} {pa pb : Place} (ha : s.place? a = some pa) (hb : s.place? b = some pb)
    (hab : a ≠ b) (hda : pa.isDoubtful = false) (hdb : pb.isDoubtful = false) (hsa : s.partner? a = none)
    (hsb : s.partner? b = none) : Files (s.formPair a b) := by
  have hpartner := partner?_formPair (s := s) (by simp [ha]) (by simp [hb]) hab
  refine files_of_ids h ?_ ?_ ?_
  · exact sublist_of_eq ((ids_updateSlab _ b (g := fun r => { r with partner := some ⟨a, .second⟩ }) fun _ => rfl).trans
      (ids_updateSlab s a (g := fun r => { r with partner := some ⟨b, .first⟩ }) fun _ => rfl))
  · intro x q hq
    rw [hpartner] at hq
    split at hq
    · next hx => cases hq; subst hx; exact ⟨hab, by simp [hpartner, hab, PairRole.other]⟩
    · split at hq
      · next hx => cases hq; subst hx; exact ⟨hab.symm, by simp [hpartner, PairRole.other]⟩
      · next hxb hxa =>
        obtain ⟨hne, hback⟩ := h.partners x q hq
        have hqb : q.id ≠ b := fun he => by rw [he, hsb] at hback; cases hback
        have hqa : q.id ≠ a := fun he => by rw [he, hsa] at hback; cases hback
        exact ⟨hne, by rw [hpartner, if_neg hqb, if_neg hqa]; exact hback⟩
  · intro x last hplace
    rw [place?_formPair] at hplace
    rw [hpartner, if_neg, if_neg]
    · exact h.single x last hplace
    · rintro rfl; rw [hplace] at ha; cases ha; cases hda
    · rintro rfl; rw [hplace] at hb; cases hb; cases hdb

theorem insertRecord_ids_pairwise {r : SlabRecord} {l : List SlabRecord} (h : (l.map fun o => o.id).Pairwise (· < ·))
    (hr : ∀ o ∈ l, o.id ≠ r.id) : ((insertRecord r l).map fun o => o.id).Pairwise (· < ·) := by
  have hmem : ∀ (l : List SlabRecord) (o : SlabRecord), o ∈ insertRecord r l → o = r ∨ o ∈ l := by
    intro l o ho
    induction l with
    | nil => simpa [insertRecord] using ho
    | cons x l ih =>
      unfold insertRecord at ho
      split at ho
      · simpa using ho
      · rcases List.mem_cons.mp ho with rfl | ho
        · simp
        · exact (ih ho).imp_right (List.mem_cons_of_mem _)
  induction l with
  | nil => simp [insertRecord]
  | cons x l ih =>
    obtain ⟨hx, hrest⟩ := List.forall_mem_cons.mp hr
    rw [List.map_cons, List.pairwise_cons] at h
    obtain ⟨hlow, hl⟩ := h
    simp only [List.mem_map, forall_exists_index, and_imp, forall_apply_eq_imp_iff₂] at hlow
    unfold insertRecord
    split
    · next hlt =>
      simp only [List.map_cons, List.pairwise_cons, List.mem_cons, List.mem_map, forall_eq_or_imp, forall_exists_index, and_imp,
        forall_apply_eq_imp_iff₂]
      exact ⟨⟨hlt, fun o ho => hlt.trans (hlow o ho)⟩, hlow, hl⟩
    · next hge =>
      simp only [List.map_cons, List.pairwise_cons, List.mem_map, forall_exists_index, and_imp, forall_apply_eq_imp_iff₂]
      refine ⟨fun o ho => ?_, ih hl hrest⟩
      rcases hmem l o ho with rfl | ho
      · exact lt_of_le_of_ne (Nat.le_of_not_lt hge) hx
      · exact hlow o ho

theorem insertRecord_perm (r : SlabRecord) (l : List SlabRecord) : (insertRecord r l).Perm (r :: l) := by
  induction l with
  | nil => exact .refl _
  | cons x l ih =>
    unfold insertRecord
    split
    · exact .refl _
    · exact (ih.cons x).trans (.swap ..)

theorem files_createSlab (h : Files s) {r : SlabRecord} {i : Nat} (ha : Announced s r i) : Files (s.createSlab r i) := by
  have hslab := slab?_createSlab h.ids ha.fresh i
  have hfresh : s.slab? r.id = none := by simpa [State.live] using ha.fresh
  have hpartner : ∀ x, (s.createSlab r i).partner? x = s.partner? x := fun x => by
    rw [State.partner?, hslab]
    split
    · next hx => rw [State.partner?, hx, hfresh]; exact ha.partner
    · rfl
  have hother : ∀ o ∈ s.register, o.id ≠ r.id := fun o ho hid => by
    rw [(slab?_eq_some_iff h.ids).mpr ⟨ho, hid⟩] at hfresh; cases hfresh
  refine ⟨insertRecord_ids_pairwise h.ids hother, ?_, ?_, ?_⟩
  · intro id hid
    have hmem := ((insertRecord_perm r s.register).map fun o => o.id).mem_iff.mp hid
    rcases List.mem_cons.mp hmem with rfl | hmem
    · exact ha.valid
    · exact h.valid id hmem
  · simpa only [hpartner] using h.partners
  · intro x last hplace
    rw [hpartner]
    rw [State.place?, hslab] at hplace
    split at hplace
    · rw [Option.map_some, ha.place] at hplace; cases hplace
    · exact h.single x last hplace

theorem files_foldl {α : Type} {g : State → α → State} (hg : ∀ u x, Files u → Files (g u x)) (l : List α) (h : Files s) :
    Files (l.foldl g s) := by
  induction l generalizing s with
  | nil => exact h
  | cons x l ih => exact ih (hg s x h)

theorem files_joinLaneTail (h : Files s) (id : SlabId) : Files (s.joinLaneTail id) :=
  files_foldl (fun u x hu => by
    split
    · exact hu
    · exact files_dissolvePair hu x) _ (files_of_register h rfl)

/-! ### Credits (R40) -/

/-- The slabs that hold a credit. -/
def creditIds (s : State) : Finset SlabId := ((s.register.filter fun r => r.place.holdsCredit).map fun r => r.id).toFinset

theorem mem_creditIds (h : Files s) {x : SlabId} : x ∈ creditIds s ↔ ∃ pl, s.place? x = some pl ∧ pl.holdsCredit = true := by
  simp only [creditIds, List.mem_toFinset, List.mem_map, List.mem_filter]
  constructor
  · rintro ⟨r, ⟨hr, hcredit⟩, hid⟩
    exact ⟨r.place, place?_eq_some.mpr ⟨r, (slab?_eq_some_iff h.ids).mpr ⟨hr, hid⟩, rfl⟩, hcredit⟩
  · rintro ⟨pl, hplace, hcredit⟩
    obtain ⟨r, hr, rfl⟩ := place?_eq_some.mp hplace
    obtain ⟨hmem, hid⟩ := (slab?_eq_some_iff h.ids).mp hr
    exact ⟨r, ⟨hmem, hcredit⟩, hid⟩

theorem card_creditIds (h : Files s) : (creditIds s).card = s.creditsHeld := by
  have hnodup : ((s.register.filter fun r => r.place.holdsCredit).map fun r => r.id).Nodup :=
    (h.ids.imp fun hlt => hlt.ne).sublist (List.filter_sublist.map _)
  rw [creditIds, List.toFinset_card_of_nodup hnodup, List.length_map, ← List.countP_eq_length_filter]
  rfl

/-- R40: an operation after which only slabs that held a credit hold one. -/
theorem credits_le (hs : Files s) (ht : Files t) (h : ∀ x pl, t.place? x = some pl → pl.holdsCredit = true →
    ∃ q, s.place? x = some q ∧ q.holdsCredit = true) : t.creditsHeld ≤ s.creditsHeld := by
  rw [← card_creditIds hs, ← card_creditIds ht]
  refine Finset.card_le_card fun x hx => ?_
  obtain ⟨pl, hplace, hcredit⟩ := (mem_creditIds ht).mp hx
  exact (mem_creditIds hs).mpr (h x pl hplace hcredit)

/-- R40: an operation after which at most one further slab holds a credit, where a credit was free. -/
theorem credits_le_of_free (hs : Files s) (ht : Files t) {id : SlabId} (hfree : s.creditsFree ≠ 0) (hparams : t.params = s.params)
    (h : ∀ x pl, x ≠ id → t.place? x = some pl → pl.holdsCredit = true → ∃ q, s.place? x = some q ∧ q.holdsCredit = true) :
    t.creditsHeld ≤ t.params.laneCapacity := by
  have hstep : t.creditsHeld ≤ s.creditsHeld + 1 := by
    rw [← card_creditIds hs, ← card_creditIds ht]
    refine le_trans (Finset.card_le_card fun x hx => ?_) (Finset.card_insert_le id (creditIds s))
    obtain ⟨pl, hplace, hcredit⟩ := (mem_creditIds ht).mp hx
    by_cases hid : x = id
    · exact hid ▸ Finset.mem_insert_self _ _
    · exact Finset.mem_insert_of_mem ((mem_creditIds hs).mpr (h x pl hid hplace hcredit))
  rw [State.creditsFree] at hfree
  rw [hparams]
  omega

end Register

end Sys2Proof.Proofs

/-!
PROOFS. The collections: how often each holds a slab after an operation, and what a slab's move from one collection to another
asks of the operations that make it.
-/

namespace Sys2Proof.Proofs

open Sys2Proof Sys2Proof.Machine

section Counts

variable {s t : State}

/-! ### Counts after an operation -/

theorem countIn_of_sameBooks (h : SameBooks s t) (x : SlabId) (σ : Spot) : countIn t x σ = countIn s x σ := by
  cases σ with
  | sequence => simp only [countIn, h.sequence]
  | lane => simp only [countIn, h.lane]
  | doubt => simp only [countIn, h.doubtList]
  | entry f side => simp only [countIn, h.ops f]
  | map f side => simp only [countIn, h.maps f]

@[simp] theorem countIn_register (s : State) (l : List SlabRecord) (x : SlabId) (σ : Spot) :
    countIn { s with register := l } x σ = countIn s x σ := by cases σ <;> rfl
@[simp] theorem countIn_updateSlab (s : State) (id : SlabId) (g : SlabRecord → SlabRecord) (x : SlabId) (σ : Spot) :
    countIn (s.updateSlab id g) x σ = countIn s x σ := countIn_register s _ x σ
@[simp] theorem countIn_setPlace (s : State) (id : SlabId) (pl : Place) (x : SlabId) (σ : Spot) :
    countIn (s.setPlace id pl) x σ = countIn s x σ := countIn_register s _ x σ
@[simp] theorem countIn_dissolvePair (s : State) (id x : SlabId) (σ : Spot) :
    countIn (s.dissolvePair id) x σ = countIn s x σ := countIn_register s _ x σ
@[simp] theorem countIn_formPair (s : State) (a b x : SlabId) (σ : Spot) :
    countIn (s.formPair a b) x σ = countIn s x σ := countIn_register s _ x σ
@[simp] theorem countIn_updateCrane (s : State) (k : Crane) (g : CraneState → CraneState) (x : SlabId) (σ : Spot) :
    countIn (s.updateCrane k g) x σ = countIn s x σ := by cases σ <;> rfl
@[simp] theorem countIn_endCustody (s : State) (k : Crane) (x : SlabId) (σ : Spot) :
    countIn (s.endCustody k) x σ = countIn s x σ := countIn_updateCrane s k _ x σ
@[simp] theorem countIn_beginCustody (s : State) (k : Crane) (id x : SlabId) (σ : Spot) :
    countIn (s.beginCustody k id) x σ = countIn s x σ := countIn_updateCrane s k _ x σ
@[simp] theorem countIn_stopPermitTimer (s : State) (k : Crane) (x : SlabId) (σ : Spot) :
    countIn (s.stopPermitTimer k) x σ = countIn s x σ := countIn_updateCrane s k _ x σ
@[simp] theorem countIn_startPermitTimer (s : State) (k : Crane) (x : SlabId) (σ : Spot) :
    countIn (s.startPermitTimer k) x σ = countIn s x σ := countIn_updateCrane s k _ x σ
@[simp] theorem countIn_releaseReservation (s : State) (k : Crane) (x : SlabId) (σ : Spot) :
    countIn (s.releaseReservation k) x σ = countIn s x σ := by cases σ <;> rfl
@[simp] theorem countIn_laneDoubt (s : State) (on : Bool) (x : SlabId) (σ : Spot) :
    countIn { s with laneDoubt := on } x σ = countIn s x σ := by cases σ <;> rfl
@[simp] theorem countIn_raiseWhen (s : State) (c : Bool) (p : Port) (bit : Byte) (x : SlabId) (σ : Spot) :
    countIn (s.raiseWhen c p bit) x σ = countIn s x σ := countIn_of_sameBooks (sameBooks_raiseWhen s c p bit) x σ
@[simp] theorem countIn_raiseSupv (s : State) (n : SupvNotice) (x : SlabId) (σ : Spot) :
    countIn (s.raiseSupv n) x σ = countIn s x σ := countIn_raiseWhen s _ _ _ x σ
@[simp] theorem countIn_raiseCrane (s : State) (k : Crane) (n : CraneNotice) (x : SlabId) (σ : Spot) :
    countIn (s.raiseCrane k n) x σ = countIn s x σ := countIn_raiseWhen s _ _ _ x σ
@[simp] theorem countIn_logFault (s : State) (b : BankId) (code : FaultCode) (slab : Option SlabId) (port : Option Port) (x : SlabId)
    (σ : Spot) : countIn (s.logFault b code slab port) x σ = countIn s x σ :=
  countIn_of_sameBooks (sameBooks_logFault s b code slab port) x σ
@[simp] theorem countIn_logFurnace (s : State) (f : Furnace) (code : FaultCode) (slab : Option SlabId) (port : Option Port)
    (x : SlabId) (σ : Spot) : countIn (s.logFurnace f code slab port) x σ = countIn s x σ := countIn_logFault s _ _ _ _ x σ
@[simp] theorem countIn_doubtFurnace (s : State) (f : Furnace) (code : FaultCode) (slab : Option SlabId) (port : Option Port)
    (x : SlabId) (σ : Spot) : countIn (s.doubtFurnace f code slab port) x σ = countIn s x σ :=
  countIn_of_sameBooks (sameBooks_doubtFurnace s f code slab port) x σ
@[simp] theorem countIn_soakCheck (s : State) (f : Furnace) (x : SlabId) (σ : Spot) :
    countIn (s.soakCheck f) x σ = countIn s x σ := countIn_of_sameBooks (sameBooks_soakCheck s f) x σ

/-- R22: an entry leaves the sequence. -/
@[simp] theorem countIn_leaveSequence (s : State) (id x : SlabId) (σ : Spot) :
    countIn (s.leaveSequence id) x σ = if x = id ∧ σ = .sequence then 0 else countIn s x σ := by
  cases σ with
  | sequence =>
    by_cases hx : x = id
    · simp [countIn, State.leaveSequence, hx, List.count_eq_zero]
    · simp [countIn, State.leaveSequence, hx, List.count_filter]
  | _ => simp [countIn]

/-- R22: a slab joins the sequence. -/
@[simp] theorem countIn_joinSequence (s : State) (i : Nat) (id x : SlabId) (σ : Spot) :
    countIn (s.joinSequence i id) x σ = countIn s x σ + if x = id ∧ σ = .sequence then 1 else 0 := by
  cases σ with
  | sequence =>
    have hsplit : s.sequence.count x = (s.sequence.take i).count x + (s.sequence.drop i).count x := by
      rw [← List.count_append, List.take_append_drop]
    simp only [countIn, State.joinSequence, List.count_append, List.count_cons, hsplit, beq_iff_eq, and_true, eq_comm (a := id)]
    omega
  | _ => simp [countIn]

/-- R56: a slab joins the lane. -/
@[simp] theorem countIn_joinLaneTail (s : State) (id x : SlabId) (σ : Spot) :
    countIn (s.joinLaneTail id) x σ = countIn s x σ + if x = id ∧ σ = .lane then 1 else 0 := by
  rw [State.joinLaneTail_eq]
  cases σ with
  | lane => simp [countIn, List.count_append, List.count_cons, eq_comm (a := id)]
  | _ => simp [countIn, State.furnace]

/-- R142: a slab joins the doubt list. -/
@[simp] theorem countIn_makeDoubtful (s : State) (id x : SlabId) (last : LastKnown) (σ : Spot) :
    countIn (s.makeDoubtful id last) x σ = countIn s x σ + if x = id ∧ σ = .doubt then 1 else 0 := by
  cases σ with
  | doubt => simp [countIn, List.count_append, List.count_cons, eq_comm (a := id)]
  | _ => simp [countIn]

theorem countIn_offDoubtList (s : State) (id x : SlabId) (σ : Spot) :
    countIn { s with doubtList := s.doubtList.filter fun d => d != id } x σ =
      if x = id ∧ σ = .doubt then 0 else countIn s x σ := by
  cases σ with
  | doubt =>
    by_cases hx : x = id
    · simp [countIn, hx, List.count_eq_zero]
    · simp [countIn, hx, List.count_filter]
  | _ => simp [countIn, State.furnace]

/-- R16, R142: a freed slab leaves the doubt list. -/
@[simp] theorem countIn_freeSlab (s : State) (id x : SlabId) (σ : Spot) :
    countIn (s.freeSlab id) x σ = if x = id ∧ σ = .doubt then 0 else countIn s x σ :=
  (countIn_register { s with doubtList := s.doubtList.filter fun d => d != id } _ x σ).trans (countIn_offDoubtList s id x σ)

/-- R145: a resolved slab leaves the doubt list. -/
@[simp] theorem countIn_resolveTo (s : State) (id x : SlabId) (pl : Place) (σ : Spot) :
    countIn (s.resolveTo id pl) x σ = if x = id ∧ σ = .doubt then 0 else countIn s x σ :=
  (countIn_register { s with doubtList := s.doubtList.filter fun d => d != id } _ x σ).trans (countIn_offDoubtList s id x σ)

/-! ### Where a slab stands -/

theorem spotOf_of_place {x : SlabId} {pl : Place} (h : s.place? x = some pl) : spotOf s x = some (spotOfPlace pl) := by
  rw [spotOf, h]; rfl

/-- An operation that moves no slab. -/
theorem stands_of_same (hs : Stands s) (hplace : ∀ x, t.place? x = s.place? x) (hcount : ∀ x σ, countIn t x σ = countIn s x σ) :
    Stands t := fun x σ => by
  rw [hcount, spotOf, hplace]
  exact hs x σ

/-- An operation that moves no slab to another collection. -/
theorem stands_of_spots (hs : Stands s) (hspot : ∀ x, spotOf t x = spotOf s x) (hcount : ∀ x σ, countIn t x σ = countIn s x σ) :
    Stands t := fun x σ => by
  rw [hcount, hspot]
  exact hs x σ

/-- An operation that moves one slab, or frees it. -/
theorem stands_of_moved (hs : Stands s) {id : SlabId} {dst : Option Place}
    (hplace : ∀ x, t.place? x = if x = id then dst else s.place? x)
    (hcount : ∀ x σ, countIn t x σ = if x = id then (if dst.map spotOfPlace = some σ then 1 else 0) else countIn s x σ) :
    Stands t := fun x σ => by
  rw [hcount, spotOf, hplace]
  split
  · rfl
  · exact hs x σ

/-! ### Custody (R64) -/

/-- R64: custody and the LIFTED slabs of a part with power agree. -/
def CustodyAgrees (s : State) : Prop := ∀ k id, (s.crane k).custody = some id ↔ ∃ o, s.place? id = some (.lifted k o)

theorem custodyAgrees_of_ledger (h : Ledger s) (hw : s.powered = true) : CustodyAgrees s := fun k id =>
  ⟨h.custody k id, fun ⟨o, ho⟩ => h.lifted hw id k o ho⟩

/-- An operation that leaves custody, and which slabs are LIFTED. -/
theorem custodyAgrees_of_same (h : CustodyAgrees s) (hcranes : ∀ k, (t.crane k).custody = (s.crane k).custody)
    (hlifted : ∀ x k o, t.place? x = some (.lifted k o) ↔ s.place? x = some (.lifted k o)) : CustodyAgrees t := fun k id => by
  simp only [hcranes, hlifted]
  exact h k id

/-- R66, R67: a crane without custody takes a slab that is not LIFTED. -/
theorem custodyAgrees_of_begin (h : CustodyAgrees s) {k : Crane} {id : SlabId} (hnone : (s.crane k).custody = none)
    (hid : ∀ j o, s.place? id ≠ some (.lifted j o))
    (hcranes : ∀ j, (t.crane j).custody = if j = k then some id else (s.crane j).custody)
    (hplace : ∀ x, t.place? x = if x = id then some (.lifted k false) else s.place? x) : CustodyAgrees t := fun j x => by
  rw [hcranes, hplace]
  by_cases hj : j = k
  · subst hj
    by_cases hx : x = id
    · subst hx; simp
    · have hfree : ¬∃ o, s.place? x = some (.lifted j o) := fun hlifted => by
        rw [(h j x).mpr hlifted] at hnone; cases hnone
      simpa [hx, eq_comm (a := id)] using hfree
  · by_cases hx : x = id
    · subst hx
      have hother : (s.crane j).custody ≠ some x := fun hcustody => by
        obtain ⟨o, ho⟩ := (h j x).mp hcustody
        exact hid j o ho
      simp [hj, hother, eq_comm (a := k)]
    · simpa [hj, hx] using h j x

/-- R76, R78, R80: a crane's custody of a slab ends, and the slab is no longer LIFTED. -/
theorem custodyAgrees_of_end (h : CustodyAgrees s) {k : Crane} {id : SlabId} {dst : Option Place}
    (hcustody : (s.crane k).custody = some id) (hdst : ∀ j o, dst ≠ some (.lifted j o))
    (hcranes : ∀ j, (t.crane j).custody = if j = k then none else (s.crane j).custody)
    (hplace : ∀ x, t.place? x = if x = id then dst else s.place? x) : CustodyAgrees t := fun j x => by
  rw [hcranes, hplace]
  obtain ⟨o, ho⟩ := (h k id).mp hcustody
  by_cases hj : j = k
  · subst hj
    by_cases hx : x = id
    · simp [hx, hdst]
    · have hfree : ¬∃ o, s.place? x = some (.lifted j o) := fun hlifted => by
        have := (h j x).mpr hlifted
        rw [hcustody] at this
        exact hx (Option.some_injective _ this).symm
      simpa [hx] using hfree
  · by_cases hx : x = id
    · subst hx
      have hother : (s.crane j).custody ≠ some x := fun hmine => by
        obtain ⟨o', ho'⟩ := (h j x).mp hmine
        rw [ho] at ho'
        cases ho'
        exact hj rfl
      simp [hj, hdst, hother]
    · simpa [hj, hx] using h j x

/-! ### The ledger of a part that runs with power -/

theorem ledger_running (hfiles : Files t) (hstands : Stands t) (hcustody : CustodyAgrees t)
    (hcredits : t.creditsHeld ≤ t.params.laneCapacity) (hmode : t.mode = .run) : Ledger t where
  files := hfiles
  stands := hstands
  custody k id h := (hcustody k id).mp h
  lifted _ id k o h := (hcustody k id).mpr ⟨o, h⟩
  credits := hcredits
  config h := by rw [hmode] at h; cases h

/-- R179: a part that tracks a slab is in RUN. -/
theorem run_of_live (h : Ledger s) {x : SlabId} {pl : Place} (hplace : s.place? x = some pl) : s.mode = .run := by
  cases hm : s.mode with
  | run => rfl
  | config => rw [State.place?, State.slab?, (h.config hm).register] at hplace; cases hplace

theorem place?_of_sameBooks (h : SameBooks s t) (x : SlabId) : t.place? x = s.place? x := by
  rw [State.place?, State.slab?, h.register]; rfl

/-- The ledger reads the books, the power, the mode and the lane capacity. -/
theorem ledger_of_sameBooks (hb : SameBooks s t) (h : Ledger s) (hw : t.powered = true → s.powered = true)
    (hcapacity : s.creditsHeld ≤ t.params.laneCapacity) (hmode : t.mode = .config → TracksNothing t) : Ledger t where
  files := files_of_register h.files hb.register
  stands := stands_of_same h.stands (place?_of_sameBooks hb) (countIn_of_sameBooks hb)
  custody k id hid := by
    rw [State.crane, hb.cranes] at hid
    rw [place?_of_sameBooks hb]
    exact h.custody k id hid
  lifted hp id k o hplace := by
    rw [place?_of_sameBooks hb] at hplace
    rw [State.crane, hb.cranes]
    exact h.lifted (hw hp) id k o hplace
  credits := by
    rw [State.creditsHeld, State.countPlaces, hb.register]
    exact hcapacity
  config := hmode

/-- A change that leaves the books and the setting. -/
theorem ledger_of_same (hb : SameBooks s t) (hsetting : setting t = setting s) (h : Ledger s) : Ledger t :=
  ledger_of_sameBooks hb h (fun hp => (powered_of_setting hsetting).symm.trans hp)
    (by rw [params_of_setting hsetting]; exact h.credits)
    fun hm => tracksNothing_of_sameBooks hb (h.config ((mode_of_setting hsetting).symm.trans hm))

end Counts

end Sys2Proof.Proofs

/-!
PROOFS. The account through the events that move one slab: announcements, withdrawals, permits, lifts, deposits and the outcomes
that resolve a doubtful slab.
-/

namespace Sys2Proof.Proofs

open Sys2Proof Sys2Proof.Machine

/-- What an event that moves slab `id` to the place `dst`, or frees it where `dst` is none, makes of the state. -/
structure Moved (id : SlabId) (dst : Option Place) (s t : State) : Prop where
  files : Files t
  place : ∀ x, t.place? x = if x = id then dst else s.place? x
  count : ∀ x σ, countIn t x σ = if x = id then (if dst.map spotOfPlace = some σ then 1 else 0) else countIn s x σ
  setting : setting t = setting s

section Account

variable {s t : State}

theorem countIn_of_place (h : Stands s) {id : SlabId} {pl : Place} (hplace : s.place? id = some pl) (σ : Spot) :
    countIn s id σ = if spotOfPlace pl = σ then 1 else 0 := by
  rw [h, spotOf_of_place hplace]
  simp

/-- A slab that stays in its collection. -/
theorem countIn_of_stays (h : Stands s) {id : SlabId} {pl dst : Place} (hplace : s.place? id = some pl)
    (hspot : spotOfPlace pl = spotOfPlace dst) (σ : Spot) :
    countIn s id σ = if (some dst).map spotOfPlace = some σ then 1 else 0 := by
  rw [countIn_of_place h hplace, hspot]
  exact if_congr (by simp) rfl rfl

theorem countIn_of_not_live (h : Ledger s) {id : SlabId} (hplace : s.place? id = none) (σ : Spot) : countIn s id σ = 0 := by
  rw [h.stands, spotOf, hplace]
  simp

theorem credits_of_moved (h : Ledger s) {id : SlabId} {dst : Option Place} (hm : Moved id dst s t)
    (hdst : ∀ pl, dst = some pl → pl.holdsCredit = true → ∃ q, s.place? id = some q ∧ q.holdsCredit = true) :
    t.creditsHeld ≤ t.params.laneCapacity := by
  rw [params_of_setting hm.setting]
  refine (credits_le h.files hm.files fun x pl hplace hcredit => ?_).trans h.credits
  rw [hm.place] at hplace
  split at hplace
  · next hx => exact hx ▸ hdst pl hplace hcredit
  · exact ⟨pl, hplace, hcredit⟩

theorem credits_of_granted (h : Ledger s) {id : SlabId} {dst : Option Place} (hm : Moved id dst s t) (hfree : s.creditsFree ≠ 0) :
    t.creditsHeld ≤ t.params.laneCapacity := by
  refine credits_le_of_free h.files hm.files (id := id) hfree (params_of_setting hm.setting) fun x pl hx hplace hcredit => ?_
  rw [hm.place, if_neg hx] at hplace
  exact ⟨pl, hplace, hcredit⟩

theorem ledger_of_moved (h : Ledger s) {id : SlabId} {dst : Option Place} (hm : Moved id dst s t) (hrun : s.mode = .run)
    (hcredits : t.creditsHeld ≤ t.params.laneCapacity) (hcustody : CustodyAgrees t) : Ledger t :=
  ledger_running hm.files (stands_of_moved h.stands hm.place hm.count) hcustody hcredits ((mode_of_setting hm.setting).trans hrun)

/-- An event that moves a slab that is not LIFTED, and does not lift it. -/
theorem custodyAgrees_of_moved (h : CustodyAgrees s) {id : SlabId} {dst : Option Place} (hm : Moved id dst s t)
    (hsrc : ∀ k o, s.place? id ≠ some (.lifted k o)) (hdst : ∀ k o, dst ≠ some (.lifted k o))
    (hcranes : ∀ k, (t.crane k).custody = (s.crane k).custody) : CustodyAgrees t :=
  custodyAgrees_of_same h hcranes fun x k o => by
    rw [hm.place]
    split
    · next hx => exact ⟨fun hd => absurd hd (hdst k o), fun hd => absurd (hx ▸ hd) (hsrc k o)⟩
    · rfl

/-! ### Announcements, moves and withdrawals -/

theorem moved_createSlab (h : Ledger s) {r : SlabRecord} {i : Nat} (ha : Announced s r i) :
    Moved r.id (some .listed) s (s.createSlab r i) where
  files := files_createSlab h.files ha
  place x := by
    rw [State.place?, slab?_createSlab h.files.ids ha.fresh, State.place?]
    split <;> simp [ha.place]
  count x σ := by
    have hnone : s.place? r.id = none := by simpa [State.live, State.place?] using ha.fresh
    have hjoined : countIn (s.createSlab r i) x σ = countIn (s.joinSequence i r.id) x σ := by cases σ <;> rfl
    rw [hjoined, countIn_joinSequence]
    by_cases hx : x = r.id
    · simp [hx, countIn_of_not_live h hnone, spotOfPlace, eq_comm]
    · simp [hx]
  setting := rfl

theorem ledger_createSlab (h : Ledger s) (hw : s.powered = true) (hrun : s.mode = .run) {r : SlabRecord} {i : Nat}
    (ha : Announced s r i) : Ledger (s.createSlab r i) := by
  have hm := moved_createSlab h ha
  have hnone : s.place? r.id = none := by simpa [State.live, State.place?] using ha.fresh
  refine ledger_of_moved h hm hrun (credits_of_moved h hm fun pl hpl hcredit => ?_)
    (custodyAgrees_of_moved (custodyAgrees_of_ledger h hw) hm (by simp [hnone]) (by simp) fun _ => rfl)
  cases hpl
  cases hcredit

/-- R30: a move puts the same entries in another order. -/
theorem movedOrder_perm {seq : List SlabId} {id : SlabId} (position : Nat) (hid : id ∈ seq) (honce : seq.Nodup) :
    (movedOrder seq id position).Perm seq := by
  unfold movedOrder
  split
  · exact .refl _
  · dsimp only
    have hput : ∀ (l : List SlabId) (i : Nat), (l.take i ++ id :: l.drop i).Perm (id :: l) := fun l i => by
      conv_rhs => rw [← List.take_append_drop i l]
      exact List.perm_middle
    refine (hput _ _).trans ?_
    rw [← honce.erase_eq_filter]
    exact (List.perm_cons_erase hid).symm

theorem sequence_nodup (h : Ledger s) : s.sequence.Nodup :=
  List.nodup_iff_count_le_one.mpr fun x => by
    have := h.stands x .sequence
    rw [countIn] at this
    rw [this]
    split <;> omega

theorem ledger_move (h : Ledger s) (hw : s.powered = true) (hrun : s.mode = .run) {id : SlabId} (position : Nat)
    (hid : id ∈ s.sequence) : Ledger { s with sequence := movedOrder s.sequence id position } := by
  refine ledger_running (files_of_register h.files rfl) (stands_of_same h.stands (fun _ => rfl) fun x σ => ?_)
    (custodyAgrees_of_same (custodyAgrees_of_ledger h hw) (fun _ => rfl) fun _ _ _ => .rfl) h.credits hrun
  cases σ with
  | sequence => exact (movedOrder_perm position hid (sequence_nodup h)).count_eq x
  | _ => rfl

/-- R33: a withdrawal frees a slab of the sequence. -/
theorem moved_withdrawListed (h : Ledger s) {id : SlabId} {pl : Place} (hplace : s.place? id = some pl)
    (hspot : spotOfPlace pl = .sequence) : Moved id none s (s.withdrawListed id) where
  files := files_freeSlab (files_of_register (t := (s.dissolvePair id).leaveSequence id) (files_dissolvePair h.files id) rfl) id
  place x := by simp [State.withdrawListed, State.freeSlab_place?]
  count x σ := by
    simp only [State.withdrawListed, countIn_freeSlab, countIn_leaveSequence, countIn_dissolvePair]
    by_cases hx : x = id
    · simp only [hx, countIn_of_place h.stands hplace, hspot]
      cases σ <;> simp
    · simp [hx]
  setting := rfl

theorem ledger_withdrawListed (h : Ledger s) (hw : s.powered = true) {id : SlabId} {pl : Place} (hplace : s.place? id = some pl)
    (hspot : spotOfPlace pl = .sequence) (hfree : ∀ k o, pl ≠ .lifted k o) : Ledger (s.withdrawListed id) := by
  have hm := moved_withdrawListed h hplace hspot
  exact ledger_of_moved h hm (run_of_live h hplace) (credits_of_moved h hm nofun)
    (custodyAgrees_of_moved (custodyAgrees_of_ledger h hw) hm (by simp [hplace, hfree]) nofun fun _ => rfl)

/-- R52: a permit timer that stops or starts, in RUN. -/
theorem ledger_permitTimer (h : Ledger s) (hw : s.powered = true) (hrun : s.mode = .run) (k : Crane) (timer : Timer) :
    Ledger (s.updateCrane k fun c => { c with permitTimer := timer }) :=
  ledger_running (files_of_register h.files rfl) (stands_of_same h.stands (fun _ => rfl) fun _ _ => countIn_updateCrane ..)
    (custodyAgrees_of_same (custodyAgrees_of_ledger h hw)
      (fun j => by rw [State.updateCrane_crane]; split <;> simp [*]) fun _ _ _ => .rfl) h.credits hrun

theorem ledger_raiseWhen (h : Ledger s) (c : Bool) (p : Port) (bit : Byte) : Ledger (s.raiseWhen c p bit) :=
  ledger_of_same (sameBooks_raiseWhen s c p bit) rfl h

theorem ledger_logFault (h : Ledger s) (b : BankId) (code : FaultCode) (slab : Option SlabId) (port : Option Port) :
    Ledger (s.logFault b code slab port) :=
  ledger_of_same (sameBooks_logFault s b code slab port) (setting_logFault ..) h

theorem ledger_raiseSupv (h : Ledger s) (n : SupvNotice) : Ledger (s.raiseSupv n) := ledger_raiseWhen h _ _ _

theorem ledger_doubtFurnace (h : Ledger s) (f : Furnace) (code : FaultCode) (slab : Option SlabId) (port : Option Port) :
    Ledger (s.doubtFurnace f code slab port) :=
  ledger_of_same (sameBooks_doubtFurnace s f code slab port) (setting_doubtFurnace ..) h

theorem ledger_soakCheck (h : Ledger s) (f : Furnace) : Ledger (s.soakCheck f) :=
  ledger_of_same (sameBooks_soakCheck s f) (setting_soakCheck ..) h

theorem ledger_withdrawPermitted (h : Ledger s) (hw : s.powered = true) {id : SlabId} {k : Crane}
    (hplace : s.place? id = some (.permitted k)) : Ledger (s.withdrawPermitted id k) :=
  ledger_withdrawListed (ledger_raiseWhen (ledger_permitTimer h hw (run_of_live h hplace) k none) _ _ _) hw
    (pl := .permitted k) hplace rfl nofun

/-! ### Doubtful slabs that are resolved (R145 to R147) -/

theorem moved_requeue (h : Ledger s) {id : SlabId} {last : LastKnown} (hplace : s.place? id = some (.doubtful last)) :
    Moved id (some .listed) s (s.requeue id) where
  files := files_of_register (files_updateSlab (files_resolveTo h.files id (pl := .listed) rfl) id
    (fun r => ⟨SlabRecord.requeued_id r, SlabRecord.requeued_partner r⟩) fun _ _ hr => hr) rfl
  place x := by
    rw [State.requeue, State.joinSequence_place, place?_updateSlab_same _ _ _ _ fun r => ⟨SlabRecord.requeued_id r, SlabRecord.requeued_place r⟩,
      State.resolveTo_place?]
    split
    · next hx => simp [hx, hplace]
    · rfl
  count x σ := by
    simp only [State.requeue, countIn_joinSequence, countIn_updateSlab, countIn_resolveTo]
    by_cases hx : x = id
    · simp only [hx, countIn_of_place h.stands hplace, spotOfPlace]
      cases σ <;> simp [spotOfPlace]
    · simp [hx]
  setting := rfl

theorem ledger_requeue (h : Ledger s) (hw : s.powered = true) {id : SlabId} {last : LastKnown}
    (hplace : s.place? id = some (.doubtful last)) : Ledger (s.requeue id) := by
  have hm := moved_requeue h hplace
  refine ledger_of_moved h hm (run_of_live h hplace) (credits_of_moved h hm fun pl hpl hcredit => ?_)
    (custodyAgrees_of_moved (custodyAgrees_of_ledger h hw) hm (by simp [hplace]) (by simp) fun _ => rfl)
  cases hpl
  cases hcredit

theorem moved_toLaneTail (h : Ledger s) {id : SlabId} {last : LastKnown} (hplace : s.place? id = some (.doubtful last)) :
    Moved id (some .onLane) s ((s.resolveTo id .onLane).joinLaneTail id) where
  files := files_joinLaneTail (files_resolveTo h.files id rfl) id
  place x := by
    rw [State.joinLaneTail_place?, State.resolveTo_place?]
    split
    · next hx => simp [hx, hplace]
    · rfl
  count x σ := by
    simp only [countIn_joinLaneTail, countIn_resolveTo]
    by_cases hx : x = id
    · simp only [hx, countIn_of_place h.stands hplace, spotOfPlace]
      cases σ <;> simp [spotOfPlace]
    · simp [hx]
  setting := by simp

theorem joinLaneTail_crane (s : State) (id : SlabId) (k : Crane) : (s.joinLaneTail id).crane k = s.crane k := by
  rw [State.joinLaneTail_eq]; rfl

theorem ledger_toLaneTail (h : Ledger s) (hw : s.powered = true) {id : SlabId} {last : LastKnown}
    (hplace : s.place? id = some (.doubtful last)) (hfree : s.creditsFree ≠ 0) :
    Ledger ((s.resolveTo id .onLane).joinLaneTail id) := by
  have hm := moved_toLaneTail h hplace
  exact ledger_of_moved h hm (run_of_live h hplace) (credits_of_granted h hm hfree)
    (custodyAgrees_of_moved (custodyAgrees_of_ledger h hw) hm (by simp [hplace]) (by simp) fun k => by
      rw [joinLaneTail_crane, State.resolveTo_crane])

/-- R16, R145: a slab of the doubt list is freed. -/
theorem ledger_remove (h : Ledger s) (hw : s.powered = true) {id : SlabId} {last : LastKnown}
    (hplace : s.place? id = some (.doubtful last)) : Ledger (s.freeSlab id) := by
  have hm : Moved id none s (s.freeSlab id) := {
    files := files_freeSlab h.files id
    place := s.freeSlab_place? id
    count := fun x σ => by
      rw [countIn_freeSlab]
      by_cases hx : x = id
      · simp only [hx, countIn_of_place h.stands hplace, spotOfPlace]
        cases σ <;> simp
      · simp [hx]
    setting := rfl }
  exact ledger_of_moved h hm (run_of_live h hplace) (credits_of_moved h hm nofun)
    (custodyAgrees_of_moved (custodyAgrees_of_ledger h hw) hm (by simp [hplace]) nofun fun _ => rfl)

/-! ### Permits (R45 to R55) -/

theorem place?_startPermitTimer (s : State) (k : Crane) (x : SlabId) : (s.startPermitTimer k).place? x = s.place? x := rfl

theorem place?_stopPermitTimer (s : State) (k : Crane) (x : SlabId) : (s.stopPermitTimer k).place? x = s.place? x := rfl

theorem permitTimer_custody (s : State) (k j : Crane) (timer : Timer) :
    ((s.updateCrane k fun c => { c with permitTimer := timer }).crane j).custody = (s.crane j).custody := by
  rw [State.updateCrane_crane]
  split <;> simp [*]

/-- R90: the partner that a pairing test finds is another slab, LISTED and single; the tested slab is single too. -/
theorem pairingPartner_some {id b : SlabId} (h : s.pairingPartner id = some b) :
    s.partner? id = none ∧ s.place? b = some .listed ∧ s.partner? b = none := by
  unfold State.pairingPartner at h
  split at h
  · next a o ha ho =>
    split at h
    · next hholds =>
      cases h
      obtain ⟨y, -, hy⟩ := Option.bind_eq_some_iff.mp ho
      have hself : s.slab? o.id = some o := by rw [State.slab?_id hy]; exact hy
      simp only [pairingHolds, Bool.and_eq_true, Option.isNone_iff_eq_none, beq_iff_eq] at hholds
      obtain ⟨⟨⟨⟨⟨⟨⟨⟨⟨⟨⟨-, hsingle⟩, hlisted⟩, hfree⟩, -⟩, -⟩, -⟩, -⟩, -⟩, -⟩, -⟩, -⟩ := hholds
      exact ⟨by rw [State.partner?, ha]; exact hsingle, by rw [State.place?, hself]; exact congrArg some hlisted,
        by rw [State.partner?, hself]; exact hfree⟩
    · cases h
  · cases h

/-- R47, R89, R91: a grant makes a LISTED slab PERMITTED. -/
theorem moved_grantPermit (h : Ledger s) {k : Crane} {id : SlabId} (hplace : s.place? id = some .listed) :
    Moved id (some (.permitted k)) s (s.grantPermit k id) := by
  have htimed : ∀ x, ((s.setPlace id (.permitted k)).startPermitTimer k).place? x =
      if x = id then some (.permitted k) else s.place? x := fun x => by
    rw [place?_startPermitTimer, State.setPlace_place?]
    split
    · next hx => simp [hx, hplace]
    · rfl
  have hmarked : ∀ x, (((s.setPlace id (.permitted k)).startPermitTimer k).markTested id).place? x =
      if x = id then some (.permitted k) else s.place? x := fun x =>
    (place?_updateSlab_same _ id x (fun r => { r with pairingTested := true }) fun _ => ⟨rfl, rfl⟩).trans (htimed x)
  have hfiles : Files (((s.setPlace id (.permitted k)).startPermitTimer k).markTested id) :=
    files_updateSlab (files_of_register (t := (s.setPlace id (.permitted k)).startPermitTimer k)
      (files_setPlace h.files id (pl := .permitted k) rfl) rfl) id
      (g := fun r => { r with pairingTested := true }) (fun _ => ⟨rfl, rfl⟩) fun _ _ hr => hr
  have hcount : ∀ x σ, countIn s x σ =
      if x = id then (if (some (Place.permitted k)).map spotOfPlace = some σ then 1 else 0) else countIn s x σ := fun x σ => by
    split
    · next hx => rw [hx]; exact countIn_of_stays h.stands hplace rfl σ
    · rfl
  refine ⟨?_, fun x => ?_, fun x σ => ?_, setting_grantPermit s k id⟩
  · unfold State.grantPermit State.pairingTest
    split
    · next b hb =>
      obtain ⟨hsingle, hlisted, hfree⟩ := pairingPartner_some hb
      have hne : id ≠ b := fun he => by
        rw [htimed, if_pos he.symm] at hlisted; cases hlisted
      have hpartner : ∀ x, (((s.setPlace id (.permitted k)).startPermitTimer k).markTested id).partner? x =
          ((s.setPlace id (.permitted k)).startPermitTimer k).partner? x := fun x =>
        partner?_updateSlab_same _ id x (fun r => { r with pairingTested := true }) fun _ => ⟨rfl, rfl⟩
      exact files_formPair hfiles ((hmarked id).trans (if_pos rfl))
        ((place?_updateSlab_same _ id b (fun r => { r with pairingTested := true }) fun _ => ⟨rfl, rfl⟩).trans hlisted) hne rfl rfl
        ((hpartner id).trans hsingle) ((hpartner b).trans hfree)
    · exact hfiles
  · unfold State.grantPermit State.pairingTest
    split
    · rw [place?_formPair]; exact hmarked x
    · exact hmarked x
  · rw [← hcount]
    unfold State.grantPermit State.pairingTest
    split <;> simp [State.markTested]

theorem grantPermit_custody (s : State) (k j : Crane) (id : SlabId) :
    ((s.grantPermit k id).crane j).custody = (s.crane j).custody := by
  have htimed := permitTimer_custody (s.setPlace id (.permitted k)) k j (some (tenths s.params.permitPeriod))
  unfold State.grantPermit State.pairingTest
  split <;> exact htimed

theorem ledger_grantPermit (h : Ledger s) (hw : s.powered = true) (k : Crane) {id : SlabId} (hplace : s.place? id = some .listed)
    (hfree : s.creditsFree ≠ 0) : Ledger (s.grantPermit k id) := by
  have hm := moved_grantPermit (k := k) h hplace
  exact ledger_of_moved h hm (run_of_live h hplace) (credits_of_granted h hm hfree)
    (custodyAgrees_of_moved (custodyAgrees_of_ledger h hw) hm (by simp [hplace]) (by simp) fun j => grantPermit_custody s k j id)

/-- R51, R53: the permitted slab returns to LISTED. -/
theorem moved_undoPermit (h : Ledger s) {k : Crane} {id : SlabId} (hplace : s.place? id = some (.permitted k)) :
    Moved id (some .listed) s (s.undoPermit k id) where
  files := files_dissolvePair (files_setPlace (files_of_register (t := s.stopPermitTimer k) h.files rfl) id rfl) id
  place x := by
    rw [State.undoPermit, State.dissolvePair_place?, State.setPlace_place?, place?_stopPermitTimer]
    split
    · next hx => simp [hx, hplace]
    · rfl
  count x σ := by
    simp only [State.undoPermit, countIn_dissolvePair, countIn_setPlace, countIn_stopPermitTimer]
    split
    · next hx => rw [hx]; exact countIn_of_stays h.stands hplace rfl σ
    · rfl
  setting := rfl

theorem ledger_undoPermit (h : Ledger s) (hw : s.powered = true) {k : Crane} {id : SlabId}
    (hplace : s.place? id = some (.permitted k)) : Ledger (s.undoPermit k id) := by
  have hm := moved_undoPermit h hplace
  refine ledger_of_moved h hm (run_of_live h hplace) (credits_of_moved h hm fun pl hpl hcredit => ?_)
    (custodyAgrees_of_moved (custodyAgrees_of_ledger h hw) hm (by simp [hplace]) (by simp) fun j => permitTimer_custody s k j none)
  cases hpl
  cases hcredit

theorem ledger_lapsePermit (h : Ledger s) (hw : s.powered = true) {k : Crane} {id : SlabId}
    (hplace : s.place? id = some (.permitted k)) (notify : Bool) : Ledger (s.lapsePermit k id notify) :=
  ledger_logFault (ledger_raiseWhen (ledger_undoPermit h hw hplace) _ _ _) _ _ _ _

/-- The slab that a crane holds a permit for is PERMITTED to it. -/
theorem place?_of_permitOf (h : Ledger s) {k : Crane} {id : SlabId} (hpermit : s.permitOf k = some id) :
    s.place? id = some (.permitted k) := by
  obtain ⟨r, hr, rfl⟩ := Option.map_eq_some_iff.mp hpermit
  have hplace := List.find?_some hr
  rw [beq_iff_eq] at hplace
  exact place?_eq_some.mpr ⟨r, (slab?_eq_some_iff h.files.ids).mpr ⟨List.mem_of_find?_eq_some hr, rfl⟩, hplace⟩

/-! ### Lifts, deposits and the loss of custody (chapter 4) -/

/-- R66, R67: a slab of the sequence that is not LIFTED is lifted. -/
theorem moved_takeLift (h : Ledger s) {k : Crane} {id : SlabId} {pl : Place} (hplace : s.place? id = some pl)
    (hspot : spotOfPlace pl = .sequence) : Moved id (some (.lifted k false)) s (s.takeLift k id) where
  files := files_of_register (files_setPlace (files_of_register (t := s.stopPermitTimer k) h.files rfl) id
    (pl := .lifted k false) rfl) rfl
  place x := by
    rw [State.takeLift, State.beginCustody_place, State.setPlace_place?, place?_stopPermitTimer]
    split
    · next hx => simp [hx, hplace]
    · rfl
  count x σ := by
    simp only [State.takeLift, countIn_beginCustody, countIn_setPlace, countIn_stopPermitTimer]
    split
    · next hx => rw [hx]; exact countIn_of_stays (dst := .lifted k false) h.stands hplace hspot σ
    · rfl
  setting := rfl

theorem takeLift_custody (s : State) (k j : Crane) (id : SlabId) :
    ((s.takeLift k id).crane j).custody = if j = k then some id else (s.crane j).custody := by
  cases k <;> cases j <;> rfl

theorem ledger_takeLift (h : Ledger s) (hw : s.powered = true) {k : Crane} {id : SlabId} (hnone : (s.crane k).custody = none)
    (hplace : s.place? id = some (.permitted k)) : Ledger (s.takeLift k id) := by
  have hm := moved_takeLift (k := k) h hplace rfl
  exact ledger_of_moved h hm (run_of_live h hplace) (credits_of_moved h hm fun _ _ _ => ⟨_, hplace, rfl⟩)
    (custodyAgrees_of_begin (custodyAgrees_of_ledger h hw) hnone (by simp [hplace]) (fun j => takeLift_custody s k j id) hm.place)

theorem ledger_lateLift (h : Ledger s) (hw : s.powered = true) {k : Crane} {id : SlabId} (hnone : (s.crane k).custody = none)
    (hplace : s.place? id = some .listed) (hfree : s.creditsFree ≠ 0) : Ledger (s.lateLift k id) := by
  have hm := moved_takeLift (k := k) h hplace rfl
  exact ledger_logFault (ledger_of_moved h hm (run_of_live h hplace) (credits_of_granted h hm hfree)
    (custodyAgrees_of_begin (custodyAgrees_of_ledger h hw) hnone (by simp [hplace]) (fun j => takeLift_custody s k j id)
      hm.place)) _ _ _ _

/-- A slab of the sequence whose pair dissolves leaves it and becomes DOUBTFUL. -/
theorem moved_doubted (h : Ledger s) {id : SlabId} {pl : Place} (hplace : s.place? id = some pl)
    (hspot : spotOfPlace pl = .sequence) (last : LastKnown) :
    Moved id (some (.doubtful last)) s (((s.dissolvePair id).leaveSequence id).makeDoubtful id last) where
  files := files_makeDoubtful (files_of_register (t := (s.dissolvePair id).leaveSequence id) (files_dissolvePair h.files id) rfl) id last
  place x := by
    rw [State.makeDoubtful_place?, State.leaveSequence_place, State.dissolvePair_place?]
    split
    · next hx => simp [hx, hplace]
    · rfl
  count x σ := by
    simp only [countIn_makeDoubtful, countIn_leaveSequence, countIn_dissolvePair]
    by_cases hx : x = id
    · simp only [hx, countIn_of_place h.stands hplace, hspot]
      cases σ <;> simp [spotOfPlace]
    · simp [hx]
  setting := rfl

theorem ledger_lateLiftDoubt (h : Ledger s) (hw : s.powered = true) {id : SlabId} (hplace : s.place? id = some .listed) (k : Crane) :
    Ledger (s.lateLiftDoubt k id) := by
  have hm := moved_doubted h hplace rfl (.lifted k)
  refine ledger_raiseSupv (ledger_logFault (ledger_of_moved h hm (run_of_live h hplace) (credits_of_moved h hm fun pl hpl hcredit => ?_)
    (custodyAgrees_of_moved (custodyAgrees_of_ledger h hw) hm (by simp [hplace]) (by simp) fun _ => rfl)) _ _ _ _) _
  cases hpl
  cases hcredit

/-- R71: an expiry marks the slab in custody overdue. -/
theorem ledger_overdue (h : Ledger s) (hw : s.powered = true) {k : Crane} {id : SlabId} {o : Bool}
    (hplace : s.place? id = some (.lifted k o)) : Ledger (s.overdue k id) := by
  have hm : Moved id (some (.lifted k true)) s (s.overdue k id) := {
    files := files_of_register (files_setPlace h.files id (pl := .lifted k true) rfl) (by
      rw [State.overdue, State.updateCrane_register, State.logFault_register])
    place := fun x => by
      rw [State.overdue, State.updateCrane_place, State.logFault_place, State.setPlace_place?]
      split
      · next hx => simp [hx, hplace]
      · rfl
    count := fun x σ => by
      simp only [State.overdue, countIn_updateCrane, countIn_logFault, countIn_setPlace]
      split
      · next hx => rw [hx]; exact countIn_of_stays h.stands hplace rfl σ
      · rfl
    setting := by simp [State.overdue] }
  refine ledger_of_moved h hm (run_of_live h hplace) (credits_of_moved h hm fun _ _ _ => ⟨_, hplace, rfl⟩) fun j x => ?_
  have hcustody : ((s.overdue k id).crane j).custody = (s.crane j).custody := by
    rw [State.overdue, State.updateCrane_crane]
    split <;> simp [*]
  rw [hcustody, hm.place, custodyAgrees_of_ledger h hw]
  split
  · next hx => rw [hx, hplace]; simp
  · rfl

theorem endCustody_custody (s : State) (k j : Crane) :
    ((s.endCustody k).crane j).custody = if j = k then none else (s.crane j).custody := by
  cases k <;> cases j <;> rfl

/-- The slab in a crane's custody is LIFTED with it. -/
theorem ledger_setAside (h : Ledger s) (hw : s.powered = true) {k : Crane} {id : SlabId} (hcustody : (s.crane k).custody = some id) :
    Ledger (s.setAside k id) := by
  obtain ⟨o, hplace⟩ := h.custody k id hcustody
  have hm : Moved id (some .listed) s (s.setAside k id) := {
    files := files_setPlace (files_of_register (t := (s.endCustody k).releaseReservation k) h.files rfl) id rfl
    place := fun x => by
      rw [State.setAside, State.setPlace_place?, State.releaseReservation_place, State.endCustody_place]
      split
      · next hx => simp [hx, hplace]
      · rfl
    count := fun x σ => by
      simp only [State.setAside, countIn_setPlace, countIn_releaseReservation, countIn_endCustody]
      split
      · next hx => rw [hx]; exact countIn_of_stays h.stands hplace rfl σ
      · rfl
    setting := rfl }
  refine ledger_of_moved h hm (run_of_live h hplace) (credits_of_moved h hm fun pl hpl hcredit => ?_)
    (custodyAgrees_of_end (custodyAgrees_of_ledger h hw) hcustody (by simp) (endCustody_custody s k) hm.place)
  cases hpl
  cases hcredit

/-- R76: what a deposit in turn does before the slab leaves the sequence: custody and the reservation end, or a fault is
logged. -/
theorem sameRegister_depositEnds (s : State) (k : Crane) (id : SlabId) :
    ∃ u, s.depositInTurn k id = ((u.leaveSequence id).setPlace id .onLane).joinLaneTail id ∧ u.register = s.register ∧
      (∀ x σ, countIn u x σ = countIn s x σ) ∧ ∀ j, u.crane j = (s.endCustody k).crane j := by
  refine ⟨_, rfl, ?_, fun x σ => ?_, fun j => ?_⟩
  · split <;> simp
  · split <;> simp
  · split <;> simp

theorem ledger_depositInTurn (h : Ledger s) (hw : s.powered = true) {k : Crane} {id : SlabId}
    (hcustody : (s.crane k).custody = some id) : Ledger (s.depositInTurn k id) := by
  obtain ⟨o, hplace⟩ := h.custody k id hcustody
  obtain ⟨u, heq, hregister, hcount, hcranes⟩ := sameRegister_depositEnds s k id
  have hplaces : ∀ x, u.place? x = s.place? x := fun x => by rw [State.place?, State.slab?, hregister]; rfl
  have hm : Moved id (some .onLane) s (s.depositInTurn k id) := {
    files := by
      rw [heq]
      exact files_joinLaneTail (files_setPlace (files_of_register (t := u.leaveSequence id) h.files hregister) id rfl) id
    place := fun x => by
      rw [heq, State.joinLaneTail_place?, State.setPlace_place?, State.leaveSequence_place, hplaces]
      split
      · next hx => simp [hx, hplace]
      · rfl
    count := fun x σ => by
      rw [heq]
      simp only [countIn_joinLaneTail, countIn_setPlace, countIn_leaveSequence, hcount]
      by_cases hx : x = id
      · simp only [hx, countIn_of_place h.stands hplace, spotOfPlace]
        cases σ <;> simp [spotOfPlace]
      · simp [hx]
    setting := setting_depositInTurn s k id }
  refine ledger_of_moved h hm (run_of_live h hplace) (credits_of_moved h hm fun _ _ _ => ⟨_, hplace, rfl⟩)
    (custodyAgrees_of_end (custodyAgrees_of_ledger h hw) hcustody (by simp) (fun j => ?_) hm.place)
  rw [heq, joinLaneTail_crane, ← endCustody_custody]
  exact congrArg _ (hcranes j)

/-- R77: the sequence head's pair dissolves, and nothing else changes. -/
theorem dissolveHeadPair_cases (s : State) : s.dissolveHeadPair = s ∨ ∃ head, s.dissolveHeadPair = s.dissolvePair head := by
  unfold State.dissolveHeadPair
  split
  · exact .inr ⟨_, rfl⟩
  · exact .inl rfl

theorem ledger_depositOutOfTurn (h : Ledger s) (hw : s.powered = true) {k : Crane} {id : SlabId}
    (hcustody : (s.crane k).custody = some id) : Ledger (s.depositOutOfTurn k id) := by
  obtain ⟨o, hplace⟩ := h.custody k id hcustody
  have hended : Files ((s.endCustody k).dissolvePair id) :=
    files_dissolvePair (files_of_register (t := s.endCustody k) h.files rfl) id
  obtain ⟨u, hu, hfiles, hplaces, hcount, hcranes⟩ : ∃ u, ((s.endCustody k).dissolvePair id).dissolveHeadPair = u ∧ Files u ∧
      (∀ x, u.place? x = s.place? x) ∧ (∀ x σ, countIn u x σ = countIn s x σ) ∧ ∀ j, u.crane j = (s.endCustody k).crane j := by
    rcases dissolveHeadPair_cases ((s.endCustody k).dissolvePair id) with heq | ⟨head, heq⟩
    · exact ⟨_, heq, hended, fun x => by simp, fun x σ => by simp, fun _ => rfl⟩
    · exact ⟨_, heq, files_dissolvePair hended head, fun x => by simp, fun x σ => by simp, fun _ => rfl⟩
  have hm : Moved id (some .onLane) s (s.depositOutOfTurn k id) := {
    files := by
      rw [State.depositOutOfTurn, hu]
      refine files_of_register (files_joinLaneTail (files_setPlace (files_of_register (t := u.leaveSequence id) hfiles rfl) id
        (pl := .onLane) rfl) id) ?_
      rw [State.raiseSupv_register, State.logFault_register]
    place := fun x => by
      rw [State.depositOutOfTurn, hu, State.raiseSupv_place, State.logFault_place]
      refine (State.joinLaneTail_place? _ id x).trans ?_
      rw [State.setPlace_place?, State.leaveSequence_place, hplaces]
      split
      · next hx => simp [hx, hplace]
      · rfl
    count := fun x σ => by
      rw [State.depositOutOfTurn, hu, countIn_raiseSupv, countIn_logFault, countIn_laneDoubt]
      simp only [countIn_joinLaneTail, countIn_setPlace, countIn_leaveSequence, hcount]
      by_cases hx : x = id
      · simp only [hx, countIn_of_place h.stands hplace, spotOfPlace]
        cases σ <;> simp [spotOfPlace]
      · simp [hx]
    setting := setting_depositOutOfTurn s k id }
  refine ledger_of_moved h hm (run_of_live h hplace) (credits_of_moved h hm fun _ _ _ => ⟨_, hplace, rfl⟩)
    (custodyAgrees_of_end (custodyAgrees_of_ledger h hw) hcustody (by simp) (fun j => ?_) hm.place)
  rw [State.depositOutOfTurn, hu, State.raiseSupv_crane, State.logFault_crane, ← endCustody_custody]
  exact congrArg _ ((joinLaneTail_crane _ id j).trans (hcranes j))

theorem ledger_custodyLost (h : Ledger s) (hw : s.powered = true) {k : Crane} {id : SlabId}
    (hcustody : (s.crane k).custody = some id) : Ledger (s.custodyLost k id) := by
  obtain ⟨o, hplace⟩ := h.custody k id hcustody
  have hm : Moved id (some (.doubtful (.lifted k))) s
      (((((s.endCustody k).releaseReservation k).dissolvePair id).leaveSequence id).makeDoubtful id (.lifted k)) := {
    files := files_makeDoubtful (files_of_register
      (t := (((s.endCustody k).releaseReservation k).dissolvePair id).leaveSequence id) (files_dissolvePair
        (files_of_register (t := (s.endCustody k).releaseReservation k) h.files rfl) id) rfl) id _
    place := fun x => by
      rw [State.makeDoubtful_place?, State.leaveSequence_place, State.dissolvePair_place?, State.releaseReservation_place,
        State.endCustody_place]
      split
      · next hx => simp [hx, hplace]
      · rfl
    count := fun x σ => by
      simp only [countIn_makeDoubtful, countIn_leaveSequence, countIn_dissolvePair, countIn_releaseReservation, countIn_endCustody]
      by_cases hx : x = id
      · simp only [hx, countIn_of_place h.stands hplace, spotOfPlace]
        cases σ <;> simp [spotOfPlace]
      · simp [hx]
    setting := by simp }
  refine ledger_raiseSupv (ledger_logFault (ledger_of_moved h hm (run_of_live h hplace) (credits_of_moved h hm fun pl hpl hcredit => ?_)
    (custodyAgrees_of_end (custodyAgrees_of_ledger h hw) hcustody (by simp) (fun j => ?_) hm.place)) _ _ _ _) _
  · cases hpl
    cases hcredit
  · simp only [State.makeDoubtful_crane, State.leaveSequence_crane, State.dissolvePair_crane, State.releaseReservation_crane]
    exact endCustody_custody s k j

/-- R54, R80: the loss of a crane port, by what the crane holds: its permit lapses first, and then its custody is lost. -/
theorem craneLost_cases (s : State) (k : Crane) : ∃ u,
    (s.permitOf k = none ∧ u = s ∨ ∃ id, s.permitOf k = some id ∧ u = s.lapsePermit k id false) ∧
      ((u.crane k).custody = none ∧ s.craneLost k = u ∨ ∃ id, (u.crane k).custody = some id ∧ s.craneLost k = u.custodyLost k id) := by
  have hends : ∀ u : State, ((u.crane k).custody = none ∧
      (match (u.crane k).custody with
        | some id => u.custodyLost k id
        | none => u) = u) ∨ ∃ id, (u.crane k).custody = some id ∧
      (match (u.crane k).custody with
        | some id => u.custodyLost k id
        | none => u) = u.custodyLost k id := fun u => by
    cases (u.crane k).custody with
    | none => exact .inl ⟨rfl, rfl⟩
    | some id => exact .inr ⟨id, rfl, rfl⟩
  unfold State.craneLost
  cases hpermit : s.permitOf k with
  | none => exact ⟨s, .inl ⟨rfl, rfl⟩, hends s⟩
  | some id => exact ⟨s.lapsePermit k id false, .inr ⟨id, rfl, rfl⟩, hends _⟩

theorem ledger_craneLost (h : Ledger s) (hw : s.powered = true) (k : Crane) : Ledger (s.craneLost k) := by
  obtain ⟨u, hpermit, hcustody⟩ := craneLost_cases s k
  obtain ⟨hu, hpowered⟩ : Ledger u ∧ u.powered = true := by
    rcases hpermit with ⟨-, rfl⟩ | ⟨id, hpermit, rfl⟩
    · exact ⟨h, hw⟩
    · exact ⟨ledger_lapsePermit h hw (place?_of_permitOf h hpermit) false,
        (powered_of_setting (setting_lapsePermit s k id false)).trans hw⟩
  rcases hcustody with ⟨-, heq⟩ | ⟨id, hcustody, heq⟩
  · exact heq ▸ hu
  · exact heq ▸ ledger_custodyLost hu hpowered hcustody

end Account

end Sys2Proof.Proofs

/-!
PROOFS. The account through the events that move the slabs of a row: charges, placings, removals and discharges.
-/

namespace Sys2Proof.Proofs

open Sys2Proof Sys2Proof.Machine

/-! ### Slabs with their sides -/

/-- The side that a list of slabs gives a slab. -/
def sideIn (l : List (SlabId × Side)) (x : SlabId) : Option Side := (l.find? fun y => y.1 == x).map Prod.snd

/-- How many slabs of a list stand, as slab `x`, in the collection `σ` that `d` names for their side. -/
def rowCount (l : List (SlabId × Side)) (d : Side → Option Spot) (x : SlabId) (σ : Spot) : Nat :=
  l.countP fun y => y.1 == x && d y.2 == some σ

/-- What an event that moves the slabs `l` of a row from `src` to `dst`, or frees them where `dst` is none, makes of the
state. -/
structure RowMoved (l : List (SlabId × Side)) (src : Side → Spot) (dst : Side → Option Place) (s t : State) : Prop where
  nodup : (l.map Prod.fst).Nodup
  source : ∀ y ∈ l, spotOf s y.1 = some (src y.2)
  files : Files t
  place : ∀ x, t.place? x = (sideIn l x).elim (s.place? x) dst
  count : ∀ x σ, countIn t x σ + rowCount l (fun side => some (src side)) x σ =
    countIn s x σ + rowCount l (fun side => (dst side).map spotOfPlace) x σ
  setting : setting t = setting s

section Rows

variable {s t : State} {l : List (SlabId × Side)}

theorem mem_of_sideIn {x : SlabId} {side : Side} (h : sideIn l x = some side) : (x, side) ∈ l := by
  obtain ⟨y, hy, rfl⟩ := Option.map_eq_some_iff.mp h
  have hx := List.find?_some hy
  rw [beq_iff_eq] at hx
  exact hx ▸ List.mem_of_find?_eq_some hy

theorem sideIn_eq_none_iff {x : SlabId} : sideIn l x = none ↔ x ∉ l.map Prod.fst := by
  rw [sideIn, Option.map_eq_none_iff, List.find?_eq_none]
  simp only [beq_iff_eq, List.mem_map, not_exists, not_and]

@[simp] theorem sideIn_nil (x : SlabId) : sideIn [] x = none := rfl

theorem sideIn_cons (y : SlabId × Side) (l : List (SlabId × Side)) (x : SlabId) :
    sideIn (y :: l) x = if x = y.1 then some y.2 else sideIn l x := by
  by_cases h : x = y.1
  · simp [sideIn, h]
  · rw [sideIn, List.find?_cons_of_neg (by simpa using fun he => h he.symm), if_neg h, sideIn]

theorem rowCount_cons (y : SlabId × Side) (l : List (SlabId × Side)) (d : Side → Option Spot) (x : SlabId) (σ : Spot) :
    rowCount (y :: l) d x σ = rowCount l d x σ + if x = y.1 ∧ d y.2 = some σ then 1 else 0 := by
  rw [rowCount, List.countP_cons, rowCount]
  simp only [Bool.and_eq_true, beq_iff_eq, eq_comm (a := y.1)]

/-- In a list without repeats a slab counts once, in the collection of its side. -/
theorem rowCount_eq (hl : (l.map Prod.fst).Nodup) (d : Side → Option Spot) (x : SlabId) (σ : Spot) :
    rowCount l d x σ = (sideIn l x).elim 0 fun side => if d side = some σ then 1 else 0 := by
  induction l with
  | nil => rfl
  | cons y l ih =>
    rw [List.map_cons, List.nodup_cons] at hl
    rw [rowCount_cons, sideIn_cons, ih hl.2]
    by_cases hx : x = y.1
    · rw [sideIn_eq_none_iff.mpr (hx ▸ hl.1)]
      simp [hx]
    · simp [hx]

theorem stands_of_rowMoved {src : Side → Spot} {dst : Side → Option Place} (hs : Stands s) (hm : RowMoved l src dst s t) :
    Stands t := fun x σ => by
  have hcount := hm.count x σ
  rw [rowCount_eq hm.nodup, rowCount_eq hm.nodup, hs x σ] at hcount
  rw [spotOf, hm.place]
  cases hside : sideIn l x with
  | none => simpa [hside, spotOf] using hcount
  | some side =>
    have hsrc := hm.source _ (mem_of_sideIn hside)
    rw [hside, hsrc] at hcount
    exact Nat.add_right_cancel (hcount.trans (Nat.add_comm _ _))

/-! ### Events on every slab of a list -/

theorem place?_foldl {g : State → SlabId × Side → State} {dst : Side → Option Place}
    (hg : ∀ u y x, (g u y).place? x = if x = y.1 then (u.place? x).bind fun _ => dst y.2 else u.place? x)
    (hl : (l.map Prod.fst).Nodup) (hlive : ∀ y ∈ l, s.place? y.1 ≠ none) (x : SlabId) :
    (l.foldl g s).place? x = (sideIn l x).elim (s.place? x) dst := by
  induction l generalizing s with
  | nil => rfl
  | cons y l ih =>
    rw [List.map_cons, List.nodup_cons] at hl
    obtain ⟨hy, hrest⟩ := List.forall_mem_cons.mp hlive
    have hother : ∀ z ∈ l, z.1 ≠ y.1 := fun z hz he => hl.1 (he ▸ List.mem_map_of_mem hz)
    rw [List.foldl_cons, ih hl.2 fun z hz => by rw [hg, if_neg (hother z hz)]; exact hrest z hz, hg, sideIn_cons]
    by_cases hx : x = y.1
    · obtain ⟨pl, hpl⟩ := Option.ne_none_iff_exists'.mp hy
      rw [sideIn_eq_none_iff.mpr (hx ▸ hl.1)]
      simp [hx, hpl]
    · simp [hx]

theorem crane_foldl {g : State → SlabId × Side → State} (hg : ∀ u y k, (g u y).crane k = u.crane k) (l : List (SlabId × Side))
    (s : State) (k : Crane) : (l.foldl g s).crane k = s.crane k := by
  induction l generalizing s with
  | nil => rfl
  | cons y l ih => rw [List.foldl_cons, ih, hg]

theorem furnace_foldl {g : State → SlabId × Side → State} (hg : ∀ u y f, (g u y).furnace f = u.furnace f)
    (l : List (SlabId × Side)) (s : State) (f : Furnace) : (l.foldl g s).furnace f = s.furnace f := by
  induction l generalizing s with
  | nil => rfl
  | cons y l ih => rw [List.foldl_cons, ih, hg]

theorem countIn_foldl_same {g : State → SlabId × Side → State} (hg : ∀ u y x σ, countIn (g u y) x σ = countIn u x σ) (x : SlabId)
    (σ : Spot) : countIn (l.foldl g s) x σ = countIn s x σ := by
  induction l generalizing s with
  | nil => rfl
  | cons y l ih => rw [List.foldl_cons, ih, hg]

theorem countIn_foldl_doubted {g : State → SlabId × Side → State}
    (hg : ∀ u y x σ, countIn (g u y) x σ = countIn u x σ + if x = y.1 ∧ σ = .doubt then 1 else 0) (x : SlabId) (σ : Spot) :
    countIn (l.foldl g s) x σ = countIn s x σ + rowCount l (fun _ => some .doubt) x σ := by
  induction l generalizing s with
  | nil => rfl
  | cons y l ih =>
    rw [List.foldl_cons, ih, hg, rowCount_cons]
    simp only [Option.some.injEq, eq_comm (a := σ)]
    omega

theorem countIn_foldl_undoubted {g : State → SlabId × Side → State}
    (hg : ∀ u y x σ, countIn (g u y) x σ = if x = y.1 ∧ σ = .doubt then 0 else countIn u x σ) (x : SlabId) (σ : Spot) :
    countIn (l.foldl g s) x σ = if (sideIn l x).isSome ∧ σ = .doubt then 0 else countIn s x σ := by
  induction l generalizing s with
  | nil => rfl
  | cons y l ih =>
    rw [List.foldl_cons, ih, hg, sideIn_cons]
    by_cases hx : x = y.1
    · simp only [hx, true_and, if_true, Option.isSome_some]
      split_ifs <;> simp_all
    · simp [hx]

/-! ### The slabs of an operation and of a map -/

theorem rowCount_entry (f : Furnace) (x : SlabId) (σ : Spot) :
    rowCount l (fun side => some (.entry f side)) x σ = match σ with
      | .entry e side => if e = f then l.count (x, side) else 0
      | _ => 0 := by
  cases σ with
  | entry e side =>
    by_cases he : e = f
    · subst he
      simp only [rowCount, if_true, List.count]
      refine List.countP_congr fun y _ => ?_
      simp [Prod.ext_iff]
    · simp [rowCount, he, Ne.symm he]
  | _ => simp [rowCount]

theorem rowCount_map (f : Furnace) (x : SlabId) (σ : Spot) :
    rowCount l (fun side => some (.map f side)) x σ = match σ with
      | .map e side => if e = f then l.count (x, side) else 0
      | _ => 0 := by
  cases σ with
  | map e side =>
    by_cases he : e = f
    · subst he
      simp only [rowCount, if_true, List.count]
      refine List.countP_congr fun y _ => ?_
      simp [Prod.ext_iff]
    · simp [rowCount, he, Ne.symm he]
  | _ => simp [rowCount]

/-- R127: the operation of a furnace changes from slabs `l` to slabs `m`. -/
theorem countIn_changeOp {f : Furnace} {g : FurnaceState → FurnaceState} {m : List (SlabId × Side)}
    (hmap : (g (s.furnace f)).mapSlabs = (s.furnace f).mapSlabs) (hold : (s.furnace f).op.slabs = l)
    (hnew : (g (s.furnace f)).op.slabs = m) (x : SlabId) (σ : Spot) :
    countIn (s.updateFurnace f g) x σ + rowCount l (fun side => some (.entry f side)) x σ =
      countIn s x σ + rowCount m (fun side => some (.entry f side)) x σ := by
  rw [rowCount_entry, rowCount_entry]
  cases σ with
  | entry e side =>
    by_cases he : e = f
    · subst he
      simp only [countIn, State.updateFurnace_furnace, if_true, hold, hnew]
      omega
    · simp [countIn, he]
  | map e side =>
    by_cases he : e = f
    · subst he; simp [countIn, hmap]
    · simp [countIn, he]
  | _ => rfl

/-- R104: the map of a furnace loses the slabs `l` and gains the slabs `m`. -/
theorem countIn_changeRows {f : Furnace} {g : FurnaceState → FurnaceState} {m : List (SlabId × Side)}
    (hop : (g (s.furnace f)).op = (s.furnace f).op)
    (hrows : (l ++ (g (s.furnace f)).mapSlabs).Perm (m ++ (s.furnace f).mapSlabs)) (x : SlabId) (σ : Spot) :
    countIn (s.updateFurnace f g) x σ + rowCount l (fun side => some (.map f side)) x σ =
      countIn s x σ + rowCount m (fun side => some (.map f side)) x σ := by
  rw [rowCount_map, rowCount_map]
  cases σ with
  | map e side =>
    by_cases he : e = f
    · subst he
      have hcount := hrows.count_eq (x, side)
      rw [List.count_append, List.count_append] at hcount
      simp only [countIn, State.updateFurnace_furnace, if_true]
      omega
    · simp [countIn, he]
  | entry e side =>
    by_cases he : e = f
    · subst he; simp [countIn, hop]
    · simp [countIn, he]
  | _ => rfl

/-! ### The account after a row has moved -/

theorem place?_of_rowMoved {src : Side → Spot} {dst : Side → Option Place} (hm : RowMoved l src dst s t) (x : SlabId) :
    (∃ y ∈ l, x = y.1 ∧ t.place? x = dst y.2) ∨ (x ∉ l.map Prod.fst ∧ t.place? x = s.place? x) := by
  rw [hm.place]
  cases hside : sideIn l x with
  | none => exact .inr ⟨sideIn_eq_none_iff.mp hside, rfl⟩
  | some side => exact .inl ⟨_, mem_of_sideIn hside, rfl, rfl⟩

/-- R40: a row that takes no credit, or had it before. -/
theorem credits_of_rowMoved (h : Ledger s) {src : Side → Spot} {dst : Side → Option Place} (hm : RowMoved l src dst s t)
    (hcredit : (∀ side pl, dst side = some pl → pl.holdsCredit = false) ∨
      ∀ pl side, spotOfPlace pl = src side → pl.holdsCredit = true) : t.creditsHeld ≤ t.params.laneCapacity := by
  rw [params_of_setting hm.setting]
  refine (credits_le h.files hm.files fun x pl hplace hholds => ?_).trans h.credits
  rcases place?_of_rowMoved hm x with ⟨y, hy, rfl, hdst⟩ | ⟨-, hsame⟩
  · rcases hcredit with hfree | hheld
    · rw [hplace] at hdst
      rw [hfree y.2 pl hdst.symm] at hholds
      cases hholds
    · obtain ⟨r, hr, hspot⟩ := spotOf_eq_some.mp (hm.source y hy)
      exact ⟨r.place, place?_eq_some.mpr ⟨r, hr, rfl⟩, hheld _ _ hspot⟩
  · exact ⟨pl, hsame ▸ hplace, hholds⟩

/-- R64: a row that does not come from the sequence, and does not go there. -/
theorem custodyAgrees_of_rowMoved (h : CustodyAgrees s) {src : Side → Spot} {dst : Side → Option Place}
    (hm : RowMoved l src dst s t) (hsrc : ∀ side, src side ≠ .sequence) (hdst : ∀ side k o, dst side ≠ some (.lifted k o))
    (hcranes : ∀ k, (t.crane k).custody = (s.crane k).custody) : CustodyAgrees t :=
  custodyAgrees_of_same h hcranes fun x k o => by
    rcases place?_of_rowMoved hm x with ⟨y, hy, rfl, hplace⟩ | ⟨-, hsame⟩
    · have hspot := hm.source y hy
      refine ⟨fun hd => absurd (hplace ▸ hd) (hdst y.2 k o), fun hd => ?_⟩
      rw [spotOf_of_place hd] at hspot
      exact absurd (Option.some_injective _ hspot).symm (hsrc y.2)
    · rw [hsame]

theorem ledger_of_rowMoved (h : Ledger s) (hw : s.powered = true) {src : Side → Spot} {dst : Side → Option Place}
    (hm : RowMoved l src dst s t) (hrun : s.mode = .run)
    (hcredit : (∀ side pl, dst side = some pl → pl.holdsCredit = false) ∨
      ∀ pl side, spotOfPlace pl = src side → pl.holdsCredit = true)
    (hsrc : ∀ side, src side ≠ .sequence) (hdst : ∀ side k o, dst side ≠ some (.lifted k o))
    (hcranes : ∀ k, (t.crane k).custody = (s.crane k).custody) : Ledger t :=
  ledger_running hm.files (stands_of_rowMoved h.stands hm) (custodyAgrees_of_rowMoved (custodyAgrees_of_ledger h hw) hm hsrc hdst hcranes)
    (credits_of_rowMoved h hm hcredit) ((mode_of_setting hm.setting).trans hrun)

end Rows

end Sys2Proof.Proofs

/-!
PROOFS. The account through the charge of a row, its placing, its removal and its discharge.
-/

namespace Sys2Proof.Proofs

open Sys2Proof Sys2Proof.Machine

section RowEvents

variable {s t : State} {f : Furnace} {a : SlabId} {b : Option SlabId}

/-! ### The slabs of an operation and of a map stand there -/

theorem spotOf_of_count (hs : Stands s) {x : SlabId} {σ : Spot} (h : 0 < countIn s x σ) : spotOf s x = some σ := by
  by_contra hne
  rw [hs, if_neg hne] at h
  exact absurd h (lt_irrefl 0)

theorem spotOf_entry (hs : Stands s) {y : SlabId × Side} (hy : y ∈ (s.furnace f).op.slabs) : spotOf s y.1 = some (.entry f y.2) :=
  spotOf_of_count hs (List.count_pos_iff.mpr hy)

theorem spotOf_map (hs : Stands s) {y : SlabId × Side} (hy : y ∈ (s.furnace f).mapSlabs) : spotOf s y.1 = some (.map f y.2) :=
  spotOf_of_count hs (List.count_pos_iff.mpr hy)

theorem entry_nodup (hs : Stands s) (f : Furnace) : ((s.furnace f).op.slabs.map Prod.fst).Nodup :=
  nodup_fst_of_count (σ := Spot.entry f) (by simp) fun x side => hs x (.entry f side)

theorem map_nodup (hs : Stands s) (f : Furnace) : ((s.furnace f).mapSlabs.map Prod.fst).Nodup :=
  nodup_fst_of_count (σ := Spot.map f) (by simp) fun x side => hs x (.map f side)

theorem slabs_of_charging {width planned : Nat} (hop : (s.furnace f).op = .charging a b width planned) :
    (s.furnace f).op.slabs = slabsWithSides a b := by rw [hop]; rfl

theorem live_of_spot {x : SlabId} {σ : Spot} (h : spotOf s x = some σ) : s.place? x ≠ none := fun hnone => by
  rw [spotOf, hnone] at h
  cases h

theorem map_eq_bind (o : Option Place) (pl : Place) : (o.map fun _ => pl) = o.bind fun _ => some pl := by cases o <;> rfl

theorem ids_of_row (a : SlabId) (b : Option SlabId) : (slabsWithSides a b).map Prod.fst = a :: b.toList := by cases b <;> rfl

/-! ### Charges given up, and charges returned (R136, R137, R138, R141) -/

/-- R137, R141: the slabs of an operation become DOUBTFUL, and the operation ends. -/
theorem rowMoved_giveUp (hf : Files s) (hs : Stands s) {width planned : Nat}
    (hop : (s.furnace f).op = .charging a b width planned) {g : FurnaceState → FurnaceState}
    (hg : ∀ m, (g m).rows = m.rows ∧ (g m).op.slabs = []) :
    RowMoved (slabsWithSides a b) (.entry f) (fun side => some (.doubtful (.atEntry f side))) s
      (((slabsWithSides a b).foldl (fun v x => v.makeDoubtful x.1 (.atEntry f x.2)) s).updateFurnace f g) := by
  have hslabs := slabs_of_charging hop
  have hsource : ∀ y ∈ slabsWithSides a b, spotOf s y.1 = some (.entry f y.2) := fun y hy => spotOf_entry hs (hslabs.symm ▸ hy)
  have hfurnace : ((slabsWithSides a b).foldl (fun v x => v.makeDoubtful x.1 (.atEntry f x.2)) s).furnace f = s.furnace f :=
    furnace_foldl (g := fun v x => v.makeDoubtful x.1 (.atEntry f x.2)) (fun u y e => State.makeDoubtful_furnace u y.1 _ e) _ s f
  refine ⟨hslabs ▸ entry_nodup hs f, hsource, ?_, fun x => ?_, fun x σ => ?_, ?_⟩
  · exact files_of_register (files_foldl (g := fun v x => v.makeDoubtful x.1 (.atEntry f x.2))
      (fun _ x hu => files_makeDoubtful hu x.1 _) (slabsWithSides a b) hf) (State.updateFurnace_register ..)
  · rw [State.updateFurnace_place]
    exact place?_foldl (g := fun v x => v.makeDoubtful x.1 (.atEntry f x.2))
      (fun u y x => by rw [State.makeDoubtful_place?, map_eq_bind]) (hslabs ▸ entry_nodup hs f)
      (fun y hy => live_of_spot (hsource y hy)) x
  · have hended := countIn_changeOp (s := (slabsWithSides a b).foldl (fun v x => v.makeDoubtful x.1 (.atEntry f x.2)) s) (f := f)
      (g := g) (l := slabsWithSides a b) (m := []) (by rw [FurnaceState.mapSlabs, (hg _).1]; rfl) (by rw [hfurnace]; exact hslabs)
      (hg _).2 x σ
    rw [countIn_foldl_doubted (g := fun v x => v.makeDoubtful x.1 (.atEntry f x.2)) fun u y x σ => countIn_makeDoubtful ..] at hended
    exact hended
  · rw [setting_updateFurnace]
    exact setting_makeDoubtfuls (fun x => .atEntry f x.2) _ s

theorem ledger_giveUpCharge (h : Ledger s) (hw : s.powered = true) {width planned : Nat}
    (hop : (s.furnace f).op = .charging a b width planned) (timedOut : Bool) (code : FaultCode) (port : Option Port) :
    Ledger (s.giveUpCharge f a b timedOut code port) := by
  have hm := rowMoved_giveUp h.files h.stands hop (g := fun m => { m with op := .idle timedOut, chargeTimer := none })
    fun _ => ⟨rfl, rfl⟩
  have hmem : (a, (if b.isSome then Side.left else .single)) ∈ slabsWithSides a b := by cases b <;> simp [slabsWithSides]
  obtain ⟨pl, hpl⟩ := Option.ne_none_iff_exists'.mp (live_of_spot (hm.source _ hmem))
  refine ledger_doubtFurnace (ledger_of_rowMoved h hw hm (run_of_live h hpl) (.inl fun side pl hd => ?_) (by simp) (by simp)
    fun k => ?_) f _ _ _
  · cases hd; rfl
  · rw [State.updateFurnace_crane]
    rw [crane_foldl (g := fun v x => v.makeDoubtful x.1 (.atEntry f x.2)) fun u y j => State.makeDoubtful_crane u y.1 _ j]

/-- R56: the slabs of a row before the rest of the lane. -/
theorem countIn_lane (s : State) (l : List (SlabId × Side)) (rest : List SlabId) (x : SlabId) (σ : Spot) :
    countIn { s with lane := l.map Prod.fst ++ rest } x σ =
      countIn { s with lane := rest } x σ + rowCount l (fun _ => some .lane) x σ := by
  cases σ with
  | lane =>
    simp only [countIn, rowCount, beq_self_eq_true, Bool.and_true, List.count, List.countP_append, List.countP_map]
    exact Nat.add_comm _ _
  | _ => simp [countIn, rowCount, State.furnace]

theorem ledger_returnCharge (h : Ledger s) (hw : s.powered = true) {width planned : Nat}
    (hop : (s.furnace f).op = .charging a b width planned) : Ledger (s.returnCharge f a b) := by
  have hslabs := slabs_of_charging hop
  have hsource : ∀ y ∈ slabsWithSides a b, spotOf s y.1 = some (.entry f y.2) := fun y hy => spotOf_entry h.stands (hslabs.symm ▸ hy)
  have hfold : s.returnCharge f a b = (slabsWithSides a b).foldl (fun (t : State) y => t.setPlace y.1 .onLane)
      { s.endOperation f false with lane := (slabsWithSides a b).map Prod.fst ++ s.lane } := by
    rw [ids_of_row, State.returnCharge, ← ids_of_row, List.foldl_map]
  have hm : RowMoved (slabsWithSides a b) (.entry f) (fun _ => some .onLane) s (s.returnCharge f a b) := by
    refine ⟨hslabs ▸ entry_nodup h.stands f, hsource, ?_, fun x => ?_, fun x σ => ?_, setting_returnCharge s f a b⟩
    · rw [hfold]
      exact files_foldl (g := fun t (y : SlabId × Side) => t.setPlace y.1 .onLane) (fun _ y hu => files_setPlace hu y.1 rfl) _
        (files_of_register h.files rfl)
    · rw [hfold]
      exact place?_foldl (s := { s.endOperation f false with lane := (slabsWithSides a b).map Prod.fst ++ s.lane })
        (g := fun t y => t.setPlace y.1 .onLane) (dst := fun _ => some .onLane)
        (fun u y x => by rw [State.setPlace_place?, map_eq_bind]) (hslabs ▸ entry_nodup h.stands f)
        (fun y hy => live_of_spot (hsource y hy)) x
    · rw [hfold, countIn_foldl_same fun u y x σ => countIn_setPlace .., countIn_lane]
      have hended := countIn_changeOp (s := s) (f := f) (g := fun m => { m with op := .idle false, chargeTimer := none })
        (l := slabsWithSides a b) (m := []) rfl hslabs rfl x σ
      have hsame : countIn { s.endOperation f false with lane := s.lane } x σ = countIn (s.endOperation f false) x σ := rfl
      rw [hsame, State.endOperation, Nat.add_right_comm, hended]
      rfl
  have hmem : (a, (if b.isSome then Side.left else .single)) ∈ slabsWithSides a b := by cases b <;> simp [slabsWithSides]
  obtain ⟨pl, hpl⟩ := Option.ne_none_iff_exists'.mp (live_of_spot (hm.source _ hmem))
  refine ledger_of_rowMoved h hw hm (run_of_live h hpl) (.inr fun pl side hspot => ?_) (by simp) (by simp) fun k => ?_
  · rw [(spotOfPlace_entry pl f side).mp hspot]; rfl
  · rw [hfold]
    rw [crane_foldl (g := fun t y => t.setPlace y.1 .onLane) fun u y j => State.setPlace_crane u y.1 _ j]
    rfl

/-! ### A charge begins, and ends (R133, R135) -/

/-- R58: the lane stands with the slabs of the head row before the rest. -/
theorem lane_of_headRow (h : (s.headRow = .single a ∧ b = none) ∨ ∃ c, s.headRow = .pair a c ∧ b = some c) :
    ∃ rest, s.lane = a :: b.toList ++ rest := by
  unfold State.headRow at h
  cases hlane : s.lane with
  | nil => simp [hlane] at h
  | cons x rest =>
    simp only [hlane] at h
    cases hpartner : s.partner? x with
    | none =>
      simp only [hpartner, HeadRow.single.injEq, reduceCtorEq, false_and, exists_false, or_false] at h
      obtain ⟨rfl, rfl⟩ := h
      exact ⟨rest, rfl⟩
    | some q =>
      simp only [hpartner] at h
      split at h
      · split at h
        · next hnext =>
          rcases h with ⟨hbad, -⟩ | ⟨c, hpair, rfl⟩
          · cases hbad
          · cases hpair
            obtain ⟨tail, rfl⟩ := List.head?_eq_some_iff.mp hnext
            exact ⟨tail, rfl⟩
        · rcases h with ⟨hbad, -⟩ | ⟨c, hbad, -⟩ <;> cases hbad
      · rcases h with ⟨hsingle, rfl⟩ | ⟨c, hbad, -⟩
        · cases hsingle; exact ⟨rest, rfl⟩
        · cases hbad

theorem lane_nodup (hs : Stands s) : s.lane.Nodup :=
  List.nodup_iff_count_le_one.mpr fun x => by
    have := hs x .lane
    rw [countIn] at this
    rw [this]
    split <;> omega

theorem ledger_beginCharge (h : Ledger s) (hw : s.powered = true) (q : Plan) (hidle : (s.furnace f).op.isCharging = false)
    {rest : List SlabId} (hlane : s.lane = q.slabA :: q.slabB.toList ++ rest) : Ledger (s.beginCharge f q) := by
  rw [← ids_of_row] at hlane
  have hnodup : ((slabsWithSides q.slabA q.slabB).map Prod.fst).Nodup :=
    (lane_nodup h.stands).sublist (hlane ▸ List.sublist_append_left _ _)
  have hsource : ∀ y ∈ slabsWithSides q.slabA q.slabB, spotOf s y.1 = some .lane := fun y hy =>
    spotOf_of_count h.stands (σ := .lane) (List.count_pos_iff.mpr (hlane ▸ List.mem_append_left _ (List.mem_map_of_mem hy)))
  have hdrop : s.lane.drop (slabsWithSides q.slabA q.slabB).length = rest := by
    rw [hlane, List.drop_left' (List.length_map _)]
  have hbegun : s.beginCharge f q = State.updateFurnace
      ((slabsWithSides q.slabA q.slabB).foldl (fun t x => t.setPlace x.1 (.atEntry f x.2)) { s with lane := rest }) f fun m =>
        { m with op := .charging q.slabA q.slabB q.width q.soakTarget, chargeTimer := some (tenths s.params.chargePeriod) } := by
    rw [State.beginCharge, State.toEntry, hdrop]
  have hnoslabs : (s.furnace f).op.slabs = [] := by
    cases hop : (s.furnace f).op with
    | idle timedOut => rfl
    | charging x y w p => rw [hop] at hidle; cases hidle
  have hm : RowMoved (slabsWithSides q.slabA q.slabB) (fun _ => .lane) (fun side => some (.atEntry f side)) s (s.beginCharge f q) := by
    refine ⟨hnodup, hsource, ?_, fun x => ?_, fun x σ => ?_, setting_beginCharge s f q⟩
    · rw [hbegun]
      exact files_of_register (files_foldl (g := fun t (x : SlabId × Side) => t.setPlace x.1 (.atEntry f x.2))
        (fun _ x hu => files_setPlace hu x.1 rfl) _ (files_of_register (t := { s with lane := rest }) h.files rfl))
        (State.updateFurnace_register ..)
    · rw [hbegun, State.updateFurnace_place]
      exact place?_foldl (s := { s with lane := rest }) (g := fun t x => t.setPlace x.1 (.atEntry f x.2))
        (dst := fun side => some (.atEntry f side)) (fun u y x => by rw [State.setPlace_place?, map_eq_bind]) hnodup
        (fun y hy => live_of_spot (hsource y hy)) x
    · have hentered := countIn_changeOp (l := []) (m := slabsWithSides q.slabA q.slabB) (f := f)
        (s := (slabsWithSides q.slabA q.slabB).foldl (fun t x => t.setPlace x.1 (.atEntry f x.2)) { s with lane := rest })
        (g := fun m => { m with op := .charging q.slabA q.slabB q.width q.soakTarget, chargeTimer := some (tenths s.params.chargePeriod) })
        rfl (by rw [furnace_foldl fun u y e => State.setPlace_furnace u y.1 _ e]; exact hnoslabs) rfl x σ
      rw [countIn_foldl_same fun u y x σ => countIn_setPlace u y.1 _ x σ] at hentered
      have hleft : countIn s x σ = countIn { s with lane := rest } x σ +
          rowCount (slabsWithSides q.slabA q.slabB) (fun _ => some .lane) x σ := by
        rw [← countIn_lane, ← hlane]
      rw [hbegun, hleft, Nat.add_right_comm]
      exact congrArg (· + _) hentered
  have hmem : (q.slabA, (if q.slabB.isSome then Side.left else .single)) ∈ slabsWithSides q.slabA q.slabB := by
    cases q.slabB <;> simp [slabsWithSides]
  obtain ⟨pl, hpl⟩ := Option.ne_none_iff_exists'.mp (live_of_spot (hm.source _ hmem))
  refine ledger_of_rowMoved h hw hm (run_of_live h hpl) (.inr fun pl side hspot => ?_) (by simp) (by simp) fun k => ?_
  · rw [(spotOfPlace_lane pl).mp hspot]; rfl
  · rw [hbegun, State.updateFurnace_crane, crane_foldl fun u y j => State.setPlace_crane u y.1 _ j]
    rfl

theorem sameBooks_entryOverlap (s : State) (f : Furnace) (row : Row) (older : Option Row) :
    SameBooks s (s.entryOverlap f row older) := by
  unfold State.entryOverlap
  split
  · split
    · exact sameBooks_doubtFurnace s _ _ _ _
    · exact .refl s
  · exact .refl s

/-- R135, steps 1 to 3: the slabs of an operation become a row of the map. -/
theorem ledger_charged (h : Ledger s) (hw : s.powered = true) {width planned : Nat}
    (hop : (s.furnace f).op = .charging a b width planned) {row : Row} (ha : row.slabA = a) (hb : row.slabB = b) :
    Ledger (((s.endOperation f false).toFurnace f a b).updateFurnace f fun m => { m with rows := row :: m.rows }) := by
  have hslabs := slabs_of_charging hop
  have hsource : ∀ y ∈ slabsWithSides a b, spotOf s y.1 = some (.entry f y.2) := fun y hy => spotOf_entry h.stands (hslabs.symm ▸ hy)
  have hm : RowMoved (slabsWithSides a b) (.entry f) (fun side => some (.inFurnace f side)) s
      (((s.endOperation f false).toFurnace f a b).updateFurnace f fun m => { m with rows := row :: m.rows }) := by
    refine ⟨hslabs ▸ entry_nodup h.stands f, hsource, ?_, fun x => ?_, fun x σ => ?_, ?_⟩
    · exact files_of_register (files_foldl (g := fun t (x : SlabId × Side) => t.setPlace x.1 (.inFurnace f x.2))
        (fun _ x hu => files_setPlace hu x.1 rfl) (slabsWithSides a b)
        (files_of_register (t := s.endOperation f false) h.files (State.updateFurnace_register ..))) (State.updateFurnace_register ..)
    · rw [State.updateFurnace_place]
      exact place?_foldl (s := s.endOperation f false) (g := fun t x => t.setPlace x.1 (.inFurnace f x.2))
        (dst := fun side => some (.inFurnace f side)) (fun u y x => by rw [State.setPlace_place?, map_eq_bind])
        (hslabs ▸ entry_nodup h.stands f) (fun y hy => live_of_spot (hsource y hy)) x
    · have hended := countIn_changeOp (s := s) (f := f) (g := fun m => { m with op := .idle false, chargeTimer := none })
        (l := slabsWithSides a b) (m := []) rfl hslabs rfl x σ
      have hlaid := countIn_changeRows (s := (s.endOperation f false).toFurnace f a b) (f := f)
        (g := fun m => { m with rows := row :: m.rows }) (l := []) (m := slabsWithSides a b) rfl
        (by rw [FurnaceState.mapSlabs, List.flatMap_cons, ha, hb]; exact .refl _) x σ
      rw [State.toFurnace, countIn_foldl_same fun u y x σ => countIn_setPlace u y.1 _ x σ] at hlaid
      have hzero : ∀ d, rowCount [] d x σ = 0 := fun _ => rfl
      rw [hzero, Nat.add_zero] at hended hlaid
      rw [State.toFurnace, hlaid, Nat.add_right_comm]
      exact congrArg (· + _) hended
    · rw [setting_updateFurnace]
      exact setting_setPlaces Prod.fst (fun x => .inFurnace f x.2) (slabsWithSides a b) (s.endOperation f false)
  have hmem : (a, (if b.isSome then Side.left else .single)) ∈ slabsWithSides a b := by cases b <;> simp [slabsWithSides]
  obtain ⟨pl, hpl⟩ := Option.ne_none_iff_exists'.mp (live_of_spot (hm.source _ hmem))
  refine ledger_of_rowMoved h hw hm (run_of_live h hpl) (.inl fun side pl hd => ?_) (by simp) (by simp) fun k => ?_
  · cases hd; rfl
  · rw [State.updateFurnace_crane, State.toFurnace, crane_foldl fun u y j => State.setPlace_crane u y.1 _ j]
    rfl

theorem ledger_endCharge (h : Ledger s) (hw : s.powered = true) {width planned : Nat}
    (hop : (s.furnace f).op = .charging a b width planned) : Ledger (s.endCharge f a b width) := by
  have hlaid := ledger_charged h hw hop (row := s.chargedRow f a b width) rfl rfl
  have hchecked : ∀ (u : State) (row : Row) (older : Option Row), Ledger u → Ledger (u.entryOverlap f row older) := fun u row older hu =>
    ledger_of_same (sameBooks_entryOverlap u f row older) (setting_entryOverlap u f row older) hu
  unfold State.endCharge
  refine hchecked _ _ _ ?_
  split
  · exact ledger_soakCheck hlaid f
  · exact hlaid

end RowEvents

end Sys2Proof.Proofs

/-!
PROOFS. The account through the placing of a row by SUPV, its removal from a map and its discharge.
-/

namespace Sys2Proof.Proofs

open Sys2Proof Sys2Proof.Machine

section RowEvents

variable {s t : State} {f : Furnace} {a : SlabId} {b : Option SlabId}

/-! ### Placing (R148, R149) -/

theorem mem_ids_of_row {y : SlabId × Side} (hy : y ∈ slabsWithSides a b) : y.1 ∈ a :: b.toList :=
  ids_of_row a b ▸ List.mem_map_of_mem hy

theorem partner?_foldl {g : State → SlabId × Side → State} (hg : ∀ u y x, (g u y).partner? x = u.partner? x)
    (l : List (SlabId × Side)) (s : State) (x : SlabId) : (l.foldl g s).partner? x = s.partner? x := by
  induction l generalizing s with
  | nil => rfl
  | cons y l ih => rw [List.foldl_cons, ih, hg]

theorem partner?_resolveTo (s : State) (id : SlabId) (pl : Place) (x : SlabId) : (s.resolveTo id pl).partner? x = s.partner? x :=
  partner?_updateSlab_same s id x (fun r => { r with place := pl, edited := true }) fun _ => ⟨rfl, rfl⟩

/-- R149: the slabs of a row of the doubt list stand in the map, and two of them form a pair. -/
theorem rowMoved_place (hf : Files s) (hs : Stands s) (row : Row) (ha : row.slabA = a) (hb : row.slabB = b) (i : Nat)
    (hdoubt : ∀ x ∈ a :: b.toList, spotOf s x = some .doubt) (hnodup : (a :: b.toList).Nodup) :
    RowMoved (slabsWithSides a b) (fun _ => .doubt) (fun side => some (.inFurnace f side)) s
      (((slabsWithSides a b).foldl (fun v x => v.resolveTo x.1 (.inFurnace f x.2))
        (s.updateFurnace f fun m => { m with rows := (s.furnace f).rows.take i ++ row :: (s.furnace f).rows.drop i })).formRowPair
          a b) := by
  have hl : ((slabsWithSides a b).map Prod.fst).Nodup := by rwa [ids_of_row]
  have hsource : ∀ y ∈ slabsWithSides a b, spotOf s y.1 = some .doubt := fun y hy => hdoubt _ (mem_ids_of_row hy)
  generalize hlaid : (s.updateFurnace f fun m => { m with rows := (s.furnace f).rows.take i ++ row :: (s.furnace f).rows.drop i }) = laid
  have hlaidPlace : ∀ x, laid.place? x = s.place? x := fun x => by rw [← hlaid, State.updateFurnace_place]
  have hlaidPartner : ∀ x, laid.partner? x = s.partner? x := fun x => by rw [← hlaid, State.updateFurnace_partner]
  have hlaidFiles : Files laid := files_of_register hf (by rw [← hlaid, State.updateFurnace_register])
  have hlaidCount : ∀ x σ, countIn laid x σ = countIn s x σ + rowCount (slabsWithSides a b) (fun side => some (.map f side)) x σ := by
    intro x σ
    rw [← hlaid]
    refine countIn_changeRows (l := []) (m := slabsWithSides a b) rfl ?_ x σ
    have hrows : ((s.furnace f).rows.take i ++ row :: (s.furnace f).rows.drop i).Perm (row :: (s.furnace f).rows) := by
      conv_rhs => rw [← List.take_append_drop i (s.furnace f).rows]
      exact List.perm_middle
    have hslabs := hrows.flatMap_right fun r => slabsWithSides r.slabA r.slabB
    rwa [List.flatMap_cons, ha, hb] at hslabs
  generalize hresolved : (slabsWithSides a b).foldl (fun v x => v.resolveTo x.1 (.inFurnace f x.2)) laid = u
  have hplace : ∀ x, u.place? x = (sideIn (slabsWithSides a b) x).elim (s.place? x) fun side => some (.inFurnace f side) := fun x => by
    rw [← hresolved, place?_foldl (g := fun v x => v.resolveTo x.1 (.inFurnace f x.2)) (dst := fun side => some (.inFurnace f side))
      (fun v y x => by rw [State.resolveTo_place?, map_eq_bind]) hl
      (fun y hy => by rw [hlaidPlace]; exact live_of_spot (hsource y hy)), hlaidPlace]
  have hpartner : ∀ x, u.partner? x = s.partner? x := fun x => by
    rw [← hresolved, partner?_foldl (g := fun v x => v.resolveTo x.1 (.inFurnace f x.2)) (fun v y x => partner?_resolveTo ..),
      hlaidPartner]
  have hfiles : Files u := by
    rw [← hresolved]
    exact files_foldl (g := fun v (x : SlabId × Side) => v.resolveTo x.1 (.inFurnace f x.2))
      (fun _ x hu => files_resolveTo hu x.1 rfl) _ hlaidFiles
  have hcount : ∀ x σ, countIn u x σ = if (sideIn (slabsWithSides a b) x).isSome ∧ σ = .doubt then 0 else countIn laid x σ :=
    fun x σ => by
      rw [← hresolved]
      exact countIn_foldl_undoubted (g := fun v x => v.resolveTo x.1 (.inFurnace f x.2)) (fun v y x σ => countIn_resolveTo ..) x σ
  have hsetting : setting u = setting s := by
    rw [← hresolved, setting_foldl (g := fun v (x : SlabId × Side) => v.resolveTo x.1 (.inFurnace f x.2))
      (fun v y => setting_resolveTo v y.1 _), ← hlaid, setting_updateFurnace]
  refine ⟨hl, hsource, ?_, fun x => ?_, fun x σ => ?_, ?_⟩
  · cases b with
    | none => exact hfiles
    | some c =>
      have hat : ∀ x side, sideIn (slabsWithSides a (some c)) x = some side → u.place? x = some (.inFurnace f side) := fun x side h => by
        rw [hplace, h]; rfl
      have hac : a ≠ c := by simpa using hnodup
      have hsingle : ∀ x ∈ a :: (some c).toList, u.partner? x = none := fun x hx => by
        obtain ⟨r, hr, hspot⟩ := spotOf_eq_some.mp (hdoubt x hx)
        rw [hpartner]
        cases hpl : r.place with
        | doubtful last => exact hf.single x last (place?_eq_some.mpr ⟨r, hr, hpl⟩)
        | _ => rw [hpl] at hspot; cases hspot
      exact files_formPair hfiles (hat a .left (by simp [slabsWithSides, sideIn_cons]))
        (hat c .right (by simp [slabsWithSides, sideIn_cons, hac.symm])) hac rfl rfl (hsingle a (by simp)) (hsingle c (by simp))
  · rw [← hplace]
    cases b with
    | none => rfl
    | some c => exact place?_formPair u a c x
  · have hsame : countIn (u.formRowPair a b) x σ = countIn u x σ := by
      cases b with
      | none => rfl
      | some c => exact countIn_formPair u a c x σ
    rw [hsame, hcount, hlaidCount, rowCount_eq hl, rowCount_eq hl]
    cases hside : sideIn (slabsWithSides a b) x with
    | none => simp [rowCount_eq hl, hside]
    | some side =>
      have hx := hsource _ (mem_of_sideIn hside)
      rw [hs x σ, hx, rowCount_eq hl, hside]
      cases σ <;> simp [spotOfPlace]
  · cases b with
    | none => exact hsetting
    | some c => exact (setting_formPair u a c).trans hsetting

theorem formRowPair_crane (s : State) (a : SlabId) (b : Option SlabId) (k : Crane) : (s.formRowPair a b).crane k = s.crane k := by
  cases b <;> rfl

theorem ledger_placeRow (h : Ledger s) (hw : s.powered = true) (hrun : s.mode = .run) (q : Placing)
    (hdoubt : ∀ x ∈ a :: b.toList, spotOf s x = some .doubt) (hnodup : (a :: b.toList).Nodup) : Ledger (s.placeRow f a b q) := by
  have hm := rowMoved_place (f := f) h.files h.stands (s.placedRow f a b q) rfl rfl (placeIndex (s.furnace f).rows q.rear) hdoubt hnodup
  have hlaid := ledger_of_rowMoved h hw hm hrun (.inl fun side pl hd => by cases hd; rfl) (by simp) (by simp) fun k => by
    rw [formRowPair_crane, crane_foldl fun u y j => State.resolveTo_crane u y.1 _ j]
    rfl
  unfold State.placeRow
  dsimp only
  split
  · exact ledger_soakCheck hlaid f
  · exact hlaid

/-! ### Removal (R150) -/

theorem holds_iff (r : Row) (x : SlabId) : r.holds x = true ↔ x ∈ (slabsWithSides r.slabA r.slabB).map Prod.fst := by
  rw [ids_of_row, Row.holds, Bool.or_eq_true, beq_iff_eq, beq_iff_eq, List.mem_cons, Option.mem_toList, eq_comm (a := x)]

/-- R142: in a map that holds no slab twice, a row is the only one that holds its first slab. -/
theorem slabs_of_removed {rows : List Row} (hrows : ((rows.flatMap fun r => slabsWithSides r.slabA r.slabB).map Prod.fst).Nodup)
    {row : Row} (hrow : row ∈ rows) :
    (slabsWithSides row.slabA row.slabB ++ (rows.filter fun r => !r.holds row.slabA).flatMap fun r =>
      slabsWithSides r.slabA r.slabB).Perm (rows.flatMap fun r => slabsWithSides r.slabA r.slabB) := by
  obtain ⟨before, after, rfl⟩ := List.append_of_mem hrow
  have hmine : row.slabA ∈ (slabsWithSides row.slabA row.slabB).map Prod.fst := by simp [ids_of_row]
  simp only [List.flatMap_append, List.flatMap_cons, List.map_append] at hrows
  have hids : ∀ {l : List Row} {r : Row}, r ∈ l → r.holds row.slabA = true →
      row.slabA ∈ (l.flatMap fun r => slabsWithSides r.slabA r.slabB).map Prod.fst := fun hr hholds => by
    obtain ⟨y, hy, hid⟩ := List.mem_map.mp ((holds_iff _ _).mp hholds)
    exact List.mem_map.mpr ⟨y, List.mem_flatMap.mpr ⟨_, hr, hy⟩, hid⟩
  obtain ⟨-, hrest, hapart⟩ := List.nodup_append.mp hrows
  obtain ⟨-, -, hafter'⟩ := List.nodup_append.mp hrest
  have hbefore : ∀ r ∈ before, r.holds row.slabA = false := fun r hr =>
    Bool.eq_false_iff.mpr fun hholds => hapart _ (hids hr hholds) _ (List.mem_append_left _ hmine) rfl
  have hafter : ∀ r ∈ after, r.holds row.slabA = false := fun r hr =>
    Bool.eq_false_iff.mpr fun hholds => hafter' _ hmine _ (hids hr hholds) rfl
  have hfilter : (before ++ row :: after).filter (fun r => !r.holds row.slabA) = before ++ after := by
    rw [List.filter_append, List.filter_cons_of_neg (by simp [Row.holds]),
      List.filter_eq_self.mpr fun r hr => by simp [hbefore r hr], List.filter_eq_self.mpr fun r hr => by simp [hafter r hr]]
  rw [hfilter, List.flatMap_append, List.flatMap_append, List.flatMap_cons]
  exact (List.perm_append_comm_assoc _ _ _)

theorem rowInFurnace_ok {id : SlabId} {row : Row} (h : s.rowInFurnace f id = .ok row) :
    row ∈ (s.furnace f).rows ∧ row.holds id = true ∧ ∃ side, s.place? id = some (.inFurnace f side) := by
  unfold State.rowInFurnace at h
  split at h
  · cases h
  · next g side hplace =>
    split at h
    · next hg =>
      subst hg
      split at h
      · next r hr => cases h; exact ⟨List.mem_of_find?_eq_some hr, by simpa using List.find?_some hr, side, hplace⟩
      · cases h
    · cases h
  · cases h

theorem mem_mapSlabs {m : FurnaceState} {row : Row} (hrow : row ∈ m.rows) {y : SlabId × Side}
    (hy : y ∈ slabsWithSides row.slabA row.slabB) : y ∈ m.mapSlabs := List.mem_flatMap.mpr ⟨row, hrow, hy⟩

theorem row_nodup (hs : Stands s) {row : Row} (hrow : row ∈ (s.furnace f).rows) :
    ((slabsWithSides row.slabA row.slabB).map Prod.fst).Nodup := by
  have hsub : (slabsWithSides row.slabA row.slabB).Sublist (s.furnace f).mapSlabs :=
    List.sublist_flatten_of_mem (List.mem_map_of_mem (f := fun r : Row => slabsWithSides r.slabA r.slabB) hrow)
  exact (map_nodup hs f).sublist (hsub.map _)

theorem rowMoved_remove (hf : Files s) (hs : Stands s) {row : Row} (hrow : row ∈ (s.furnace f).rows) :
    RowMoved (slabsWithSides row.slabA row.slabB) (.map f) (fun side => some (.doubtful (.inFurnace f side))) s
      ((slabsWithSides row.slabA row.slabB).foldl (fun v x => v.makeDoubtful x.1 (.inFurnace f x.2))
        (s.updateFurnace f fun m => { m with rows := (s.furnace f).rows.filter fun r => !r.holds row.slabA })) := by
  have hsource : ∀ y ∈ slabsWithSides row.slabA row.slabB, spotOf s y.1 = some (.map f y.2) := fun y hy =>
    spotOf_map hs (mem_mapSlabs hrow hy)
  refine ⟨row_nodup hs hrow, hsource, ?_, fun x => ?_, fun x σ => ?_, ?_⟩
  · exact files_foldl (g := fun v (x : SlabId × Side) => v.makeDoubtful x.1 (.inFurnace f x.2))
      (fun _ x hu => files_makeDoubtful hu x.1 _) _ (files_of_register hf (State.updateFurnace_register ..))
  · exact place?_foldl (s := s.updateFurnace f fun m => { m with rows := (s.furnace f).rows.filter fun r => !r.holds row.slabA })
      (g := fun v x => v.makeDoubtful x.1 (.inFurnace f x.2)) (dst := fun side => some (.doubtful (.inFurnace f side)))
      (fun u y x => by rw [State.makeDoubtful_place?, map_eq_bind]) (row_nodup hs hrow)
      (fun y hy => live_of_spot (hsource y hy)) x
  · have hleft := countIn_changeRows (s := s) (f := f)
      (g := fun m => { m with rows := (s.furnace f).rows.filter fun r => !r.holds row.slabA })
      (l := slabsWithSides row.slabA row.slabB) (m := []) rfl (slabs_of_removed (map_nodup hs f) hrow) x σ
    rw [countIn_foldl_doubted (g := fun v x => v.makeDoubtful x.1 (.inFurnace f x.2)) fun u y x σ => countIn_makeDoubtful ..,
      Nat.add_right_comm, hleft]
    rfl
  · rw [setting_makeDoubtfuls fun x => .inFurnace f x.2, setting_updateFurnace]

theorem ledger_removeRow (h : Ledger s) (hw : s.powered = true) {row : Row} (hrow : row ∈ (s.furnace f).rows) (hrun : s.mode = .run) :
    Ledger (s.removeRow f row) := by
  have hoff := ledger_of_rowMoved h hw (rowMoved_remove h.files h.stands hrow) hrun (.inl fun side pl hd => by cases hd; rfl)
    (by simp) (by simp) fun k => by
      rw [crane_foldl (g := fun v x => v.makeDoubtful x.1 (.inFurnace f x.2)) fun u y j => State.makeDoubtful_crane u y.1 _ j]
      rfl
  unfold State.removeRow
  dsimp only
  refine ledger_raiseSupv ?_ _
  split
  · exact ledger_soakCheck hoff f
  · exact hoff

/-! ### Discharge (R120 to R123) -/

theorem sameBooks_log (s : State) (log : List DischargeRecord) (overrun : Bool) :
    SameBooks s { s with log := log, logOverrun := overrun } :=
  ⟨rfl, rfl, rfl, rfl, rfl, rfl, fun _ => rfl, fun _ => rfl, fun _ => rfl⟩

theorem sameBooks_pushDischarge (s : State) (f : Furnace) (r : DischargeRecord) : SameBooks s (s.pushDischarge f r) := by
  have hroom : SameBooks s (s.makeRoom f) := by
    unfold State.makeRoom
    split
    · exact (sameBooks_log s _ true).trans (sameBooks_logFault _ _ _ _ _)
    · exact .refl s
  exact hroom.trans ((sameBooks_log (s.makeRoom f) _ _).trans (sameBooks_raiseWhen _ _ _ _))

theorem ledger_dischargeFront (h : Ledger s) (hw : s.powered = true) {r : Row} (hr : (s.furnace f).rows.getLast? = some r) :
    Ledger (s.dischargeFront f r) := by
  have hrow : r ∈ (s.furnace f).rows := List.mem_of_getLast? hr
  have hrows : (s.furnace f).rows.dropLast ++ [r] = (s.furnace f).rows := List.dropLast_append_getLast? r hr
  have hsource : ∀ y ∈ slabsWithSides r.slabA r.slabB, spotOf s y.1 = some (.map f y.2) := fun y hy =>
    spotOf_map h.stands (mem_mapSlabs hrow hy)
  generalize hoff : (s.updateFurnace f fun m => { m with rows := m.rows.dropLast }) = off
  have hoffCount : ∀ x σ, countIn off x σ + rowCount (slabsWithSides r.slabA r.slabB) (fun side => some (.map f side)) x σ =
      countIn s x σ := fun x σ => by
    rw [← hoff]
    refine countIn_changeRows (m := []) rfl ?_ x σ
    rw [FurnaceState.mapSlabs, List.nil_append, FurnaceState.mapSlabs, ← hrows, List.flatMap_append, List.flatMap_singleton,
      List.dropLast_concat]
    exact List.perm_append_comm
  have hoffPlace : ∀ x, off.place? x = s.place? x := fun x => by rw [← hoff, State.updateFurnace_place]
  obtain ⟨u, hu, hbooks, husetting⟩ : ∃ u, (if r.residence < r.soakTarget then
      off.logFurnace f .underheat (some r.slabA) (some (furnacePort f)) else off) = u ∧ SameBooks off u ∧ setting u = setting off := by
    refine ⟨_, rfl, ?_, setting_ite (by simp) rfl⟩
    split
    · exact sameBooks_logFault off _ _ _ _
    · exact .refl off
  have hpush : ∀ (v : State) (y : SlabId × Side) x, (v.pushDischarge f (v.dischargeRecord f r y.1 y.2)).place? x = v.place? x :=
    fun v y x => place?_of_sameBooks (sameBooks_pushDischarge v f _) x
  have hm : RowMoved (slabsWithSides r.slabA r.slabB) (.map f) (fun _ => none) s
      ((slabsWithSides r.slabA r.slabB).foldl (fun v x => v.dischargeSlab f r x) u) := by
    refine ⟨row_nodup h.stands hrow, hsource, ?_, fun x => ?_, fun x σ => ?_, ?_⟩
    · refine files_foldl (g := fun v x => v.dischargeSlab f r x) (fun v x hv => ?_) _ (files_of_register h.files ?_)
      · exact files_freeSlab (files_of_register hv (sameBooks_pushDischarge v f _).register) x.1
      · rw [hbooks.register, ← hoff, State.updateFurnace_register]
    · have hplace := place?_foldl (s := u) (g := fun v x => v.dischargeSlab f r x) (dst := fun _ => none)
        (fun v y x => by
          rw [State.dischargeSlab, State.freeSlab_place?, hpush]
          split
          · simp
          · rfl)
        (row_nodup h.stands hrow)
        (fun y hy => by rw [place?_of_sameBooks hbooks, hoffPlace]; exact live_of_spot (hsource y hy)) x
      rw [hplace, place?_of_sameBooks hbooks, hoffPlace]
    · have hfreed := countIn_foldl_undoubted (s := u) (l := slabsWithSides r.slabA r.slabB) (g := fun v x => v.dischargeSlab f r x)
        (fun v y x σ => by
          rw [State.dischargeSlab, countIn_freeSlab, countIn_of_sameBooks (sameBooks_pushDischarge v f _)]) x σ
      rw [hfreed, countIn_of_sameBooks hbooks, ← hoffCount x σ, rowCount_eq (row_nodup h.stands hrow),
        rowCount_eq (row_nodup h.stands hrow)]
      cases hside : sideIn (slabsWithSides r.slabA r.slabB) x with
      | none => simp
      | some side =>
        have hx := hsource _ (mem_of_sideIn hside)
        have hcount := hoffCount x σ
        rw [h.stands x σ, hx, rowCount_eq (row_nodup h.stands hrow), hside] at hcount
        cases σ <;> simp_all
    · rw [setting_foldl fun v y => setting_dischargeSlab v f r y, husetting, ← hoff, setting_updateFurnace]
  have hmem : (r.slabA, (if r.slabB.isSome then Side.left else .single)) ∈ slabsWithSides r.slabA r.slabB := by
    cases r.slabB <;> simp [slabsWithSides]
  obtain ⟨pl, hpl⟩ := Option.ne_none_iff_exists'.mp (live_of_spot (hm.source _ hmem))
  rw [State.dischargeFront, hoff, hu]
  refine ledger_soakCheck (ledger_of_rowMoved h hw hm (run_of_live h hpl) (.inl nofun) (by simp) (by simp) fun k => ?_) f
  have hcrane : ∀ (v : State) (y : SlabId × Side) j, (v.dischargeSlab f r y).crane j = v.crane j := fun v y j => by
    rw [State.dischargeSlab, State.freeSlab_crane, State.crane, (sameBooks_pushDischarge v f _).cranes]; rfl
  rw [crane_foldl hcrane, State.crane, hbooks.cranes, ← hoff]
  rfl

end RowEvents

end Sys2Proof.Proofs

/-!
PROOFS. Slabs that become single as they move: what the end of a pair and a change of place leave of every record, and recovery
(R181), which is a run of such steps.
-/

namespace Sys2Proof.Proofs

open Sys2Proof Sys2Proof.Machine

/-- The record `r` is a member of a pair of which `moved` touches a member. -/
def SlabRecord.pairTouched (moved : SlabId → Option Place) (r : SlabRecord) : Prop :=
  ∃ q, r.partner = some q ∧ ((moved r.id).isSome = true ∨ (moved q.id).isSome = true)

/-- What a run of events leaves of the register that sends the slabs that `moved` names to their new places and dissolves their
pairs. -/
structure Singled (moved : SlabId → Option Place) (s t : State) : Prop where
  ids : (t.register.map fun r => r.id) = s.register.map fun r => r.id
  place : ∀ x, t.place? x = (s.place? x).map fun pl => (moved x).getD pl
  slab : ∀ x r, s.slab? x = some r → ∃ r', t.slab? x = some r' ∧ (SlabRecord.pairTouched moved r → r.becomesSingle r') ∧
    (¬SlabRecord.pairTouched moved r → r' = { r with place := r'.place })

section Singles

variable {s t u : State}

theorem becomesSingle_partner {r r' : SlabRecord} (h : r.becomesSingle r') : r'.partner = none := by rw [h.1]

/-- A record that becomes single may stand elsewhere before and after. -/
theorem becomesSingle_of_places {r r₁ r₂ r₃ : SlabRecord} (h : r₁.becomesSingle r₂) (hbefore : r₁ = { r with place := r₁.place })
    (hafter : r₃ = { r₂ with place := r₃.place }) : r.becomesSingle r₃ := by
  obtain ⟨hrecord, hparted⟩ := h
  have hparted₃ : r₃.parted = r₂.parted := by rw [hafter]
  refine ⟨?_, fun id => ?_⟩
  · rw [hparted₃]
    calc r₃ = { r₂ with place := r₃.place } := hafter
      _ = _ := by rw [hrecord, hbefore]
  · rw [hparted₃, hparted, hbefore]

theorem singled_refl : Singled (fun _ => none) s s where
  ids := rfl
  place x := by cases s.place? x <;> rfl
  slab x r hr := ⟨r, hr, fun ⟨_, _, htouched⟩ => by simp at htouched, fun _ => rfl⟩

theorem place?_of_slab? {x : SlabId} {r : SlabRecord} (h : s.slab? x = some r) : s.place? x = some r.place := by
  rw [State.place?, h]; rfl

theorem singled_trans {m n : SlabId → Option Place} (h : Singled m s u) (h' : Singled n u t) :
    Singled (fun x => (n x).or (m x)) s t where
  ids := h'.ids.trans h.ids
  place x := by
    rw [h'.place, h.place, Option.map_map]
    cases n x <;> rfl
  slab x r hr := by
    obtain ⟨r₁, hr₁, hsingle, hsame⟩ := h.slab x r hr
    obtain ⟨r₂, hr₂, hsingle', hsame'⟩ := h'.slab x r₁ hr₁
    have hid : r₁.id = r.id := (State.slab?_id hr₁).trans (State.slab?_id hr).symm
    have hor : ∀ y, ((n y).or (m y)).isSome = true ↔ (n y).isSome = true ∨ (m y).isSome = true := fun y => by
      cases n y <;> simp
    have htouched : SlabRecord.pairTouched (fun x => (n x).or (m x)) r ↔
        SlabRecord.pairTouched m r ∨ SlabRecord.pairTouched n r := by
      simp only [SlabRecord.pairTouched, hor]
      constructor
      · rintro ⟨q, hq, (hn | hm) | (hn | hm)⟩
        · exact .inr ⟨q, hq, .inl hn⟩
        · exact .inl ⟨q, hq, .inl hm⟩
        · exact .inr ⟨q, hq, .inr hn⟩
        · exact .inl ⟨q, hq, .inr hm⟩
      · rintro (⟨q, hq, hm | hm⟩ | ⟨q, hq, hn | hn⟩)
        · exact ⟨q, hq, .inl (.inr hm)⟩
        · exact ⟨q, hq, .inr (.inr hm)⟩
        · exact ⟨q, hq, .inl (.inl hn)⟩
        · exact ⟨q, hq, .inr (.inl hn)⟩
    by_cases hfirst : SlabRecord.pairTouched m r
    · have hr₂' : r₂ = { r₁ with place := r₂.place } := hsame' fun ⟨q, hq, _⟩ => by
        rw [becomesSingle_partner (hsingle hfirst)] at hq; cases hq
      exact ⟨r₂, hr₂, fun _ => becomesSingle_of_places (hsingle hfirst) rfl hr₂', fun hnot => absurd (.inl hfirst) (mt htouched.mpr hnot)⟩
    · have hr₁' := hsame hfirst
      have hpartner : r₁.partner = r.partner := by rw [hr₁']
      have hsecond : SlabRecord.pairTouched n r₁ ↔ SlabRecord.pairTouched n r := by
        simp only [SlabRecord.pairTouched, hpartner, hid]
      refine ⟨r₂, hr₂, fun hall => ?_, fun hnot => ?_⟩
      · exact becomesSingle_of_places (hsingle' (hsecond.mpr ((htouched.mp hall).resolve_left hfirst))) hr₁' rfl
      · rw [hsame' fun hsec => hnot (htouched.mpr (.inr (hsecond.mp hsec))), hr₁']

theorem singled_congr {m n : SlabId → Option Place} (h : Singled m s t) (hmn : ∀ x, m x = n x) : Singled n s t := funext hmn ▸ h

/-- An event that leaves the register. -/
theorem singled_of_register {m : SlabId → Option Place} (h : Singled m s u) (hregister : t.register = u.register) : Singled m s t where
  ids := hregister ▸ h.ids
  place x := by rw [← h.place, State.place?, State.slab?, hregister]; rfl
  slab x r hr := by rw [State.slab?, hregister]; exact h.slab x r hr

/-- R5: the partner fields that are left. -/
theorem Singled.partner {m : SlabId → Option Place} (h : Singled m s t) (x : SlabId) :
    t.partner? x = (s.partner? x).bind fun q => if (m x).isSome || (m q.id).isSome then none else some q := by
  cases hr : s.slab? x with
  | none =>
    have hnone : t.slab? x = none := by
      have := h.place x
      rw [State.place?, State.place?, hr] at this
      simpa using this
    rw [State.partner?, State.partner?, hr, hnone]; rfl
  | some r =>
    obtain rfl := State.slab?_id hr
    obtain ⟨r', hr', hsingle, hsame⟩ := h.slab r.id r hr
    rw [State.partner?, State.partner?, hr, hr', Option.bind_some, Option.bind_some]
    by_cases htouched : SlabRecord.pairTouched m r
    · obtain ⟨q, hq, hm⟩ := id htouched
      rw [becomesSingle_partner (hsingle htouched), hq, Option.bind_some, if_pos (by simpa using hm)]
    · rw [hsame htouched]
      cases hq : r.partner with
      | none => rfl
      | some q => rw [Option.bind_some, if_neg fun hm => htouched ⟨q, hq, by simpa using hm⟩]

/-! ### One step -/

/-- R5: the record that the end of a slab's pair leaves. -/
theorem singled_record (r : SlabRecord) (id : SlabId) :
    (r.partner = none → (if (r.id == id || r.paired id) = true then r.unpaired else r) = r) ∧
    (∀ q, r.partner = some q → (if (r.id == id || r.paired id) = true then r.unpaired else r) =
      if r.id = id ∨ q.id = id then r.unpaired else r) := by
  refine ⟨fun hq => ?_, fun q hq => ?_⟩
  · split
    · cases r
      cases hq
      simp [SlabRecord.unpaired]
    · rfl
  · simp [SlabRecord.paired, hq]

/-- The pair of a slab dissolves and the slab moves. -/
theorem singled_step (s : State) (id : SlabId) (pl : Place) :
    Singled (fun x => if x = id then some pl else none) s ((s.dissolvePair id).setPlace id pl) where
  ids := (ids_updateSlab (s.dissolvePair id) id (g := fun r => { r with place := pl }) fun _ => rfl).trans (ids_dissolvePair s id)
  place x := by
    rw [State.setPlace_place?, State.dissolvePair_place?]
    split <;> cases s.place? x <;> rfl
  slab x r hr := by
    obtain rfl := State.slab?_id hr
    have hsome : ∀ y, (if y = id then some pl else none).isSome = true ↔ y = id := fun y => by split <;> simp [*]
    have hmoved : ((s.dissolvePair id).setPlace id pl).slab? r.id =
        some { (if r.id == id || r.paired id then r.unpaired else r) with
          place := if r.id = id then pl else r.place } := by
      rw [State.setPlace_slab?, State.dissolvePair_slab?, hr, Option.map_some]
      by_cases h : r.id = id
      · simp [h]
      · rw [if_neg h, if_neg h]
        split <;> rfl
    refine ⟨_, hmoved, fun ⟨q, hq, hm⟩ => ?_, fun hnot => ?_⟩
    · rw [(singled_record r id).2 q hq, if_pos (by simpa only [hsome] using hm)]
      exact becomesSingle_of_places r.unpaired_becomesSingle rfl rfl
    · have hkept : (if (r.id == id || r.paired id) = true then r.unpaired else r) = r := by
        cases hq : r.partner with
        | none => exact (singled_record r id).1 hq
        | some q => rw [(singled_record r id).2 q hq, if_neg fun hm => hnot ⟨q, hq, by simpa only [hsome] using hm⟩]
      rw [hkept]

theorem singled_makeDoubtful (s : State) (id : SlabId) (last : LastKnown) :
    Singled (fun x => if x = id then some (.doubtful last) else none) s (s.makeDoubtful id last) :=
  singled_of_register (singled_step s id (.doubtful last)) rfl

/-- R53, R181: the order of the two changes does not matter to the register. -/
theorem singled_undone (s : State) (id : SlabId) :
    Singled (fun x => if x = id then some .listed else none) s ((s.setPlace id .listed).dissolvePair id) := by
  refine singled_of_register (singled_step s id .listed) ?_
  simp only [State.dissolvePair, State.setPlace, State.updateSlab, List.map_map]
  refine List.map_congr_left fun r _ => ?_
  by_cases hid : r.id = id
  · simp [hid, SlabRecord.unpaired]
  · by_cases hpaired : r.paired id = true
    · simp [hid, hpaired, SlabRecord.unpaired]
    · simp [hid, hpaired]

/-! ### A run of steps -/

/-- Steps on the slabs of a list, each of which may leave its slab alone. -/
theorem singled_foldl {α : Type} {g : State → α → State} {key : α → SlabId} {m : α → Option Place → Option Place}
    (hg : ∀ u a, Singled (fun x => if x = key a then m a (u.place? (key a)) else none) u (g u a)) (l : List α)
    (hl : (l.map key).Nodup) (s : State) :
    Singled (fun x => (l.find? fun a => key a == x).bind fun a => m a (s.place? x)) s (l.foldl g s) := by
  induction l generalizing s with
  | nil => exact singled_refl
  | cons a l ih =>
    rw [List.map_cons, List.nodup_cons] at hl
    refine singled_congr (singled_trans (hg s a) (ih hl.2 (g s a))) fun x => ?_
    by_cases hx : x = key a
    · have hnone : (l.find? fun b => key b == x) = none := by
        rw [List.find?_eq_none]
        intro b hb heq
        exact hl.1 (hx ▸ beq_iff_eq.mp heq ▸ List.mem_map_of_mem hb)
      rw [hnone]
      simp [hx]
    · have hplace : (g s a).place? x = s.place? x := by
        rw [(hg s a).place, if_neg hx]
        cases s.place? x <;> rfl
      rw [List.find?_cons_of_neg (by simpa using fun h => hx h.symm), hplace, if_neg hx, Option.or_none]

/-- A run of steps over slab ids. -/
theorem singled_foldl_ids {g : State → SlabId → State} {m : SlabId → Option Place → Option Place}
    (hg : ∀ u id, Singled (fun x => if x = id then m id (u.place? id) else none) u (g u id)) (l : List SlabId) (hl : l.Nodup)
    (s : State) : Singled (fun x => if x ∈ l then m x (s.place? x) else none) s (l.foldl g s) := by
  refine singled_congr (singled_foldl (key := id) hg l (by simpa using hl) s) fun x => ?_
  by_cases hx : x ∈ l
  · have hfind : (l.find? fun a => id a == x) = some x := by
      cases hf : l.find? fun a => id a == x with
      | none => exact absurd (List.find?_eq_none.mp hf x hx) (by simp)
      | some y => exact congrArg some (by simpa using List.find?_some hf)
    rw [hfind, if_pos hx, Option.bind_some]
  · have hfind : (l.find? fun a => id a == x) = none := List.find?_eq_none.mpr fun y hy h => hx (by simpa using beq_iff_eq.mp h ▸ hy)
    rw [hfind, if_neg hx, Option.bind_none]

end Singles

end Sys2Proof.Proofs

/-!
PROOFS. Recovery and start-up (R181): where every slab stands afterwards, and that the account is kept.
-/

namespace Sys2Proof.Proofs

open Sys2Proof Sys2Proof.Machine

/-- R181, step 1: a permit that recovery undoes. -/
def undonePlace : Place → Option Place
  | .permitted _ => some .listed
  | _ => none

/-- R181, step 2: a custody that recovery ends. -/
def lostPlace : Place → Option Place
  | .lifted k _ => some (.doubtful (.lifted k))
  | _ => none

/-- R181, step 3: a place at the entry of `f`, whose operation recovery ends. -/
def entryPlace (f : Furnace) : Place → Option Place
  | .atEntry e side => if e = f then some (.doubtful (.atEntry e side)) else none
  | _ => none

/-- R181: the place that recovery sends a slab to, where it moves it. -/
def recoveredPlace : Place → Option Place
  | .permitted _ => some .listed
  | .lifted k _ => some (.doubtful (.lifted k))
  | .atEntry f side => some (.doubtful (.atEntry f side))
  | _ => none

/-- A slab is LIFTED. -/
def isLifted (s : State) (x : SlabId) : Bool := ((s.place? x).bind lostPlace).isSome

section Recovery

variable {s t u : State}

theorem singled_bind_trans {m n : Place → Option Place} (h : Singled (fun x => (s.place? x).bind m) s u)
    (h' : Singled (fun x => (u.place? x).bind n) u t) :
    Singled (fun x => (s.place? x).bind fun pl => (n ((m pl).getD pl)).or (m pl)) s t :=
  singled_congr (singled_trans h h') fun x => by
    rw [h.place]
    cases s.place? x <;> rfl

/-- A slab that a run moves within the collection that its place names stands there still. -/
theorem spotOf_of_singled {m : SlabId → Option Place} (h : Singled m s t)
    (hspot : ∀ x pl pl', s.place? x = some pl → m x = some pl' → spotOfPlace pl' = spotOfPlace pl) (x : SlabId) :
    spotOf t x = spotOf s x := by
  rw [spotOf, spotOf, h.place]
  cases hpl : s.place? x with
  | none => rfl
  | some pl =>
    cases hm : m x with
    | none => simp
    | some pl' => simpa using hspot x pl pl' hpl hm

/-! ### Permits -/

theorem recoverPermits_step (u : State) (id : SlabId) :
    Singled (fun x => if x = id then (u.place? id).bind undonePlace else none) u
      (match u.place? id with
        | some (.permitted _) => (u.setPlace id .listed).dissolvePair id
        | _ => u) := by
  split
  · next hplace => rw [hplace]; exact singled_undone u id
  · next hplace =>
    refine singled_congr singled_refl fun x => ?_
    split
    · cases hpl : u.place? id with
      | none => rfl
      | some pl => cases pl <;> first | rfl | exact absurd hpl (hplace _)
    · rfl

theorem recoverPermits_eq (s : State) : s.recoverPermits = { s with register := s.recoverPermits.register } := by
  have key : ∀ (l : List SlabId) (t : State), l.foldl (fun (t : State) id => match t.place? id with
      | some (.permitted _) => (t.setPlace id .listed).dissolvePair id
      | _ => t) t = { t with register := (l.foldl (fun (t : State) id => match t.place? id with
      | some (.permitted _) => (t.setPlace id .listed).dissolvePair id
      | _ => t) t).register } := by
    intro l
    induction l with
    | nil => intro t; rfl
    | cons a l ih =>
      intro t
      simp only [List.foldl_cons]
      rw [ih]
      split <;> rfl
  exact key s.sequence s

theorem place_in_sequence (hs : Stands s) {x : SlabId} {pl : Place} (hplace : s.place? x = some pl)
    (hspot : spotOfPlace pl = .sequence) : x ∈ s.sequence := by
  have hcount := hs x .sequence
  rw [spotOf_of_place hplace, hspot, if_pos rfl, countIn] at hcount
  exact List.count_pos_iff.mp (hcount ▸ Nat.one_pos)

theorem sequence_once (hs : Stands s) : s.sequence.Nodup :=
  List.nodup_iff_count_le_one.mpr fun x => by
    have hcount := hs x .sequence
    rw [countIn] at hcount
    rw [hcount]
    split <;> simp

theorem singled_recoverPermits (hs : Stands s) : Singled (fun x => (s.place? x).bind undonePlace) s s.recoverPermits :=
  singled_congr (singled_foldl_ids (m := fun _ o => o.bind undonePlace) recoverPermits_step s.sequence (sequence_once hs) s)
    fun x => by
      split
      · rfl
      · next hx =>
        cases hpl : s.place? x with
        | none => rfl
        | some pl => cases pl with
          | permitted k => exact absurd (place_in_sequence hs hpl rfl) hx
          | _ => rfl

theorem files_recoverPermits (h : Files s) : Files s.recoverPermits :=
  files_foldl (fun u id hu => by
    split
    · exact files_dissolvePair (files_setPlace hu id rfl) id
    · exact hu) s.sequence h

theorem stands_recoverPermits (hs : Stands s) : Stands s.recoverPermits :=
  stands_of_spots hs (spotOf_of_singled (singled_recoverPermits hs) fun x pl pl' hpl hm => by
    rw [hpl] at hm
    cases pl <;> cases hm
    rfl) fun x σ => by rw [recoverPermits_eq, countIn_register]

/-! ### Custody -/

theorem recoverCustody_step (u : State) (id : SlabId) :
    Singled (fun x => if x = id then (u.place? id).bind lostPlace else none) u
      (match u.place? id with
        | some (.lifted k _) => (u.leaveSequence id).makeDoubtful id (.lifted k)
        | _ => u) := by
  split
  · next k o hplace => rw [hplace]; exact singled_of_register (singled_makeDoubtful u id (.lifted k)) rfl
  · next hplace =>
    refine singled_congr singled_refl fun x => ?_
    split
    · cases hpl : u.place? id with
      | none => rfl
      | some pl => cases pl <;> first | rfl | exact absurd hpl (hplace _ _)
    · rfl

/-- R181, step 2: what the loss of every custody leaves of the sequence and of the doubt list. -/
theorem recoverCustody_fold (l : List SlabId) (hl : l.Nodup) (t : State) :
    ∃ register, l.foldl (fun (t : State) id => match t.place? id with
      | some (.lifted k _) => (t.leaveSequence id).makeDoubtful id (.lifted k)
      | _ => t) t = { t with
        register := register
        sequence := t.sequence.filter fun x => !(decide (x ∈ l) && isLifted t x)
        doubtList := t.doubtList ++ l.filter (isLifted t) } := by
  induction l generalizing t with
  | nil => exact ⟨t.register, by simp⟩
  | cons a l ih =>
    rw [List.nodup_cons] at hl
    simp only [List.foldl_cons]
    have hstep := recoverCustody_step t a
    generalize hu : (match t.place? a with
      | some (.lifted k _) => (t.leaveSequence a).makeDoubtful a (.lifted k)
      | _ => t) = u at hstep
    have hother : ∀ x ∈ l, isLifted u x = isLifted t x := fun x hx => by
      have hne : x ≠ a := fun he => hl.1 (he ▸ hx)
      rw [isLifted, isLifted, hstep.place, if_neg hne]
      cases t.place? x <;> rfl
    obtain ⟨register, hfold⟩ := ih hl.2 u
    refine ⟨register, ?_⟩
    rw [hfold]
    have hmine : (u = t ∧ isLifted t a = false) ∨
        ((∃ r, u = { t with register := r, sequence := t.sequence.filter (fun x => x != a), doubtList := t.doubtList ++ [a] }) ∧
          isLifted t a = true) := by
      rw [isLifted]
      split at hu
      · next k o hplace => exact .inr ⟨⟨_, hu.symm⟩, by rw [hplace]; rfl⟩
      · next hplace =>
        refine .inl ⟨hu.symm, ?_⟩
        cases hpl : t.place? a with
        | none => rfl
        | some pl => cases pl <;> first | rfl | exact absurd hpl (hplace _ _)
    have hsequence : ∀ x, (decide (x ∈ l) && isLifted u x) = (decide (x ∈ l) && isLifted t x) := fun x => by
      by_cases hx : x ∈ l <;> simp [hx, hother]
    simp only [hsequence]
    rw [List.filter_congr hother]
    rcases hmine with ⟨rfl, hnot⟩ | ⟨⟨r, rfl⟩, hyes⟩
    · simp only [List.filter_cons, hnot, Bool.false_eq_true, if_false]
      congr 1
      refine List.filter_congr fun x _ => ?_
      by_cases hx : x = a
      · simp [hx, hnot]
      · simp [hx]
    · simp only [List.filter_cons, hyes, if_true, List.filter_filter]
      congr 1
      · simp
      · refine List.filter_congr fun x _ => ?_
        by_cases hx : x = a
        · simp [hx, hyes, hl.1]
        · simp [hx]

theorem recoverCustody_eq (hs : Stands s) : ∃ register, s.recoverCustody = { s with
    register := register
    sequence := s.sequence.filter fun x => !isLifted s x
    doubtList := s.doubtList ++ s.sequence.filter (isLifted s) } := by
  obtain ⟨register, hfold⟩ := recoverCustody_fold s.sequence (sequence_once hs) s
  refine ⟨register, hfold.trans ?_⟩
  congr 1
  exact List.filter_congr fun x hx => by simp [hx]

theorem singled_recoverCustody (hs : Stands s) : Singled (fun x => (s.place? x).bind lostPlace) s s.recoverCustody :=
  singled_congr (singled_foldl_ids (m := fun _ o => o.bind lostPlace) recoverCustody_step s.sequence (sequence_once hs) s)
    fun x => by
      split
      · rfl
      · next hx =>
        cases hpl : s.place? x with
        | none => rfl
        | some pl => cases pl with
          | lifted k o => exact absurd (place_in_sequence hs hpl rfl) hx
          | _ => rfl

theorem files_recoverCustody (h : Files s) : Files s.recoverCustody :=
  files_foldl (fun u id hu => by
    split
    · exact files_makeDoubtful (files_of_register hu (t := u.leaveSequence id) rfl) id _
    · exact hu) s.sequence h

theorem stands_recoverCustody (hs : Stands s) : Stands s.recoverCustody := by
  obtain ⟨register, heq⟩ := recoverCustody_eq hs
  have hsingled := singled_recoverCustody hs
  intro x σ
  have hspot : spotOf s.recoverCustody x = if isLifted s x then some .doubt else spotOf s x := by
    rw [spotOf, spotOf, hsingled.place, isLifted]
    cases s.place? x with
    | none => rfl
    | some pl => cases pl <;> rfl
  have hlifted : isLifted s x = true → spotOf s x = some .sequence := fun h => by
    rw [spotOf]
    unfold isLifted at h
    cases hpl : s.place? x with
    | none => rw [hpl] at h; cases h
    | some pl => rw [hpl] at h; cases pl <;> first | rfl | cases h
  rw [hspot, heq]
  cases hx : isLifted s x with
  | false =>
    rw [if_neg Bool.false_ne_true, ← hs x σ]
    cases σ with
    | sequence => exact List.count_filter (by simp [hx])
    | doubt =>
      have hnone : (s.sequence.filter (isLifted s)).count x = 0 := List.count_eq_zero.mpr fun hmem => by
        rw [(List.mem_filter.mp hmem).2] at hx; cases hx
      simp [countIn, hnone]
    | _ => rfl
  | true =>
    have hwas := hs x
    rw [hlifted hx] at hwas
    rw [if_pos rfl]
    cases σ with
    | sequence => simp [countIn, List.count_eq_zero, hx]
    | doubt =>
      have hseq := hwas .sequence
      have hdoubt := hwas .doubt
      have hkept : (s.sequence.filter (isLifted s)).count x = s.sequence.count x := List.count_filter hx
      simp only [countIn] at hseq hdoubt ⊢
      rw [List.count_append, hkept, hseq, hdoubt]
      simp
    | lane => exact (hwas .lane).trans (by simp)
    | entry f side => exact (hwas (.entry f side)).trans (by simp)
    | map f side => exact (hwas (.map f side)).trans (by simp)

/-! ### Entry operations -/

theorem sideIn_entry (hs : Stands s) (f : Furnace) (x : SlabId) :
    ((sideIn (s.furnace f).op.slabs x).map fun side => Place.doubtful (.atEntry f side)) = (s.place? x).bind (entryPlace f) := by
  cases hside : sideIn (s.furnace f).op.slabs x with
  | some side =>
    obtain ⟨r, hr, hspot⟩ := spotOf_eq_some.mp (spotOf_entry hs (mem_of_sideIn hside))
    rw [place?_eq_some.mpr ⟨r, hr, (spotOfPlace_entry _ _ _).mp hspot⟩]
    simp [entryPlace]
  | none =>
    cases hpl : s.place? x with
    | none => rfl
    | some pl => cases pl with
      | atEntry e side =>
        by_cases he : e = f
        · subst he
          have hcount := hs x (.entry e side)
          rw [spotOf_of_place hpl, spotOfPlace, if_pos rfl, countIn] at hcount
          have hmem : (x, side) ∈ (s.furnace e).op.slabs := List.count_pos_iff.mp (hcount ▸ Nat.one_pos)
          exact absurd (List.mem_map_of_mem hmem) (sideIn_eq_none_iff.mp hside)
        · simp [entryPlace, he]
      | _ => rfl

/-- R181, step 3: the slabs of an operation, as a list that is empty where the furnace is IDLE. -/
theorem recoverEntry_eq (s : State) (f : Furnace) :
    s.recoverEntry f = ((s.furnace f).op.slabs.foldl (fun v x => v.makeDoubtful x.1 (.atEntry f x.2)) s).updateFurnace f
      fun m => { m with op := .idle false, chargeTimer := none } := by
  unfold State.recoverEntry
  cases (s.furnace f).op <;> rfl

theorem singled_recoverEntry (hs : Stands s) (f : Furnace) : Singled (fun x => (s.place? x).bind (entryPlace f)) s (s.recoverEntry f) := by
  have hfold := singled_foldl (g := fun v (x : SlabId × Side) => v.makeDoubtful x.1 (.atEntry f x.2)) (key := Prod.fst)
    (m := fun y _ => some (.doubtful (.atEntry f y.2))) (fun u y => singled_makeDoubtful u y.1 _) _ (entry_nodup hs f) s
  rw [recoverEntry_eq]
  refine singled_of_register (singled_congr hfold fun x => ?_) (State.updateFurnace_register ..)
  rw [← sideIn_entry hs f x, sideIn, Option.map_map]
  cases (s.furnace f).op.slabs.find? fun y => y.1 == x <;> rfl

theorem files_recoverEntry (h : Files s) (f : Furnace) : Files (s.recoverEntry f) := by
  rw [recoverEntry_eq]
  exact files_of_register (files_foldl (g := fun v (x : SlabId × Side) => v.makeDoubtful x.1 (.atEntry f x.2))
    (fun _ x hu => files_makeDoubtful hu x.1 _) _ h) (State.updateFurnace_register ..)

theorem stands_recoverEntry (hf : Files s) (hs : Stands s) (f : Furnace) : Stands (s.recoverEntry f) := by
  rw [recoverEntry_eq]
  cases hop : (s.furnace f).op with
  | idle timedOut =>
    have hended := countIn_changeOp (s := s) (f := f) (g := fun m => { m with op := .idle false, chargeTimer := none }) (l := [])
      (m := []) rfl (by rw [hop]; rfl) rfl
    exact stands_of_same hs (fun x => State.updateFurnace_place ..) hended
  | charging a b width planned =>
    exact stands_of_rowMoved hs (rowMoved_giveUp hf hs hop (g := fun m => { m with op := .idle false, chargeTimer := none })
      fun _ => ⟨rfl, rfl⟩)

/-! ### Recovery -/

theorem sameBooks_laneDoubt (s : State) (on : Bool) : SameBooks s { s with laneDoubt := on } :=
  ⟨rfl, rfl, rfl, rfl, rfl, rfl, fun _ => rfl, fun _ => rfl, fun _ => rfl⟩

theorem sameBooks_recoverDoubt (s : State) (f : Furnace) : SameBooks s (s.recoverDoubt f) := by
  unfold State.recoverDoubt
  split
  · exact .refl s
  · exact (sameBooks_setDoubt s f true).trans (sameBooks_logFault _ _ _ _ _)

/-- R181, steps 1 to 4: every slab stands where recovery sends it. -/
theorem singled_recover (hf : Files s) (hs : Stands s) :
    Singled (fun x => (s.place? x).bind recoveredPlace) s s.recover ∧ Files s.recover ∧ Stands s.recover := by
  have hf₁ := files_recoverPermits hf
  have hs₁ := stands_recoverPermits hs
  have hf₂ := files_recoverCustody hf₁
  have hs₂ := stands_recoverCustody hs₁
  have hf₃ := files_recoverEntry hf₂ .f1
  have hs₃ := stands_recoverEntry hf₂ hs₂ .f1
  have hf₄ := files_recoverEntry hf₃ .f2
  have hs₄ := stands_recoverEntry hf₃ hs₃ .f2
  have hf₅ := files_recoverEntry hf₄ .f3
  have hs₅ := stands_recoverEntry hf₄ hs₄ .f3
  have hall := singled_bind_trans (singled_bind_trans (singled_bind_trans (singled_bind_trans (singled_recoverPermits hs)
    (singled_recoverCustody hs₁)) (singled_recoverEntry hs₂ .f1)) (singled_recoverEntry hs₃ .f2)) (singled_recoverEntry hs₄ .f3)
  have hbooks : SameBooks (((s.recoverPermits.recoverCustody.recoverEntry .f1).recoverEntry .f2).recoverEntry .f3) s.recover := by
    unfold State.recover
    generalize ((s.recoverPermits.recoverCustody.recoverEntry .f1).recoverEntry .f2).recoverEntry .f3 = u
    exact ((sameBooks_laneDoubt u true).trans (sameBooks_logFault _ _ _ _ _)).trans ((sameBooks_recoverDoubt _ .f1).trans
      ((sameBooks_recoverDoubt _ .f2).trans (sameBooks_recoverDoubt _ .f3)))
  refine ⟨singled_of_register (singled_congr hall fun x => ?_) hbooks.register, files_of_register hf₅ hbooks.register,
    stands_of_same hs₅ (place?_of_sameBooks hbooks) (countIn_of_sameBooks hbooks)⟩
  cases hpl : s.place? x with
  | none => rfl
  | some pl => cases pl with
    | atEntry f side => cases f <;> rfl
    | _ => rfl

end Recovery

end Sys2Proof.Proofs

/-!
PROOFS. The account is kept (O6): start-up, every rule, every event and the passing of time keep the ledger.
-/

namespace Sys2Proof.Proofs

open Sys2Proof Sys2Proof.Machine

section Account

variable {s t u : State}

/-! ### Start-up (R181) -/

/-- A part that tracks nothing keeps its account. -/
theorem ledger_of_tracksNothing (h : TracksNothing s) : Ledger s := by
  have hplace : ∀ x, s.place? x = none := fun x => by rw [State.place?, State.slab?, h.register]; rfl
  exact {
    files := {
      ids := by rw [h.register]; exact .nil
      valid := by rw [h.register]; nofun
      partners := fun x q hq => by rw [State.partner?, State.slab?, h.register] at hq; cases hq
      single := fun x _ hx => by rw [hplace] at hx; cases hx }
    stands := fun x σ => by
      rw [spotOf, hplace]
      cases σ with
      | sequence => simp [countIn, h.sequence]
      | lane => simp [countIn, h.lane]
      | doubt => simp [countIn, h.doubtList]
      | entry f side =>
        obtain ⟨-, hidle, -⟩ := h.maps f
        have hslabs : (s.furnace f).op.slabs = [] := by
          cases hop : (s.furnace f).op with
          | idle timedOut => rfl
          | charging a b width planned => rw [hop] at hidle; cases hidle
        simp [countIn, hslabs]
      | map f side => simp [countIn, FurnaceState.mapSlabs, (h.maps f).1]
    custody := fun k id hid => by rw [h.cranes k] at hid; cases hid
    lifted := fun _ x _ _ hx => by rw [hplace] at hx; cases hx
    credits := by rw [State.creditsHeld, State.countPlaces, h.register]; exact Nat.zero_le _
    config := fun _ => h }

/-- A part whose cranes have just started, and that tracks no LIFTED slab: its account does not ask for power. -/
structure Quiet (s : State) : Prop where
  ledger : Ledger s
  lifted : ∀ x k o, s.place? x ≠ some (.lifted k o)

theorem ledger_of_quiet (h : Quiet s) (hb : SameBooks s t) (hparams : t.params = s.params) (hmode : t.mode = s.mode) : Ledger t where
  files := files_of_register h.ledger.files hb.register
  stands := stands_of_same h.ledger.stands (place?_of_sameBooks hb) (countIn_of_sameBooks hb)
  custody k id hid := by
    rw [State.crane, hb.cranes] at hid
    rw [place?_of_sameBooks hb]
    exact h.ledger.custody k id hid
  lifted _ id k o hplace := absurd hplace (by rw [place?_of_sameBooks hb]; exact h.lifted id k o)
  credits := by
    rw [State.creditsHeld, State.countPlaces, hb.register, hparams]
    exact h.ledger.credits
  config hconfig := tracksNothing_of_sameBooks hb (h.ledger.config (hmode ▸ hconfig))

theorem quiet_of_tracksNothing (h : TracksNothing s) : Quiet s :=
  ⟨ledger_of_tracksNothing h, fun x k o hx => by rw [State.place?, State.slab?, h.register] at hx; cases hx⟩

theorem countIn_coldStart (s : State) (keepSel : Bool) (x : SlabId) (σ : Spot) : countIn (s.coldStart keepSel) x σ = countIn s x σ := by
  cases σ with
  | entry f side => simp only [countIn, coldStart_furnace]; rfl
  | map f side => simp only [countIn, coldStart_furnace]; rfl
  | _ => rfl

theorem stands_coldStart (h : Stands s) (keepSel : Bool) : Stands (s.coldStart keepSel) :=
  stands_of_same h (fun _ => rfl) (countIn_coldStart s keepSel)

theorem recover_crane (s : State) (k : Crane) : s.recover.crane k = s.crane k := by
  have hpermits : s.recoverPermits.crane k = s.crane k := by rw [recoverPermits_eq]; rfl
  have hcustody : ∀ u : State, u.recoverCustody.crane k = u.crane k := fun u => by
    unfold State.recoverCustody
    generalize u.sequence = l
    induction l generalizing u with
    | nil => rfl
    | cons x l ih =>
      rw [List.foldl_cons, ih]
      split <;> simp
  have hentry : ∀ (u : State) (f : Furnace), (u.recoverEntry f).crane k = u.crane k := fun u f => by
    rw [recoverEntry_eq, State.updateFurnace_crane, crane_foldl (g := fun v x => v.makeDoubtful x.1 (.atEntry f x.2))
      fun v y j => State.makeDoubtful_crane v y.1 _ j]
  have hdoubt : ∀ (u : State) (f : Furnace), (u.recoverDoubt f).crane k = u.crane k := fun u f => by
    unfold State.recoverDoubt
    split
    · rfl
    · rw [State.logFurnace, State.logFault_crane, State.updateFurnace_crane]
  rw [State.recover, hdoubt, hdoubt, hdoubt, State.logFault_crane]
  exact (hentry _ _).trans ((hentry _ _).trans ((hentry _ _).trans ((hcustody _).trans hpermits)))

theorem quiet_recover (hf : Files s) (hs : Stands s) (hcredits : s.creditsHeld ≤ s.params.laneCapacity) (hrun : s.mode = .run)
    (hcranes : ∀ k, (s.crane k).custody = none) : Quiet s.recover := by
  obtain ⟨hsingled, hfiles, hstands⟩ := singled_recover hf hs
  have hlifted : ∀ x k o, s.recover.place? x ≠ some (.lifted k o) := fun x k o hx => by
    rw [hsingled.place] at hx
    cases hpl : s.place? x with
    | none => rw [hpl] at hx; cases hx
    | some pl => rw [hpl] at hx; cases pl <;> cases hx
  refine ⟨ledger_running hfiles hstands (fun k id => ⟨fun h => ?_, fun ⟨o, ho⟩ => absurd ho (hlifted id k o)⟩) ?_
    ((mode_of_setting (setting_recover s)).trans hrun), hlifted⟩
  · rw [recover_crane, hcranes] at h; cases h
  · rw [params_of_setting (setting_recover s)]
    refine (credits_le hf hfiles fun x pl hplace hcredit => ?_).trans hcredits
    rw [hsingled.place] at hplace
    cases hpl : s.place? x with
    | none => rw [hpl] at hplace; cases hplace
    | some q =>
      rw [hpl] at hplace
      refine ⟨q, rfl, ?_⟩
      cases q with
      | permitted k => rfl
      | lifted k o => rfl
      | atEntry f side => cases hplace; cases hcredit
      | _ => cases hplace; exact hcredit

theorem quiet_startUp (h : Ledger s) (keepSel : Bool) : Quiet (s.startUp keepSel) := by
  unfold State.startUp
  dsimp only
  split
  · exact quiet_of_tracksNothing (tracksNothing_of_erased rfl rfl rfl rfl rfl rfl rfl)
  · split
    · next hconfig => exact quiet_of_tracksNothing (tracksNothing_coldStart (h.config hconfig) keepSel)
    · next hrun =>
      exact quiet_recover (files_of_register h.files rfl) (stands_coldStart h.stands keepSel) h.credits hrun fun k => by
        cases k <;> rfl

theorem ledger_lossOfPower (h : Ledger s) : Ledger { s.coldStart false with powered := false } where
  files := files_of_register h.files rfl
  stands := stands_of_same (stands_coldStart h.stands false) (fun _ => rfl) fun x σ => by cases σ <;> rfl
  custody k id hid := by cases k <;> cases hid
  lifted hw := by cases hw
  credits := h.credits
  config hconfig := tracksNothing_unpowered (tracksNothing_coldStart (h.config hconfig) false)

/-! ### Requests -/

/-- R148: the slabs of a row that is placed are DOUBTFUL, and no slab stands twice in it. -/
theorem placed_doubtful {id : SlabId} {last : LastKnown} {q : Placing} {f : Furnace} (hplace : s.place? id = some (.doubtful last))
    (hpass : s.placeChecks id q = .ok f) :
    (∀ x ∈ (q.slabs id).1 :: (q.slabs id).2.toList, spotOf s x = some .doubt) ∧
      ((q.slabs id).1 :: (q.slabs id).2.toList).Nodup := by
  obtain ⟨hrange, hsecond, -⟩ := placeChecks_ok hpass
  have hid : spotOf s id = some .doubt := spotOf_of_place hplace
  by_cases hzero : q.second = 0
  · rw [Placing.slabs, if_pos hzero]
    exact ⟨by simpa using hid, by simp⟩
  · have hother : spotOf s q.second = some .doubt := by
      rw [State.secondRefusal, if_neg hzero] at hsecond
      cases hpl : s.place? q.second with
      | none => rw [hpl] at hsecond; cases hsecond
      | some pl => rw [hpl] at hsecond; cases pl <;> first | exact spotOf_of_place hpl | cases hsecond
    have hne : q.second ≠ id := by
      simp only [Placing.inRange, Bool.and_eq_true, bne_iff_ne] at hrange
      exact hrange.1.2
    rw [Placing.slabs, if_neg hzero]
    split
    · exact ⟨by simpa using ⟨hid, hother⟩, by simpa using hne.symm⟩
    · exact ⟨by simpa using ⟨hother, hid⟩, by simpa using hne⟩

/-- R40, R178: a write of the lane capacity leaves room for the credits held. -/
theorem capacity_of_write (h : Ledger s) {q : ParamId} {v : Nat} (hpass : s.writeRefusal q v = none) :
    s.creditsHeld ≤ (s.writeParam q v).params.laneCapacity := by
  cases q with
  | laneCapacity =>
    rw [State.writeRefusal] at hpass
    split at hpass
    · cases hpass
    · next hv => exact Nat.le_of_not_lt hv
  | _ => exact h.credits

theorem ledger_of_change {p : Port} {k : Kind} (h : Ledger s) (hw : s.powered = true) (hc : Change p s k t) : Ledger t := by
  have hsame : ∀ {v : State}, SameBooks s v → setting v = setting s → Ledger v := fun hb hsetting => ledger_of_same hb hsetting h
  cases hc with
  | kept => exact h
  | hello => exact hsame (sameBooks_hello s p) (setting_hello s p)
  | park => exact hsame (sameBooks_parkPort s p) (setting_parkPort s p)
  | noticeClear kinds => exact hsame (sameBooks_updatePort s p _) rfl
  | noticeMask kinds => exact hsame (sameBooks_updatePort s p _) rfl
  | announce a r i hrun hpass => exact ledger_createSlab h hw hrun (announced_of_checks hpass)
  | move id position hrun hpass => exact ledger_move h hw hrun position (moveRefusal_none hpass).1
  | withdrawListed r hrun hr hplace => exact ledger_withdrawListed h hw (place?_eq_some.mpr ⟨r, hr, hplace⟩) rfl nofun
  | withdrawPermitted r k hrun hr hplace => exact ledger_withdrawPermitted h hw (place?_eq_some.mpr ⟨r, hr, hplace⟩)
  | holdSet f => exact hsame (sameBooks_changeHold s f _) (setting_changeHold s f _)
  | holdRelease f => exact hsame (sameBooks_changeHold s f _) (setting_changeHold s f _)
  | dischargeTake n => exact hsame (sameBooks_log s _ _) rfl
  | requeue id last hrun hplace => exact ledger_requeue h hw hplace
  | toLaneTail id last hrun hplace hcredit => exact ledger_toLaneTail h hw hplace hcredit
  | remove id last hrun hplace => exact ledger_remove h hw hplace
  | place id last q f hrun hplace hpass =>
    obtain ⟨hdoubt, hnodup⟩ := placed_doubtful hplace hpass
    exact ledger_placeRow h hw hrun q hdoubt hnodup
  | removeRow f id row hrun hrow => exact ledger_removeRow h hw (rowInFurnace_ok hrow).1 hrun
  | mapWalk f n => exact hsame (sameBooks_walk s f n _) (setting_walk s f n _)
  | shiftRow f id rear => exact hsame (sameBooks_shiftRow s f id rear) (setting_updateFurnace s f _)
  | confirmFurnace f => exact hsame (sameBooks_setDoubt s f false) (setting_updateFurnace s f _)
  | confirmLane => exact hsame (sameBooks_laneDoubt s false) rfl
  | faultClear b => exact hsame (sameBooks_updateBank s b _) rfl
  | thresholdSet b => exact hsame (sameBooks_updateBank s b _) rfl
  | advisoryEnable b => exact hsame (sameBooks_updateBank s b _) rfl
  | paramWrite q v hpass =>
    exact ledger_of_sameBooks (sameBooks_writeParam s q _) h (fun hp => hp) (capacity_of_write h hpass)
      fun hconfig => tracksNothing_of_sameBooks (sameBooks_writeParam s q _) (h.config hconfig)
  | start hconfig => exact ledger_of_sameBooks (sameBooks_of_setting s _ _ _ _ _) h (fun hp => hp) h.credits nofun
  | restart => exact ledger_of_quiet (quiet_startUp h true) (sameBooks_of_setting _ _ _ _ _ _) rfl rfl
  | clearAll => exact ledger_of_tracksNothing (tracksNothing_of_erased rfl rfl rfl rfl rfl rfl rfl)
  | resetRecordClear =>
    exact ledger_of_sameBooks (sameBooks_of_setting s _ _ _ _ _) h (fun hp => hp) h.credits fun hconfig =>
      tracksNothing_of_sameBooks (sameBooks_of_setting s _ _ _ _ _) (h.config hconfig)
  | admissionStall k id => exact ledger_logFault h _ _ _ _
  | grant k r hk hfirst hcredit =>
    obtain ⟨id, hid, hr⟩ := Option.bind_eq_some_iff.mp hfirst
    have hlisted := List.find?_some hid
    obtain rfl := State.slab?_id hr
    exact ledger_grantPermit h hw k (by simpa [State.isListed] using hlisted) hcredit
  | permitReturn k id hk hpermit => exact ledger_logFault (ledger_undoPermit h hw (place?_of_permitOf h hpermit)) _ _ _ _
  | lift k id hk hcustody hpermit => exact ledger_takeLift h hw hcustody (place?_of_permitOf h hpermit)
  | lateLift k id hk hcustody hplace hcredit => exact ledger_lateLift h hw hcustody hplace hcredit
  | lateLiftDoubt k id hk hplace => exact ledger_lateLiftDoubt h hw hplace k
  | setdown k id hk hcustody hhead =>
    obtain ⟨o, hplace⟩ := h.custody k id hcustody
    exact ledger_running (files_of_register h.files rfl) (stands_of_same h.stands (fun _ => rfl) fun x σ => by cases σ <;> rfl)
      (custodyAgrees_of_same (custodyAgrees_of_ledger h hw) (fun _ => rfl) fun _ _ _ => .rfl) h.credits
      (run_of_live (s := s) h hplace)
  | depositInTurn k id hk hcustody => exact ledger_depositInTurn h hw hcustody
  | depositOutOfTurn k id hk hcustody => exact ledger_depositOutOfTurn h hw hcustody
  | setAside k id hk hcustody => exact ledger_setAside h hw hcustody
  | chargeBegin f q hf hpass hfit =>
    obtain ⟨hidle, hplan⟩ := chargeChecks_ok hpass
    obtain ⟨a, b, rfl, hhead⟩ := headPlan_some hplan
    obtain ⟨rest, hlane⟩ := lane_of_headRow hhead
    exact ledger_beginCharge h hw _ hidle hlane
  | lateEnd f => exact ledger_logFault h _ _ _ _
  | chargeEnd f a b width planned hf hop => exact ledger_endCharge h hw hop
  | returned f a b width planned hf hop => exact ledger_returnCharge h hw hop
  | stuck f a b width planned hf hop => exact ledger_giveUpCharge h hw hop false _ _
  | walkReport f n =>
    exact hsame ((sameBooks_walk s f n _).trans (sameBooks_walkDuringCharge _ f))
      ((setting_walkDuringCharge _ f).trans (setting_walk s f n _))
  | dischargeEmpty f => exact ledger_logFault h _ _ _ _
  | dischargeMismatch f id => exact ledger_doubtFurnace h f _ _ _
  | discharge f r hf hr => exact ledger_dischargeFront h hw hr

/-! ### Events -/

theorem ledger_settle (h : Ledger t) : Ledger (settle s t) := ledger_of_same (sameBooks_settle s t) (by simp) h

theorem ledger_permitExpiry (h : Ledger s) (hw : s.powered = true) (k : Crane) : Ledger (s.permitExpiry k) := by
  unfold State.permitExpiry
  split
  · next hpermit => exact ledger_settle (ledger_lapsePermit h hw (place?_of_permitOf h hpermit) true)
  · exact h

theorem ledger_custodyExpiry (h : Ledger s) (hw : s.powered = true) (k : Crane) : Ledger (s.custodyExpiry k) := by
  unfold State.custodyExpiry
  split
  · next id _ hcustody =>
    obtain ⟨o, hplace⟩ := h.custody k id hcustody
    exact ledger_overdue h hw hplace
  · exact h

theorem ledger_chargeExpiry (h : Ledger s) (hw : s.powered = true) (f : Furnace) : Ledger (s.chargeExpiry f) := by
  unfold State.chargeExpiry
  split
  · next hop => exact ledger_settle (ledger_giveUpCharge h hw hop true _ _)
  · exact h

theorem ledger_roleLoss (h : Ledger s) (hw : s.powered = true) (p : Port) : Ledger (s.roleLoss p) := by
  unfold State.roleLoss
  split
  · exact ledger_craneLost h hw _
  · unfold State.controllerLost
    split
    · next f _ _ _ => exact ledger_doubtFurnace (ledger_of_same (sameBooks_changeHold s f _) (setting_changeHold s f _) h) f _ _ _
    · exact h
  · exact h

theorem ledger_silenceExpiry (h : Ledger s) (hw : s.powered = true) (p : Port) : Ledger (s.silenceExpiry p) := by
  unfold State.silenceExpiry
  split
  · have hlost : Ledger ((((s.updatePort p fun q => { q with link := .lost, silence := none }).logFault .link .portSilent none
        (some p)).raiseWhen (p != .p0) .p0 SupvNotice.portLost.bit)) :=
      ledger_raiseWhen (ledger_logFault (ledger_of_same (sameBooks_updatePort s p _) rfl h) _ _ _ _) _ _ _
    refine ledger_settle (ledger_roleLoss hlost ?_ p)
    simpa using hw
  · exact h

theorem ledger_tick (h : Ledger s) : Ledger s.tick := by
  cases hw : s.powered with
  | false => rw [tick_of_unpowered hw]; exact h
  | true =>
    have hregister : s.tick.register = s.register := by rw [State.tick, if_pos hw]
    have hplace : ∀ x, s.tick.place? x = s.place? x := fun x => by rw [State.place?, State.slab?, hregister]; rfl
    exact {
      files := files_of_register h.files hregister
      stands := stands_of_same h.stands hplace fun x σ => by
        cases σ with
        | entry f side => simp only [countIn, tick_furnace hw]; rfl
        | map f side => simp only [countIn, tick_furnace hw]; rfl
        | _ => simp only [countIn, State.tick, if_pos hw]
      custody := fun k id hid => by
        rw [tick_crane hw] at hid
        rw [hplace]
        exact h.custody k id hid
      lifted := fun _ id k o hlifted => by
        rw [hplace] at hlifted
        rw [tick_crane hw]
        exact h.lifted hw id k o hlifted
      credits := by
        have hparams : s.tick.params = s.params := by rw [State.tick, if_pos hw]
        rw [State.creditsHeld, State.countPlaces, hregister, hparams]
        exact h.credits
      config := fun hconfig => tracksNothing_tick (h.config (by rwa [State.tick, if_pos hw] at hconfig)) }

theorem ledger_of_effect {c : Instr} (h : Ledger s) (he : Effect c s t) : Ledger t := by
  cases he with
  | nothing => exact h
  | powerOn => exact ledger_of_quiet (quiet_startUp h false) (sameBooks_of_setting _ _ _ _ _ _) rfl rfl
  | lossOfPower => exact ledger_lossOfPower h
  | seconds =>
    have hsetting := setting_advanceSeconds s
    exact ledger_of_sameBooks (sameBooks_advanceSeconds s) h (fun hp => (congrArg Setting.powered hsetting).symm.trans hp)
      (by rw [show s.advanceSeconds.params = s.params from congrArg Setting.params hsetting]; exact h.credits)
      fun hm => tracksNothing_of_sameBooks (sameBooks_advanceSeconds s) (h.config ((congrArg Setting.mode hsetting).symm.trans hm))
  | permitExpiry k hc hw => exact ledger_permitExpiry h hw k
  | custodyExpiry k hc hw => exact ledger_custodyExpiry h hw k
  | chargeExpiry f hc hw => exact ledger_chargeExpiry h hw f
  | silenceExpiry p hc hw => exact ledger_silenceExpiry h hw p
  | machine p u g hc hp hu =>
    exact ledger_of_same ((sameBooks_linkLogged hu).trans (sameBooks_updatePort u p g)) ((setting_updatePort u p g).trans (setting_of_linkLogged hu)) h
  | answer p k body hc hport hw hp hrole hstands =>
    refine ledger_of_same (sameBooks_answered p (ruleOf p body k s)) rfl ?_
    have hresult := result_of_ruleOf p k body s hrole
    generalize (ruleOf p body k s).1 = u at hresult
    cases hresult with
    | plain hchange => exact ledger_of_change h hw hchange
    | settled hchange => exact ledger_settle (ledger_of_change h hw hchange)

end Account

/-- Settles O6: the account is the ledger of the register and the collections, which every event keeps. -/
theorem accountKept : Obligations.AccountKept := by
  unfold Obligations.AccountKept
  intro s t h hstep
  refine account_of_ledger (keeps_of_step (I := Ledger) (fun s rest h => ?_) (fun s => ledger_tick)
    (fun c s t => ledger_of_effect) (ledger_of_account h) hstep)
  exact ledger_of_sameBooks (sameBooks_queue s rest) h (fun hp => hp) h.credits fun hconfig =>
    tracksNothing_of_sameBooks (sameBooks_queue s rest) (h.config hconfig)

end Sys2Proof.Proofs

/-!
PROOFS. What each part of the state can be changed by: every change of a rule is a path of small moves, each within the parts that
the path may reach. The noninterference rules and the rules on records, rows and banks follow from the moves.
-/

namespace Sys2Proof.Proofs

open Sys2Proof Sys2Proof.Machine

/-- The parts of the state that a move can reach, and what more it may do there: a new slab, a new row, a fault record emptied, a
threshold counter set. -/
inductive Part where
  | register
  | newSlab (id : SlabId)
  | doubtList
  | sequence
  | lane
  | laneDoubt
  | reservation
  | cranes
  | custody
  | furnace (f : Furnace)
  | newRow (id : SlabId)
  | log
  | port (p : Port)
  | clearsFault
  | setsCounter

/-- R2, R7, R89, R92, R93, R146: what a record keeps for its life; of the slabs it was parted from, the live ones. -/
structure RecordKept (live : SlabId → Prop) (r r' : SlabRecord) : Prop where
  same : r' = { r with
    place := r'.place, partner := r'.partner, edited := r'.edited, pairingTested := r'.pairingTested
    pairDissolved := r'.pairDissolved, requeuedTested := r'.requeuedTested, parted := r'.parted }
  edited : r.edited = true → r'.edited = true
  pairingTested : r.pairingTested = true → r'.pairingTested = true
  pairDissolved : r.pairDissolved = true → r'.pairDissolved = true
  requeuedTested : r.requeuedTested = true → r'.requeuedTested = true
  parted : ∀ id ∈ r.parted, live id → id ∈ r'.parted

/-- R97, R104, R115: what a row keeps while it stays in its map. -/
structure RowKept (r r' : Row) : Prop where
  slabA : r'.slabA = r.slabA
  slabB : r'.slabB = r.slabB
  width : r'.width = r.width
  soakTarget : r'.soakTarget = r.soakTarget
  residence : r.residence ≤ r'.residence
  soakNotified : r.soakNotified = true → r'.soakNotified = true

/-- R156: a fault record is kept, or gives way to a fault of higher severity. -/
def KeepsWorst (b b' : Bank) : Prop :=
  ∀ r, b.record = some r → ∃ r', b'.record = some r' ∧ (r' = r ∨ r.severity.byte < r'.severity.byte)

/-- R104: the rows of a map come from its rows before, or are new. -/
def MapKept (P : Part → Prop) (rows rows' : List Row) : Prop := ∀ r' ∈ rows', P (.newRow r'.slabA) ∨ ∃ r ∈ rows, RowKept r r'

/-- R1: the records of a register come from its records before, or are new. -/
def RegisterKept (P : Part → Prop) (l l' : List SlabRecord) : Prop :=
  ∀ r' ∈ l', P (.newSlab r'.id) ∨ ∃ r ∈ l, RecordKept (fun id => ∃ o ∈ l', o.id = id) r r'

/-- One move within the parts `P`. -/
inductive Move (P : Part → Prop) (s : State) : State → Prop
  | raise (c : Bool) (p : Port) (bit : Byte) : Move P s (s.raiseWhen c p bit)
  | bank (b : BankId) (g : Bank → Bank) (hrecord : P .clearsFault ∨ KeepsWorst (s.banks.get b) (g (s.banks.get b)))
      (hcounter : P .setsCounter ∨ (s.banks.get b).counter ≤ (g (s.banks.get b)).counter) : Move P s (s.updateBank b g)
  | register (l : List SlabRecord) (h : P .register) (hl : RegisterKept P s.register l) : Move P s { s with register := l }
  | doubtList (l : List SlabId) (h : P .doubtList) : Move P s { s with doubtList := l }
  | sequence (l : List SlabId) (h : P .sequence) : Move P s { s with sequence := l }
  | lane (l : List SlabId) (h : P .lane) : Move P s { s with lane := l }
  | laneDoubt (on : Bool) (h : P .laneDoubt) : Move P s { s with laneDoubt := on }
  | reservation (v : Option Reservation) (h : P .reservation) : Move P s { s with reservation := v }
  | crane (k : Crane) (g : CraneState → CraneState) (h : P .cranes)
      (hg : P .custody ∨ (g (s.crane k)).custody = (s.crane k).custody) : Move P s (s.updateCrane k g)
  | furnace (f : Furnace) (g : FurnaceState → FurnaceState) (h : P (.furnace f))
      (hg : MapKept P (s.furnace f).rows (g (s.furnace f)).rows) : Move P s (s.updateFurnace f g)
  | log (l : List DischargeRecord) (overrun : Bool) (h : P .log) : Move P s { s with log := l, logOverrun := overrun }
  | port (p : Port) (g : PortState → PortState) (h : P (.port p)) : Move P s (s.updatePort p g)

/-- A run of moves within the parts `P`. -/
abbrev Path (P : Part → Prop) : State → State → Prop := Relation.ReflTransGen (Move P)

section Kept

variable {P : Part → Prop} {live live' : SlabId → Prop}

theorem RecordKept.refl (r : SlabRecord) : RecordKept live r r := ⟨rfl, fun h => h, fun h => h, fun h => h, fun h => h, fun _ h _ => h⟩

theorem RecordKept.id_eq {r r' : SlabRecord} (h : RecordKept live r r') : r'.id = r.id := by rw [h.same]

theorem RecordKept.trans {r₁ r₂ r₃ : SlabRecord} (h : RecordKept live r₁ r₂) (h' : RecordKept live' r₂ r₃)
    (hlive : ∀ x, live' x → live x) : RecordKept live' r₁ r₃ where
  same := by
    calc r₃ = _ := h'.same
      _ = _ := by rw [h.same]
  edited := h'.edited ∘ h.edited
  pairingTested := h'.pairingTested ∘ h.pairingTested
  pairDissolved := h'.pairDissolved ∘ h.pairDissolved
  requeuedTested := h'.requeuedTested ∘ h.requeuedTested
  parted id hid hlives := h'.parted id (h.parted id hid (hlive id hlives)) hlives

theorem RecordKept.mono {r r' : SlabRecord} (h : RecordKept live r r') (hlive : ∀ x, live' x → live x) : RecordKept live' r r' :=
  ⟨h.same, h.edited, h.pairingTested, h.pairDissolved, h.requeuedTested, fun id hid hlives => h.parted id hid (hlive id hlives)⟩

theorem RowKept.refl (r : Row) : RowKept r r := ⟨rfl, rfl, rfl, rfl, le_rfl, fun h => h⟩

theorem RowKept.trans {r₁ r₂ r₃ : Row} (h : RowKept r₁ r₂) (h' : RowKept r₂ r₃) : RowKept r₁ r₃ :=
  ⟨h'.slabA.trans h.slabA, h'.slabB.trans h.slabB, h'.width.trans h.width, h'.soakTarget.trans h.soakTarget,
    h.residence.trans h'.residence, h'.soakNotified ∘ h.soakNotified⟩

theorem MapKept.of_subset {rows rows' : List Row} (h : ∀ r ∈ rows', r ∈ rows) : MapKept P rows rows' := fun r hr =>
  .inr ⟨r, h r hr, .refl r⟩

theorem MapKept.refl (rows : List Row) : MapKept P rows rows := .of_subset fun _ h => h

theorem MapKept.map {rows : List Row} {g : Row → Row} (hg : ∀ r, RowKept r (g r)) : MapKept P rows (rows.map g) := fun r' hr' => by
  obtain ⟨r, hr, rfl⟩ := List.mem_map.mp hr'
  exact .inr ⟨r, hr, hg r⟩

theorem MapKept.markFront (rows : List Row) : MapKept P rows (markFront rows) := by
  have hall : ∀ (l : List Row), ∀ r' ∈ Machine.markFront l, ∃ r ∈ l, RowKept r r' := by
    intro l
    induction l with
    | nil => nofun
    | cons r l ih =>
      cases l with
      | nil =>
        intro r' hr'
        obtain rfl := List.mem_singleton.mp hr'
        exact ⟨r, .head _, rfl, rfl, rfl, rfl, le_rfl, fun _ => rfl⟩
      | cons q l =>
        intro r' hr'
        rcases List.mem_cons.mp hr' with rfl | hr'
        · exact ⟨r', .head _, .refl r'⟩
        · obtain ⟨o, ho, hkept⟩ := ih r' hr'
          exact ⟨o, .tail _ ho, hkept⟩
  exact fun r' hr' => .inr (hall rows r' hr')

theorem MapKept.trans {rows₁ rows₂ rows₃ : List Row} (h : MapKept P rows₁ rows₂) (h' : MapKept P rows₂ rows₃) :
    MapKept P rows₁ rows₃ := fun r₃ hr₃ => by
  rcases h' r₃ hr₃ with hnew | ⟨r₂, hr₂, hkept⟩
  · exact .inl hnew
  · rcases h r₂ hr₂ with hnew | ⟨r₁, hr₁, hkept'⟩
    · exact .inl (hkept.slabA ▸ hnew)
    · exact .inr ⟨r₁, hr₁, hkept'.trans hkept⟩

theorem RegisterKept.refl (l : List SlabRecord) : RegisterKept P l l := fun r hr => .inr ⟨r, hr, .refl r⟩

theorem KeepsWorst.refl (b : Bank) : KeepsWorst b b := fun r hr => ⟨r, hr, .inl rfl⟩

theorem KeepsWorst.trans {b₁ b₂ b₃ : Bank} (h : KeepsWorst b₁ b₂) (h' : KeepsWorst b₂ b₃) : KeepsWorst b₁ b₃ := fun r₁ hr₁ => by
  obtain ⟨r₂, hr₂, h₁₂⟩ := h r₁ hr₁
  obtain ⟨r₃, hr₃, h₂₃⟩ := h' r₂ hr₂
  refine ⟨r₃, hr₃, ?_⟩
  rcases h₁₂ with rfl | h₁₂
  · exact h₂₃
  · rcases h₂₃ with rfl | h₂₃
    · exact .inr h₁₂
    · exact .inr (h₁₂.trans h₂₃)

/-- R156: a bank after a fault has reached it. -/
theorem keepsWorst_logged (b : Bank) (code : FaultCode) (slab : Option SlabId) (port : Option Port) (stamp : Word32) :
    KeepsWorst b (b.logged code slab port stamp) := fun r hr => by
  by_cases htakes : b.takes code.severity = true
  · refine ⟨_, if_pos htakes, .inr ?_⟩
    rw [Bank.takes, hr] at htakes
    exact of_decide_eq_true htakes
  · exact ⟨r, (if_neg htakes).trans hr, .inl rfl⟩

theorem counter_logged (b : Bank) (code : FaultCode) (slab : Option SlabId) (port : Option Port) (stamp : Word32) :
    b.counter ≤ (b.logged code slab port stamp).counter := by
  rw [Bank.logged]
  dsimp only
  split <;> omega

end Kept

section Paths

variable {P : Part → Prop} {s t u : State}

theorem path_foldl {α : Type} {g : State → α → State} (hg : ∀ u x, Path P u (g u x)) (l : List α) (s : State) :
    Path P s (l.foldl g s) := by
  induction l generalizing s with
  | nil => exact .refl
  | cons x l ih => exact (hg s x).trans (ih (g s x))

theorem path_ite {c : Prop} [Decidable c] {a b : State} (ha : Path P s a) (hb : Path P s b) : Path P s (if c then a else b) := by
  split
  · exact ha
  · exact hb

/-! ### Notices, faults and ports -/

theorem path_raiseWhen (s : State) (c : Bool) (p : Port) (bit : Byte) : Path P s (s.raiseWhen c p bit) := .single (.raise c p bit)

theorem path_raiseSupv (s : State) (n : SupvNotice) : Path P s (s.raiseSupv n) := path_raiseWhen s _ _ _

theorem path_raiseCrane (s : State) (k : Crane) (n : CraneNotice) : Path P s (s.raiseCrane k n) := path_raiseWhen s _ _ _

theorem path_logFault (s : State) (b : BankId) (code : FaultCode) (slab : Option SlabId) (port : Option Port) :
    Path P s (s.logFault b code slab port) :=
  (Relation.ReflTransGen.single (Move.bank b _ (.inr (keepsWorst_logged _ _ _ _ _)) (.inr (counter_logged _ _ _ _ _)))).trans
    ((path_raiseWhen _ _ _ _).trans (path_raiseWhen _ _ _ _))

theorem path_logFurnace (s : State) (f : Furnace) (code : FaultCode) (slab : Option SlabId) (port : Option Port) :
    Path P s (s.logFurnace f code slab port) := path_logFault s _ _ _ _

theorem path_settle (s t : State) : Path P t (settle s t) := by
  have hcrane : ∀ (k : Crane) (u : State), Path P u (settleCrane s t k u) := fun k u =>
    (path_raiseWhen _ _ _ _).trans (path_raiseWhen _ _ _ _)
  have hfurnace : ∀ (f : Furnace) (u : State), Path P u (settleFurnace s t f u) := fun f u =>
    (path_raiseWhen _ _ _ _).trans ((path_raiseWhen _ _ _ _).trans (path_raiseWhen _ _ _ _))
  exact (path_raiseWhen _ _ _ _).trans ((hcrane _ _).trans ((hcrane _ _).trans ((hfurnace _ _).trans
    ((hfurnace _ _).trans (hfurnace _ _)))))

theorem path_updatePort (s : State) {p : Port} (h : P (.port p)) (g : PortState → PortState) : Path P s (s.updatePort p g) :=
  .single (.port p g h)

/-! ### The register -/

/-- Every record keeps what a record keeps. -/
theorem path_mapRegister (s : State) (h : P .register) {g : SlabRecord → SlabRecord} (hg : ∀ r, RecordKept (fun _ => True) r (g r)) :
    Path P s { s with register := s.register.map g } :=
  .single (.register _ h fun r' hr' => by
    obtain ⟨r, hr, rfl⟩ := List.mem_map.mp hr'
    exact .inr ⟨r, hr, (hg r).mono fun _ _ => trivial⟩)

theorem path_updateSlab (s : State) (h : P .register) (id : SlabId) {g : SlabRecord → SlabRecord}
    (hg : ∀ r, RecordKept (fun _ => True) r (g r)) : Path P s (s.updateSlab id g) :=
  path_mapRegister s h fun r => by
    split
    · exact hg r
    · exact .refl r

theorem path_setPlace (s : State) (h : P .register) (id : SlabId) (pl : Place) : Path P s (s.setPlace id pl) :=
  path_updateSlab s h id fun _ => ⟨rfl, fun h => h, fun h => h, fun h => h, fun h => h, fun _ h _ => h⟩

theorem path_dissolvePair (s : State) (h : P .register) (id : SlabId) : Path P s (s.dissolvePair id) :=
  path_mapRegister s h fun r => by
    split
    · exact ⟨rfl, fun h => h, fun h => h, fun h => by simp [SlabRecord.unpaired, h], fun h => h,
        fun x hx _ => (r.mem_unpaired_parted x).mpr (.inl hx)⟩
    · exact .refl r

theorem path_formPair (s : State) (h : P .register) (a b : SlabId) : Path P s (s.formPair a b) :=
  (path_updateSlab s h a (g := fun r => { r with partner := some ⟨b, .first⟩ })
      fun _ => ⟨rfl, fun h => h, fun h => h, fun h => h, fun h => h, fun _ h _ => h⟩).trans
    (path_updateSlab _ h b fun _ => ⟨rfl, fun h => h, fun h => h, fun h => h, fun h => h, fun _ h _ => h⟩)

theorem path_makeDoubtful (s : State) (h : P .register) (hd : P .doubtList) (id : SlabId) (last : LastKnown) :
    Path P s (s.makeDoubtful id last) :=
  ((path_dissolvePair s h id).trans (path_setPlace _ h id (.doubtful last))).tail (.doubtList _ hd)

theorem path_resolveTo (s : State) (h : P .register) (hd : P .doubtList) (id : SlabId) (pl : Place) :
    Path P s (s.resolveTo id pl) :=
  (path_updateSlab s h id (g := fun r => { r with place := pl, edited := true })
    fun _ => ⟨rfl, fun _ => rfl, fun h => h, fun h => h, fun h => h, fun _ h _ => h⟩).tail (.doubtList _ hd)

theorem path_freeSlab (s : State) (h : P .register) (hd : P .doubtList) (id : SlabId) : Path P s (s.freeSlab id) := by
  refine (Relation.ReflTransGen.single (Move.register ((s.register.filter fun r => r.id != id).map fun r => r.forget id) h ?_)).tail
    (.doubtList _ hd)
  intro r' hr'
  obtain ⟨r, hr, rfl⟩ := List.mem_map.mp hr'
  refine .inr ⟨r, (List.mem_filter.mp hr).1, rfl, fun h => h, fun h => h, fun h => h, fun h => h, fun x hx ⟨o, ho, hox⟩ => ?_⟩
  obtain ⟨o', ho', rfl⟩ := List.mem_map.mp ho
  refine (r.mem_forget_parted id x).mpr ⟨hx, hox ▸ ?_⟩
  simpa using (List.mem_filter.mp ho').2

theorem path_lanePairCheck (s : State) (h : P .register) : Path P s s.lanePairCheck :=
  path_foldl (fun u id => path_ite .refl (path_dissolvePair u h id)) s.lane s

theorem path_joinLaneTail (s : State) (h : P .register) (hl : P .lane) (id : SlabId) : Path P s (s.joinLaneTail id) :=
  (Relation.ReflTransGen.single (Move.lane (s.lane ++ [id]) hl)).trans (path_lanePairCheck _ h)

/-! ### Furnaces -/

theorem path_updateFurnace (s : State) {f : Furnace} (h : P (.furnace f)) {g : FurnaceState → FurnaceState}
    (hg : (g (s.furnace f)).rows = (s.furnace f).rows) : Path P s (s.updateFurnace f g) :=
  .single (.furnace f g h (hg ▸ .refl _))

theorem path_changeHold (s : State) {f : Furnace} (h : P (.furnace f)) (g : HoldSet → HoldSet) : Path P s (s.changeHold f g) :=
  path_updateFurnace s h rfl

theorem path_doubtFurnace (s : State) {f : Furnace} (h : P (.furnace f)) (code : FaultCode) (slab : Option SlabId) (port : Option Port) :
    Path P s (s.doubtFurnace f code slab port) :=
  (path_updateFurnace s h (g := fun m => { m with doubt := true }) rfl).trans
    ((path_logFurnace _ _ _ _ _).trans (path_raiseSupv _ _))

theorem path_soakCheck (s : State) {f : Furnace} (h : P (.furnace f)) : Path P s (s.soakCheck f) :=
  (Relation.ReflTransGen.single (Move.furnace f (fun m => { m with rows := if s.soakDue f then markFront m.rows else m.rows }) h (by
    dsimp only
    split
    · exact .markFront _
    · exact .refl _))).trans (path_raiseWhen _ _ _ _)

theorem path_walk (s : State) {f : Furnace} (h : P (.furnace f)) (n : Nat) (p : Port) : Path P s (s.walk f n p) := by
  have hmoved : Path P s (s.updateFurnace f fun m => { m with rows := (s.furnaceParams f).walkedRows n (s.furnace f).rows }) :=
    .single (.furnace f _ h (MapKept.map fun r => by
      unfold Row.clamped
      split <;> exact ⟨rfl, rfl, rfl, rfl, le_rfl, fun h => h⟩))
  unfold State.walk
  dsimp only
  have hclamped := path_ite (c := (s.furnaceParams f).walkClamps n (s.furnace f).rows = true) (hmoved.trans (path_logFurnace _ f .overtravel
    (frontSlab ((s.furnaceParams f).walkedRows n (s.furnace f).rows)) (some p))) hmoved
  split
  · exact hclamped.trans (path_doubtFurnace _ h _ _ _)
  · exact hclamped

theorem path_walkDuringCharge (s : State) {f : Furnace} (h : P (.furnace f)) : Path P s (s.walkDuringCharge f) := by
  unfold State.walkDuringCharge
  split
  · exact path_doubtFurnace _ h _ _ _
  · exact .refl

theorem path_shiftRow (s : State) {f : Furnace} (h : P (.furnace f)) (id : SlabId) (rear : Nat) : Path P s (s.shiftRow f id rear) :=
  .single (.furnace f _ h (MapKept.map fun r => by split <;> exact ⟨rfl, rfl, rfl, rfl, le_rfl, fun h => h⟩))

theorem path_placeRow (s : State) {f : Furnace} (h : P (.furnace f)) (hr : P .register) (hd : P .doubtList) {a : SlabId}
    (ha : P (.newRow a)) (b : Option SlabId) (q : Placing) : Path P s (s.placeRow f a b q) := by
  have hlaid : Path P s (s.updateFurnace f fun m => { m with
      rows := (s.furnace f).rows.take (placeIndex (s.furnace f).rows q.rear) ++
        s.placedRow f a b q :: (s.furnace f).rows.drop (placeIndex (s.furnace f).rows q.rear) }) :=
    .single (.furnace f _ h fun r hmem => by
      rcases List.mem_append.mp hmem with hmem | hmem
      · exact .inr ⟨r, List.mem_of_mem_take hmem, .refl r⟩
      · rcases List.mem_cons.mp hmem with rfl | hmem
        · exact .inl ha
        · exact .inr ⟨r, List.mem_of_mem_drop hmem, .refl r⟩)
  have hresolved : ∀ u : State, Path P u ((slabsWithSides a b).foldl (fun v x => v.resolveTo x.1 (.inFurnace f x.2)) u) := fun u =>
    path_foldl (g := fun v (x : SlabId × Side) => v.resolveTo x.1 (.inFurnace f x.2)) (fun v x => path_resolveTo v hr hd x.1 _) _ u
  have hpaired : ∀ u : State, Path P u (u.formRowPair a b) := fun u => by
    cases b with
    | none => exact .refl
    | some c => exact path_formPair u hr a c
  have hall := (hlaid.trans (hresolved _)).trans (hpaired _)
  exact path_ite (hall.trans (path_soakCheck _ h)) hall

theorem path_removeRow (s : State) {f : Furnace} (h : P (.furnace f)) (hr : P .register) (hd : P .doubtList) (row : Row) :
    Path P s (s.removeRow f row) := by
  have hoff : Path P s (s.updateFurnace f fun m => { m with rows := (s.furnace f).rows.filter fun r => !r.holds row.slabA }) :=
    .single (.furnace f _ h (.of_subset fun r hmem => (List.mem_filter.mp hmem).1))
  have hdoubted : ∀ u : State, Path P u ((slabsWithSides row.slabA row.slabB).foldl
      (fun v x => v.makeDoubtful x.1 (.inFurnace f x.2)) u) := fun u =>
    path_foldl (g := fun v (x : SlabId × Side) => v.makeDoubtful x.1 (.inFurnace f x.2)) (fun v x => path_makeDoubtful v hr hd x.1 _) _ u
  have hall := hoff.trans (hdoubted _)
  exact (path_ite (hall.trans (path_soakCheck _ h)) hall).trans (path_raiseSupv _ _)

/-! ### Charges and discharges -/

theorem path_setPlaces {α : Type} (s : State) (h : P .register) (id : α → SlabId) (place : α → Place) (l : List α) :
    Path P s (l.foldl (fun v x => v.setPlace (id x) (place x)) s) :=
  path_foldl (g := fun v x => v.setPlace (id x) (place x)) (fun u x => path_setPlace u h (id x) (place x)) l s

theorem path_endOperation (s : State) {f : Furnace} (h : P (.furnace f)) (timedOut : Bool) : Path P s (s.endOperation f timedOut) :=
  path_updateFurnace s h rfl

theorem path_beginCharge (s : State) {f : Furnace} (h : P (.furnace f)) (hr : P .register) (hl : P .lane) (q : Plan) :
    Path P s (s.beginCharge f q) := by
  have hoff : Path P s { s with lane := s.lane.drop (slabsWithSides q.slabA q.slabB).length } := .single (.lane _ hl)
  exact (hoff.trans (path_setPlaces _ hr Prod.fst (fun x : SlabId × Side => .atEntry f x.2) (slabsWithSides q.slabA q.slabB))).trans
    (path_updateFurnace _ h rfl)

theorem path_entryOverlap (s : State) {f : Furnace} (h : P (.furnace f)) (row : Row) (older : Option Row) :
    Path P s (s.entryOverlap f row older) := by
  unfold State.entryOverlap
  split
  · exact path_ite (path_doubtFurnace _ h _ _ _) .refl
  · exact .refl

theorem path_endCharge (s : State) {f : Furnace} (h : P (.furnace f)) (hr : P .register) {a : SlabId} (ha : P (.newRow a))
    (b : Option SlabId) (width : Nat) : Path P s (s.endCharge f a b width) := by
  have hinside : Path P s ((s.endOperation f false).toFurnace f a b) :=
    (path_endOperation s h false).trans (path_setPlaces _ hr Prod.fst (fun x : SlabId × Side => .inFurnace f x.2) (slabsWithSides a b))
  have hlaid := hinside.tail (Move.furnace f (fun m => { m with rows := s.chargedRow f a b width :: m.rows }) h fun r hmem => by
    rcases List.mem_cons.mp hmem with rfl | hmem
    · exact .inl ha
    · exact .inr ⟨r, hmem, .refl r⟩)
  exact (path_ite (hlaid.trans (path_soakCheck _ h)) hlaid).trans (path_entryOverlap _ h _ _)

theorem path_returnCharge (s : State) {f : Furnace} (h : P (.furnace f)) (hr : P .register) (hl : P .lane) (a : SlabId)
    (b : Option SlabId) : Path P s (s.returnCharge f a b) :=
  ((path_endOperation s h false).tail (.lane (a :: b.toList ++ s.lane) hl)).trans
    (path_setPlaces _ hr (fun x => x) (fun _ => .onLane) (a :: b.toList))

theorem path_giveUpCharge (s : State) {f : Furnace} (h : P (.furnace f)) (hr : P .register) (hd : P .doubtList) (a : SlabId)
    (b : Option SlabId) (timedOut : Bool) (code : FaultCode) (port : Option Port) : Path P s (s.giveUpCharge f a b timedOut code port) :=
  ((path_foldl (g := fun v (x : SlabId × Side) => v.makeDoubtful x.1 (.atEntry f x.2))
    (fun v x => path_makeDoubtful v hr hd x.1 _) (slabsWithSides a b) s).trans (path_endOperation _ h timedOut)).trans
    (path_doubtFurnace _ h _ _ _)

theorem path_dischargeSlab (s : State) (f : Furnace) (hr : P .register) (hd : P .doubtList) (hl : P .log) (r : Row) (x : SlabId × Side) :
    Path P s (s.dischargeSlab f r x) := by
  have hroom : Path P s (s.makeRoom f) := by
    unfold State.makeRoom
    split
    · exact (Relation.ReflTransGen.single (Move.log (s.log.drop 1) true hl)).trans (path_logFurnace _ _ _ _ _)
    · exact .refl
  exact ((hroom.tail (.log ((s.makeRoom f).log ++ [s.dischargeRecord f r x.1 x.2]) (s.makeRoom f).logOverrun hl)).trans
    (path_raiseWhen _ _ _ _)).trans (path_freeSlab _ hr hd x.1)

theorem path_dischargeFront (s : State) {f : Furnace} (h : P (.furnace f)) (hr : P .register) (hd : P .doubtList) (hl : P .log)
    (r : Row) : Path P s (s.dischargeFront f r) := by
  have hoff : Path P s (s.updateFurnace f fun m => { m with rows := m.rows.dropLast }) :=
    .single (.furnace f _ h (.of_subset fun _ hmem => List.mem_of_mem_dropLast hmem))
  exact ((path_ite (hoff.trans (path_logFurnace _ _ _ _ _)) hoff).trans
    (path_foldl (fun u x => path_dischargeSlab u f hr hd hl r x) (slabsWithSides r.slabA r.slabB) _)).trans (path_soakCheck _ h)

/-! ### The cranes -/

theorem path_updateCrane (s : State) (h : P .cranes) (hg : P .custody) (k : Crane) (g : CraneState → CraneState) :
    Path P s (s.updateCrane k g) :=
  .single (.crane k g h (.inl hg))

theorem path_craneTimers (s : State) (h : P .cranes) (k : Crane) {g : CraneState → CraneState}
    (hg : (g (s.crane k)).custody = (s.crane k).custody) : Path P s (s.updateCrane k g) :=
  .single (.crane k g h (.inr hg))

theorem path_leaveSequence (s : State) (h : P .sequence) (id : SlabId) : Path P s (s.leaveSequence id) := .single (.sequence _ h)

theorem path_releaseReservation (s : State) (h : P .reservation) (k : Crane) : Path P s (s.releaseReservation k) :=
  .single (.reservation _ h)

theorem path_grantPermit (s : State) (hr : P .register) (hc : P .cranes) (k : Crane) (id : SlabId) : Path P s (s.grantPermit k id) := by
  have hmarked : ∀ u : State, Path P u (u.markTested id) := fun u =>
    path_updateSlab u hr id fun _ => ⟨rfl, fun h => h, fun _ => rfl, fun h => h, fun h => h, fun _ h _ => h⟩
  have htest : ∀ u : State, Path P u (u.pairingTest id) := fun u => by
    unfold State.pairingTest
    split
    · exact (hmarked u).trans (path_formPair _ hr _ _)
    · exact hmarked u
  exact ((path_setPlace s hr id _).trans (path_craneTimers _ hc k rfl)).trans (htest _)

theorem path_undoPermit (s : State) (hr : P .register) (hc : P .cranes) (k : Crane) (id : SlabId) : Path P s (s.undoPermit k id) :=
  ((path_craneTimers s hc k rfl).trans (path_setPlace _ hr id _)).trans (path_dissolvePair _ hr id)

theorem path_lapsePermit (s : State) (hr : P .register) (hc : P .cranes) (k : Crane) (id : SlabId) (notify : Bool) :
    Path P s (s.lapsePermit k id notify) :=
  ((path_undoPermit s hr hc k id).trans (path_raiseWhen _ _ _ _)).trans (path_logFault _ _ _ _ _)

theorem path_takeLift (s : State) (hr : P .register) (hc : P .cranes) (hy : P .custody) (k : Crane) (id : SlabId) : Path P s (s.takeLift k id) :=
  ((path_craneTimers s hc k rfl).trans (path_setPlace _ hr id (.lifted k false))).trans
    (path_updateCrane _ hc hy k fun c => { c with custody := some id, custodyTimer := some (tenths s.params.custodyPeriod) })

theorem path_lateLiftDoubt (s : State) (hr : P .register) (hd : P .doubtList) (hs : P .sequence) (k : Crane) (id : SlabId) :
    Path P s (s.lateLiftDoubt k id) :=
  ((((path_dissolvePair s hr id).trans (path_leaveSequence _ hs id)).trans (path_makeDoubtful _ hr hd id _)).trans
    (path_logFault _ _ _ _ _)).trans (path_raiseSupv _ _)

theorem path_depositInTurn (s : State) (hr : P .register) (hc : P .cranes) (hy : P .custody) (hs : P .sequence) (hl : P .lane) (hv : P .reservation)
    (k : Crane) (id : SlabId) : Path P s (s.depositInTurn k id) := by
  have hended : Path P s (s.endCustody k) := path_updateCrane s hc hy k _
  have hended' : Path P s (if s.reservedFor k id then (s.endCustody k).releaseReservation k
      else (s.endCustody k).logFault .lane .depositUncleared (some id) (some (cranePort k))) :=
    path_ite (hended.trans (path_releaseReservation _ hv k)) (hended.trans (path_logFault _ _ _ _ _))
  exact ((hended'.trans (path_leaveSequence _ hs id)).trans (path_setPlace _ hr id _)).trans (path_joinLaneTail _ hr hl id)

theorem path_dissolveHeadPair (s : State) (hr : P .register) : Path P s s.dissolveHeadPair := by
  rcases dissolveHeadPair_cases s with h | ⟨head, h⟩
  · rw [h]
  · rw [h]; exact path_dissolvePair s hr head

theorem path_depositOutOfTurn (s : State) (hr : P .register) (hc : P .cranes) (hy : P .custody) (hs : P .sequence) (hl : P .lane) (hd : P .laneDoubt)
    (k : Crane) (id : SlabId) : Path P s (s.depositOutOfTurn k id) :=
  ((((((path_updateCrane s hc hy k _).trans (path_dissolvePair _ hr id)).trans (path_dissolveHeadPair _ hr)).trans
    (path_leaveSequence _ hs id)).trans (path_setPlace _ hr id _)).trans (path_joinLaneTail _ hr hl id)).trans
    (((Relation.ReflTransGen.single (Move.laneDoubt true hd)).trans (path_logFault _ _ _ _ _)).trans (path_raiseSupv _ _))

theorem path_setAside (s : State) (hr : P .register) (hc : P .cranes) (hy : P .custody) (hv : P .reservation) (k : Crane) (id : SlabId) :
    Path P s (s.setAside k id) :=
  ((path_updateCrane s hc hy k _).trans (path_releaseReservation _ hv k)).trans (path_setPlace _ hr id _)

theorem path_custodyLost (s : State) (hr : P .register) (hd : P .doubtList) (hc : P .cranes) (hy : P .custody) (hs : P .sequence) (hv : P .reservation)
    (k : Crane) (id : SlabId) : Path P s (s.custodyLost k id) :=
  ((((((path_updateCrane s hc hy k _).trans (path_releaseReservation _ hv k)).trans (path_dissolvePair _ hr id)).trans
    (path_leaveSequence _ hs id)).trans (path_makeDoubtful _ hr hd id _)).trans (path_logFault _ _ _ _ _)).trans (path_raiseSupv _ _)

theorem path_craneLost (s : State) (hr : P .register) (hd : P .doubtList) (hc : P .cranes) (hy : P .custody) (hs : P .sequence) (hv : P .reservation)
    (k : Crane) : Path P s (s.craneLost k) := by
  obtain ⟨u, hpermit, hcustody⟩ := craneLost_cases s k
  have hu : Path P s u := by
    rcases hpermit with ⟨-, rfl⟩ | ⟨id, -, rfl⟩
    · exact .refl
    · exact path_lapsePermit s hr hc k id false
  rcases hcustody with ⟨-, h⟩ | ⟨id, -, h⟩
  · rw [h]; exact hu
  · rw [h]; exact hu.trans (path_custodyLost u hr hd hc hy hs hv k id)

/-! ### The sequence -/

theorem path_withdrawListed (s : State) (hr : P .register) (hd : P .doubtList) (hs : P .sequence) (id : SlabId) :
    Path P s (s.withdrawListed id) :=
  ((path_dissolvePair s hr id).trans (path_leaveSequence _ hs id)).trans (path_freeSlab _ hr hd id)

theorem path_withdrawPermitted (s : State) (hr : P .register) (hd : P .doubtList) (hs : P .sequence) (hc : P .cranes) (id : SlabId)
    (k : Crane) : Path P s (s.withdrawPermitted id k) :=
  ((path_craneTimers s hc k rfl).trans (path_raiseCrane _ _ _)).trans (path_withdrawListed _ hr hd hs id)

theorem path_requeue (s : State) (hr : P .register) (hd : P .doubtList) (hs : P .sequence) (id : SlabId) : Path P s (s.requeue id) :=
  ((path_resolveTo s hr hd id .listed).trans (path_updateSlab _ hr id (g := SlabRecord.requeued) fun r => ⟨rfl, fun h => h,
    fun h => h, fun h => h, fun h => by simp [SlabRecord.requeued, h], fun _ h _ => h⟩)).tail (.sequence _ hs)

theorem path_createSlab (s : State) (hr : P .register) (hs : P .sequence) {r : SlabRecord} (hnew : P (.newSlab r.id)) (i : Nat) :
    Path P s (s.createSlab r i) :=
  (Relation.ReflTransGen.single (Move.sequence _ hs)).tail (.register (insertRecord r s.register) hr fun o ho => by
    rcases List.mem_cons.mp ((insertRecord_perm r s.register).subset ho) with rfl | hmem
    · exact .inl hnew
    · exact .inr ⟨o, hmem, .refl o⟩)

/-! ### Ports -/

theorem path_hello (s : State) {p : Port} (hp : P (.port p)) (hf : ∀ f, portFurnace p = some f → P (.furnace f)) :
    Path P s (s.hello p) := by
  have hunpark : ∀ u : State, Path P u (u.unparkFurnace p) := fun u => by
    unfold State.unparkFurnace
    split
    · next f hpf => exact path_changeHold u (hf f hpf) _
    · exact .refl
  have hgreet : ∀ u : State, Path P u (u.greet p) := fun u => by
    unfold State.greet
    split
    · exact path_raiseWhen _ _ _ _
    · exact path_raiseWhen _ _ _ _
    · exact .refl
  exact (((path_updatePort s hp _).trans (hunpark _)).trans (path_settle s _)).trans (hgreet _)

theorem path_parkPort (s : State) {p : Port} (hp : P (.port p)) (hf : ∀ f, portFurnace p = some f → P (.furnace f)) :
    Path P s (s.parkPort p) := by
  unfold State.parkPort
  dsimp only
  split
  · next f hpf => exact (path_updatePort s hp _).trans (path_changeHold _ (hf f hpf) _)
  · exact path_updatePort s hp _

end Paths

end Sys2Proof.Proofs

/-!
PROOFS. What a path leaves unchanged, and the path of every change that a rule makes.
-/

namespace Sys2Proof.Proofs

open Sys2Proof Sys2Proof.Machine

section Frames

variable {P : Part → Prop} {s t u : State}

/-! ### What a path leaves -/

theorem path_same {α : Type} {φ : State → α} (hφ : ∀ u v, Move P u v → φ v = φ u) (h : Path P s t) : φ t = φ s := by
  induction h with
  | refl => rfl
  | tail _ hmove ih => exact (hφ _ _ hmove).trans ih

theorem path_setting (h : Path P s t) : setting t = setting s := path_same (fun u v hmove => by cases hmove <;> rfl) h

theorem path_sequence (h : Path P s t) (hP : ¬P .sequence) : t.sequence = s.sequence :=
  path_same (fun u v hmove => by
    cases hmove with
    | sequence l h => exact absurd h hP
    | _ => rfl) h

theorem path_reservation (h : Path P s t) (hP : ¬P .reservation) : t.reservation = s.reservation :=
  path_same (fun u v hmove => by
    cases hmove with
    | reservation l h => exact absurd h hP
    | _ => rfl) h

theorem path_cranes (h : Path P s t) (hP : ¬P .cranes) : t.cranes = s.cranes :=
  path_same (fun u v hmove => by
    cases hmove with
    | crane k g h => exact absurd h hP
    | _ => rfl) h

theorem path_custody (h : Path P s t) (hP : ¬P .custody) (k : Crane) : (t.crane k).custody = (s.crane k).custody :=
  path_same (φ := fun v => (v.crane k).custody) (fun u v hmove => by
    cases hmove with
    | crane j g h hg =>
      rw [State.updateCrane_crane]
      split
      · next hj => exact hj ▸ hg.resolve_left hP
      · rfl
    | _ => rfl) h

theorem path_laneDoubt (h : Path P s t) (hP : ¬P .laneDoubt) : t.laneDoubt = s.laneDoubt :=
  path_same (fun u v hmove => by
    cases hmove with
    | laneDoubt on h => exact absurd h hP
    | _ => rfl) h

theorem path_log (h : Path P s t) (hP : ¬P .log) : t.log = s.log ∧ t.logOverrun = s.logOverrun :=
  Prod.ext_iff.mp (path_same (φ := fun v => (v.log, v.logOverrun)) (fun u v hmove => by
    cases hmove with
    | log l o h => exact absurd h hP
    | _ => rfl) h)

theorem path_furnace (h : Path P s t) {f : Furnace} (hP : ¬P (.furnace f)) : t.furnace f = s.furnace f :=
  path_same (φ := fun v => v.furnace f) (fun u v hmove => by
    cases hmove with
    | furnace e g h =>
      have hne : f ≠ e := fun he => hP (he ▸ h)
      rw [State.updateFurnace_furnace, if_neg hne]
    | _ => rfl) h

theorem path_furnaces (h : Path P s t) (hP : ∀ f, ¬P (.furnace f)) : t.furnaces = s.furnaces :=
  path_same (fun u v hmove => by
    cases hmove with
    | furnace f g h => exact absurd h (hP f)
    | _ => rfl) h

/-- Only its notice set changes at a port that a path does not reach. -/
theorem path_port (h : Path P s t) {p : Port} (hP : ¬P (.port p)) : t.port p = { s.port p with notices := (t.port p).notices } := by
  have hsame := path_same (φ := fun v => { v.port p with notices := 0 }) (fun u v hmove => by
    cases hmove with
    | raise c q bit =>
      rw [State.raiseWhen_port]
      split
      · next hc => rw [hc.2.2]
      · rfl
    | port q g h =>
      have hne : p ≠ q := fun he => hP (he ▸ h)
      rw [State.updatePort_port, if_neg hne]
    | _ => rfl) h
  exact congrArg (fun q : PortState => { q with notices := (t.port p).notices }) hsame

theorem path_maps (h : Path P s t) (f : Furnace) : MapKept P (s.furnace f).rows (t.furnace f).rows := by
  induction h with
  | refl => exact .refl _
  | tail _ hmove ih =>
    refine ih.trans ?_
    cases hmove with
    | furnace e g h hg =>
      rw [State.updateFurnace_furnace]
      split
      · next he => exact he ▸ hg
      · exact .refl _
    | _ => exact .refl _

theorem path_register (h : Path P s t) (hP : ∀ id, ¬P (.newSlab id)) : RegisterKept P s.register t.register := by
  induction h with
  | refl => exact .refl _
  | tail _ hmove ih =>
    cases hmove with
    | register l h hl =>
      intro r₃ hr₃
      obtain ⟨r₂, hr₂, h₂₃⟩ := (hl r₃ hr₃).resolve_left (hP _)
      obtain ⟨r₁, hr₁, h₁₂⟩ := (ih r₂ hr₂).resolve_left (hP _)
      refine .inr ⟨r₁, hr₁, h₁₂.trans h₂₃ fun x ⟨o, ho, hox⟩ => ?_⟩
      obtain ⟨o', ho', hkept⟩ := (hl o ho).resolve_left (hP _)
      exact ⟨o', ho', hkept.id_eq.symm.trans hox⟩
    | _ => exact ih

theorem path_banks (h : Path P s t) (b : BankId) : (¬P .clearsFault → KeepsWorst (s.banks.get b) (t.banks.get b)) ∧
    (¬P .setsCounter → (s.banks.get b).counter ≤ (t.banks.get b).counter) := by
  induction h with
  | refl => exact ⟨fun _ => .refl _, fun _ => le_rfl⟩
  | @tail u v _ hmove ih =>
    obtain ⟨hworst, hcounter⟩ := ih
    have hstep : (¬P .clearsFault → KeepsWorst (u.banks.get b) (v.banks.get b)) ∧
        (¬P .setsCounter → (u.banks.get b).counter ≤ (v.banks.get b).counter) := by
      cases hmove with
      | bank e g hrecord hcount =>
        rw [State.updateBank_get]
        split
        · next he => exact ⟨he ▸ hrecord.resolve_left, he ▸ hcount.resolve_left⟩
        · exact ⟨fun _ => .refl _, fun _ => le_rfl⟩
      | _ => exact ⟨fun _ => .refl _, fun _ => le_rfl⟩
    exact ⟨fun h => (hworst h).trans (hstep.1 h), fun h => (hcounter h).trans (hstep.2 h)⟩

/-! ### What the rule of a request reaches -/

/-- What the rule of a request of kind `k` on port `p` can reach. -/
def Reaches (p : Port) (s : State) (k : Kind) : Part → Prop
  | .register | .doubtList | .lane => True
  | .newSlab id => k = .slabAnnounce ∧ s.live id = false
  | .newRow id => spotOf s id = some .doubt ∨ ∃ f, ∃ x ∈ (s.furnace f).op.slabs, x.1 = id
  | .sequence => portRole p = .crane ∨ k = .slabAnnounce ∨ k = .seqMove ∨ k = .seqWithdraw ∨ k = .slabResolve
  | .reservation => portRole p = .crane
  | .cranes => portRole p = .crane ∨ k = .seqWithdraw
  | .custody => portRole p = .crane
  | .laneDoubt => portRole p = .crane ∨ k = .confirmLane
  | .furnace f => p = .p0 ∨ portFurnace p = some f
  | .log => p = .p0 ∨ portRole p = .furnace
  | .port q => q = p
  | .clearsFault => k = .faultClear
  | .setsCounter => k = .thresholdSet

theorem role_of_crane {p : Port} {k : Crane} (h : portCrane p = some k) : portRole p = .crane := by
  cases p <;> first | rfl | cases h

theorem role_of_furnace {p : Port} {f : Furnace} (h : portFurnace p = some f) : portRole p = .furnace := by
  cases p <;> first | rfl | cases h

/-- A kind of the SUPV port alone. -/
theorem p0_of_supv {p : Port} {k : Kind} (hcrane : k.allowedTo .crane = false) (hfurnace : k.allowedTo .furnace = false)
    (hrole : k.allowedTo (portRole p) = true) : p = .p0 := by
  cases hp : portRole p with
  | supv => cases p <;> first | rfl | cases hp
  | crane => rw [hp, hcrane] at hrole; cases hrole
  | furnace => rw [hp, hfurnace] at hrole; cases hrole

theorem path_of_change {p : Port} {k : Kind} (hrole : k.allowedTo (portRole p) = true) (hc : Change p s k t)
    (hsetting : ¬Kind.changesSetting k) : Path (Reaches p s k) s t := by
  have hregister : Reaches p s k .register := trivial
  have hdoubt : Reaches p s k .doubtList := trivial
  have hlane : Reaches p s k .lane := trivial
  have hsupv : ∀ {e : Furnace}, p = .p0 → Reaches p s k (.furnace e) := fun h => .inl h
  cases hc with
  | kept => exact .refl
  | paramWrite | start | restart | clearAll | resetRecordClear => exact absurd (by simp [Kind.changesSetting]) hsetting
  | hello => exact path_hello s (P := Reaches p s .hello) rfl fun f hf => .inr hf
  | park => exact path_parkPort s (P := Reaches p s .park) rfl fun f hf => .inr hf
  | noticeClear kinds => exact path_updatePort s (P := Reaches p s .noticeClear) rfl _
  | noticeMask kinds => exact path_updatePort s (P := Reaches p s .noticeMask) rfl _
  | announce a r i hrun hpass =>
    exact path_createSlab s hregister (.inr (.inl rfl)) ⟨rfl, (announced_of_checks hpass).fresh⟩ i
  | move id position => exact .single (.sequence _ (.inr (.inr (.inl rfl))))
  | withdrawListed r => exact path_withdrawListed s hregister hdoubt (.inr (.inr (.inr (.inl rfl)))) r.id
  | withdrawPermitted r k => exact path_withdrawPermitted s hregister hdoubt (.inr (.inr (.inr (.inl rfl)))) (.inr rfl) r.id k
  | holdSet f => exact path_changeHold s (hsupv (p0_of_supv rfl rfl hrole)) _
  | holdRelease f => exact path_changeHold s (hsupv (p0_of_supv rfl rfl hrole)) _
  | dischargeTake n => exact .single (.log _ _ (.inl (p0_of_supv rfl rfl hrole)))
  | requeue id => exact path_requeue s hregister hdoubt (.inr (.inr (.inr (.inr rfl)))) id
  | toLaneTail id => exact (path_resolveTo s hregister hdoubt id _).trans (path_joinLaneTail _ hregister hlane id)
  | remove id => exact path_freeSlab s hregister hdoubt id
  | place id last q f hrun hplace hpass =>
    exact path_placeRow s (hsupv (p0_of_supv rfl rfl hrole)) hregister hdoubt
      (.inl ((placed_doubtful hplace hpass).1 _ (.head _))) _ q
  | removeRow f id row => exact path_removeRow s (hsupv (p0_of_supv rfl rfl hrole)) hregister hdoubt row
  | mapWalk f n => exact path_walk s (hsupv (p0_of_supv rfl rfl hrole)) n _
  | shiftRow f id rear => exact path_shiftRow s (hsupv (p0_of_supv rfl rfl hrole)) id rear
  | confirmFurnace f => exact path_updateFurnace s (hsupv (p0_of_supv rfl rfl hrole)) rfl
  | confirmLane => exact .single (.laneDoubt _ (.inr rfl))
  | faultClear b => exact .single (.bank b _ (.inl rfl) (.inr le_rfl))
  | thresholdSet b => exact .single (.bank b _ (.inr (.refl _)) (.inl rfl))
  | advisoryEnable b => exact .single (.bank b _ (.inr (.refl _)) (.inr le_rfl))
  | admissionStall k id => exact path_logFault s _ _ _ _
  | grant k r hk => exact path_grantPermit s hregister (.inl (role_of_crane hk)) k r.id
  | permitReturn k id hk => exact (path_undoPermit s hregister (.inl (role_of_crane hk)) k id).trans (path_logFault _ _ _ _ _)
  | lift k id hk => exact path_takeLift s hregister (.inl (role_of_crane hk)) (role_of_crane hk) k id
  | lateLift k id hk => exact (path_takeLift s hregister (.inl (role_of_crane hk)) (role_of_crane hk) k id).trans (path_logFault _ _ _ _ _)
  | lateLiftDoubt k id hk => exact path_lateLiftDoubt s hregister hdoubt (.inl (role_of_crane hk)) k id
  | setdown k id hk => exact .single (.reservation _ (role_of_crane hk))
  | depositInTurn k id hk =>
    exact path_depositInTurn s hregister (.inl (role_of_crane hk)) (role_of_crane hk) (.inl (role_of_crane hk)) hlane (role_of_crane hk) k id
  | depositOutOfTurn k id hk =>
    exact path_depositOutOfTurn s hregister (.inl (role_of_crane hk)) (role_of_crane hk) (.inl (role_of_crane hk)) hlane
      (.inl (role_of_crane hk)) k id
  | setAside k id hk => exact path_setAside s hregister (.inl (role_of_crane hk)) (role_of_crane hk) (role_of_crane hk) k id
  | chargeBegin f q hf => exact path_beginCharge s (.inr hf) hregister hlane q
  | lateEnd f => exact path_logFurnace s f _ _ _
  | chargeEnd f a b width planned hf hop =>
    have hmem : (a, if b.isSome then Side.left else .single) ∈ (s.furnace f).op.slabs := by
      rw [slabs_of_charging hop]; cases b <;> simp [slabsWithSides]
    exact path_endCharge s (.inr hf) hregister (.inr ⟨f, _, hmem, rfl⟩) b width
  | returned f a b width planned hf => exact path_returnCharge s (.inr hf) hregister hlane a b
  | stuck f a b width planned hf => exact path_giveUpCharge s (.inr hf) hregister hdoubt a b _ _ _
  | walkReport f n hf => exact (path_walk s (.inr hf) n _).trans (path_walkDuringCharge _ (.inr hf))
  | dischargeEmpty f => exact path_logFurnace s f _ _ _
  | dischargeMismatch f id hf => exact path_doubtFurnace s (.inr hf) _ _ _
  | discharge f r hf => exact path_dischargeFront s (.inr hf) hregister hdoubt (.inr (role_of_furnace hf)) r

end Frames

end Sys2Proof.Proofs

/-!
PROOFS. The paths of the events, and the rules of the whole part that follow from paths: what a port reaches (O13, O14), what keeps
the banks (O12), and what moves the mode and the running seconds (O11).
-/

namespace Sys2Proof.Proofs

open Sys2Proof Sys2Proof.Machine

section Events

variable {P : Part → Prop} {s t u : State}

/-! ### The events of the timers -/

theorem path_permitExpiry (s : State) (hr : P .register) (hc : P .cranes) (k : Crane) : Path P s (s.permitExpiry k) := by
  unfold State.permitExpiry
  split
  · exact (path_lapsePermit s hr hc k _ true).trans (path_settle s _)
  · exact .refl

theorem path_custodyExpiry (s : State) (hr : P .register) (hc : P .cranes) (k : Crane) : Path P s (s.custodyExpiry k) := by
  unfold State.custodyExpiry
  split
  · exact ((path_setPlace s hr _ _).trans (path_logFault _ _ _ _ _)).trans (path_craneTimers _ hc k rfl)
  · exact .refl

theorem path_chargeExpiry (s : State) {f : Furnace} (hf : P (.furnace f)) (hr : P .register) (hd : P .doubtList) :
    Path P s (s.chargeExpiry f) := by
  unfold State.chargeExpiry
  split
  · exact (path_giveUpCharge s hf hr hd _ _ _ _ _).trans (path_settle s _)
  · exact .refl

theorem path_silenceExpiry (s : State) {p : Port} (hp : P (.port p)) (hf : ∀ f, portFurnace p = some f → P (.furnace f))
    (hcrane : portRole p = .crane → P .register ∧ P .doubtList ∧ P .cranes ∧ P .custody ∧ P .sequence ∧ P .reservation) :
    Path P s (s.silenceExpiry p) := by
  have hloss : ∀ u : State, Path P u (u.roleLoss p) := fun u => by
    unfold State.roleLoss
    split
    · next k hk =>
      obtain ⟨hr, hd, hc, hy, hs, hv⟩ := hcrane (role_of_crane hk)
      exact path_craneLost u hr hd hc hy hs hv k
    · next f _ hpf =>
      exact path_ite ((path_changeHold u (hf f hpf) _).trans (path_doubtFurnace _ (hf f hpf) _ _ _)) .refl
    · exact .refl
  unfold State.silenceExpiry
  split
  · exact ((((path_updatePort s hp _).trans (path_logFault _ _ _ _ _)).trans (path_raiseWhen _ _ _ _)).trans (hloss _)).trans
      (path_settle s _)
  · exact .refl

/-- R116: within its bound the residence of a row does not fall. -/
theorem path_ageMap (s : State) {f : Furnace} (hf : P (.furnace f))
    (hbound : ∀ r ∈ (s.furnace f).rows, r.residence ≤ Config.maxResidence) : Path P s (s.ageMap f) :=
  (Relation.ReflTransGen.single (Move.furnace f (fun m => { m with rows := m.rows.map Row.aged }) hf fun r' hr' => by
    obtain ⟨r, hr, rfl⟩ := List.mem_map.mp hr'
    exact .inr ⟨r, hr, rfl, rfl, rfl, rfl, le_min (hbound r hr) (Nat.le_succ _), fun h => h⟩)).trans (path_soakCheck _ hf)

theorem ageMap_furnace (s : State) {f g : Furnace} (h : g ≠ f) : (s.ageMap f).furnace g = s.furnace g := by
  rw [State.ageMap, State.soakCheck, State.raiseWhen_furnace, State.updateFurnace_furnace, if_neg h, State.updateFurnace_furnace,
    if_neg h]

theorem path_advanceSeconds (s : State) (hf : ∀ f, P (.furnace f))
    (hbound : ∀ f, ∀ r ∈ (s.furnace f).rows, r.residence ≤ Config.maxResidence) :
    Path P { s with runningSeconds := s.runningSeconds + 1 } s.advanceSeconds := by
  refine ((path_ageMap { s with runningSeconds := s.runningSeconds + 1 } (hf .f1) (hbound .f1)).trans (path_ageMap _ (hf .f2) ?_)).trans (path_ageMap _ (hf .f3) ?_)
  · rw [ageMap_furnace _ (by decide)]
    exact hbound .f2
  · rw [ageMap_furnace _ (by decide), ageMap_furnace _ (by decide)]
    exact hbound .f3

/-! ### The effect of a command on a port -/

theorem path_of_answer {p : Port} {k : Kind} (body : List Byte) (hrole : k.allowedTo (portRole p) = true)
    (hk : ¬Kind.changesSetting k) : Path (Reaches p s k) s (answered p (ruleOf p body k s)) := by
  have hanswer : ∀ x : State × Response, Path (Reaches p s k) x.1 (answered p x) := fun x =>
    path_updatePort x.1 (P := Reaches p s k) rfl fun q => { q with exchange := .responseReady x.2.frame }
  refine Relation.ReflTransGen.trans ?_ (hanswer _)
  have hresult := result_of_ruleOf p k body s hrole
  generalize (ruleOf p body k s).1 = u at hresult
  cases hresult with
  | plain hchange => exact path_of_change hrole hchange hk
  | settled hchange => exact (path_of_change hrole hchange hk).trans (path_settle s _)

theorem path_of_machine {p : Port} {g : PortState → PortState} (hp : P (.port p)) (hu : LinkLogged s p u) :
    Path P s (u.updatePort p g) := by
  refine Relation.ReflTransGen.trans ?_ (path_updatePort u hp g)
  rcases hu with rfl | ⟨code, rfl⟩
  · exact .refl
  · exact path_logFault s _ _ _ _

theorem path_of_portEffect {c : Instr} {p : Port} (he : Effect c s t) (hport : commandPort c = some p) (hp : p ≠ .p0) :
    ∃ k : Kind, k.allowedTo (portRole p) = true ∧ Path (Reaches p s k) s t := by
  cases he with
  | nothing => exact ⟨.hello, rfl, .refl⟩
  | powerOn hc | lossOfPower hc | seconds hc | permitExpiry k hc | custodyExpiry k hc | chargeExpiry f hc =>
    subst hc; cases hport
  | silenceExpiry q hc =>
    subst hc
    cases hport
    exact ⟨.hello, rfl, path_silenceExpiry s (P := Reaches p s .hello) rfl (fun f hf => .inr hf)
      fun hcrane => ⟨trivial, trivial, .inl hcrane, hcrane, .inl hcrane, hcrane⟩⟩
  | machine q u g hc hq hu =>
    obtain rfl := Option.some_injective _ (hc.symm.trans hport)
    exact ⟨.hello, rfl, path_of_machine (P := Reaches q s .hello) rfl hu⟩
  | answer q k body hc hcport hw hq hrole =>
    obtain rfl := Option.some_injective _ (hcport.symm.trans hport)
    exact ⟨k, hrole, path_of_answer body hrole fun hk => hp (p0_of_changesSetting hk hrole)⟩

end Events

/-- Settles O13: the parts that a path on a crane port reaches. -/
theorem cranePortsReachNoFurnace : Obligations.CranePortsReachNoFurnace := by
  unfold Obligations.CranePortsReachNoFurnace
  intro c p s t hport hcrane hexec
  have hp0 : p ≠ .p0 := fun h => by subst h; cases hcrane
  have hfurnace : ∀ f, portFurnace p ≠ some f := fun f hf => by rw [role_of_furnace hf] at hcrane; cases hcrane
  obtain ⟨k, -, hpath⟩ := path_of_portEffect (effect_of_exec hexec) hport hp0
  have hsetting := path_setting hpath
  obtain ⟨hlog, hoverrun⟩ := path_log hpath fun h => h.elim hp0 fun hf => by rw [hcrane] at hf; cases hf
  exact ⟨path_furnaces hpath fun f h => h.elim hp0 (hfurnace f), hlog, hoverrun, params_of_setting hsetting, mode_of_setting hsetting,
    congrArg Setting.resetRecord hsetting, congrArg Setting.runningSeconds hsetting, fun q hq => path_port hpath hq⟩

/-- Settles O14: the parts that a path on the port of a furnace reaches. -/
theorem furnacePortsReachTheirFurnaceAlone : Obligations.FurnacePortsReachTheirFurnaceAlone := by
  unfold Obligations.FurnacePortsReachTheirFurnaceAlone
  intro c p f s t hport hf hexec
  have hrole := role_of_furnace hf
  have hp0 : p ≠ .p0 := fun h => by subst h; cases hf
  have hcrane : portRole p ≠ .crane := fun h => by rw [h] at hrole; cases hrole
  obtain ⟨k, hallowed, hpath⟩ := path_of_portEffect (effect_of_exec hexec) hport hp0
  rw [hrole] at hallowed
  have hsetting := path_setting hpath
  refine ⟨fun g hg => path_furnace hpath fun h => h.elim hp0 fun hpg => hg ?_, path_sequence hpath ?_, path_cranes hpath ?_,
    path_reservation hpath hcrane, path_laneDoubt hpath ?_, params_of_setting hsetting, mode_of_setting hsetting,
    congrArg Setting.resetRecord hsetting, congrArg Setting.runningSeconds hsetting, fun q hq => path_port hpath hq⟩
  · exact Option.some_injective _ (hpg.symm.trans hf)
  · rintro (h | rfl | rfl | rfl | rfl)
    · exact hcrane h
    all_goals cases hallowed
  · rintro (h | rfl)
    · exact hcrane h
    · cases hallowed
  · rintro (h | rfl)
    · exact hcrane h
    · cases hallowed

end Sys2Proof.Proofs

/-!
PROOFS. The mode, the running seconds, the queue and the fault banks through every command (O3, O11, O12).
-/

namespace Sys2Proof.Proofs

open Sys2Proof Sys2Proof.Machine

section Settings

variable {s t u : State}

/-! ### Start-up and the setting (R181) -/

theorem setting_startUp (hwritten : s.storeWritten = true) (keepSel : Bool) :
    setting (s.startUp keepSel) = { setting s with subSecond := 0 } := by
  have hcold : (s.coldStart keepSel).storeWritten = true := hwritten
  unfold State.startUp
  dsimp only
  rw [hcold, Bool.not_true, if_neg Bool.false_ne_true]
  split
  · rfl
  · rw [setting_recover]; rfl

theorem startUp_pending (s : State) (keepSel : Bool) : (s.startUp keepSel).pending = s.pending := by
  cases hwritten : s.storeWritten with
  | true => exact congrArg Setting.pending (setting_startUp hwritten keepSel)
  | false =>
    have hcold : (s.coldStart keepSel).storeWritten = false := hwritten
    unfold State.startUp
    dsimp only
    rw [hcold, Bool.not_false, if_pos rfl]
    rfl

/-! ### The queue (O3) -/

theorem pending_of_change {p : Port} {k : Kind} (hc : Change p s k t) : t.pending = s.pending := by
  rcases setting_of_change hc with h | h
  · exact pending_of_setting h
  · rcases h with rfl | rfl | rfl | rfl | rfl <;> cases hc <;> first | rfl | exact startUp_pending s true

theorem pending_of_effect {c : Instr} (he : Effect c s t) : t.pending = s.pending := by
  cases he with
  | nothing => rfl
  | powerOn => exact startUp_pending s false
  | lossOfPower => rfl
  | seconds => exact congrArg Setting.pending (setting_advanceSeconds s)
  | permitExpiry k => exact pending_of_setting (setting_permitExpiry s k)
  | custodyExpiry k => exact pending_of_setting (setting_custodyExpiry s k)
  | chargeExpiry f => exact pending_of_setting (setting_chargeExpiry s f)
  | silenceExpiry p => exact pending_of_setting (setting_silenceExpiry s p)
  | machine p u g hc hp hu => exact pending_of_setting ((setting_updatePort u p g).trans (setting_of_linkLogged hu))
  | answer p k body hc hport hw hp hrole =>
    change (ruleOf p body k s).1.pending = _
    have hresult := result_of_ruleOf p k body s hrole
    generalize (ruleOf p body k s).1 = u at hresult
    cases hresult with
    | plain hchange => exact pending_of_change hchange
    | settled hchange => rw [settle_pending]; exact pending_of_change hchange

/-- A command answers a next state; without power only POWER_ON acts. -/
theorem exec_next (c : Instr) (s : State) : ∃ t, exec c s = .next t ∧ (s.powered = false → c ≠ .powerOn → t = s) := by
  cases hreq : asRequest c with
  | some r =>
    obtain ⟨p, k, body⟩ := r
    rw [exec_of_asRequest hreq]
    exact ⟨_, rfl, fun hw _ => by rw [hw, Bool.false_and, if_neg Bool.false_ne_true]⟩
  | none =>
    cases c with
    | powerOn => exact ⟨_, rfl, fun _ hne => absurd rfl hne⟩
    | lossOfPower | runningSecondsAdvance | permitTimerExpiry | custodyTimerExpiry | chargeTimerExpiry | silenceTimerExpiry | selAssert
    | frameEnd | processingEnd | frameWhileBusy | readout | responseDiscarded | readoutEnd => exact ⟨_, rfl, fun hw _ => by rw [hw, if_neg Bool.false_ne_true]⟩
    | _ => cases hreq

/-! ### The mode and the running seconds (O11) -/

/-- R179, R181, R182: what the requests that change the setting do to the mode and to the running seconds. -/
theorem modes_of_result {p : Port} {k : Kind} (hwritten : s.storeWritten = true) (hr : RuleResult p s k u) :
    (s.mode = .run → u.mode = .config → k = .clearAll) ∧ (s.mode = .config → u.mode = .run → k = .start) ∧
      u.runningSeconds = s.runningSeconds := by
  have hkept : ∀ {v : State}, v.mode = s.mode → v.runningSeconds = s.runningSeconds →
      (s.mode = .run → v.mode = .config → k = .clearAll) ∧ (s.mode = .config → v.mode = .run → k = .start) ∧
        v.runningSeconds = s.runningSeconds := fun hm hseconds =>
    ⟨fun hs hv => (by rw [hm, hs] at hv; cases hv), fun hs hv => (by rw [hm, hs] at hv; cases hv), hseconds⟩
  have hchange : ∀ {v : State}, Change p s k v → (s.mode = .run → v.mode = .config → k = .clearAll) ∧
      (s.mode = .config → v.mode = .run → k = .start) ∧ v.runningSeconds = s.runningSeconds := fun {v} hc => by
    rcases setting_of_change hc with h | hk
    · exact hkept (mode_of_setting h) (congrArg Setting.runningSeconds h)
    · rcases hk with rfl | rfl | rfl | rfl | rfl
      · cases hc <;> exact hkept (by simp [State.writeParam]) (by simp [State.writeParam])
      · cases hc with
        | start hconfig => exact ⟨fun hs => (by rw [hconfig] at hs; cases hs), fun _ _ => rfl, rfl⟩
        | _ => exact hkept (by simp) (by simp)
      · cases hc with
        | restart =>
          have hsetting := setting_startUp hwritten true
          exact hkept (congrArg Setting.mode hsetting) (congrArg Setting.runningSeconds hsetting)
        | _ => exact hkept (by simp) (by simp)
      · cases hc with
        | clearAll => exact ⟨fun _ _ => rfl, fun _ hv => (by cases hv), rfl⟩
        | _ => exact hkept (by simp) (by simp)
      · cases hc <;> exact hkept (by simp) (by simp)
  cases hr with
  | plain hc => exact hchange hc
  | settled hc => simpa using hchange hc

theorem asRequest_start {c : Instr} {p : Port} {body : List Byte} (h : asRequest c = some (p, .start, body)) : c = .start p body := by
  cases c <;> cases h
  rfl

theorem asRequest_clearAll {c : Instr} {p : Port} {body : List Byte} (h : asRequest c = some (p, .clearAll, body)) :
    c = .clearAll p body := by
  cases c <;> cases h
  rfl

theorem asRequest_restart {c : Instr} {p : Port} {body : List Byte} (h : asRequest c = some (p, .restart, body)) :
    c = .restart p body := by
  cases c <;> cases h
  rfl

theorem asRequest_faultClear {c : Instr} {p : Port} {body : List Byte} (h : asRequest c = some (p, .faultClear, body)) :
    c = .faultClear p body := by
  cases c <;> cases h
  rfl

theorem asRequest_thresholdSet {c : Instr} {p : Port} {body : List Byte} (h : asRequest c = some (p, .thresholdSet, body)) :
    c = .thresholdSet p body := by
  cases c <;> cases h
  rfl

/-- R182: CLEAR_ALL with a body changes nothing but its answer. -/
theorem ruleClearAll_body {body : List Byte} (h : body ≠ []) : (ruleClearAll body s).1 = s := by
  rw [ruleClearAll, if_pos (by simpa using h)]; rfl

/-- R179: START with a body changes nothing but its answer. -/
theorem ruleStart_body {body : List Byte} (h : body ≠ []) : (ruleStart body s).1 = s := by
  rw [ruleStart, if_pos (by simpa using h)]; rfl

/-! ### The banks (O12) -/

/-- R156, R158: the bank `b` of `t` holds no less than that of `s`, but for what `P` allows. -/
theorem banks_of_sameBanks (h : t.banks = s.banks) (b : BankId) :
    KeepsWorst (s.banks.get b) (t.banks.get b) ∧ (s.banks.get b).counter ≤ (t.banks.get b).counter :=
  h ▸ ⟨.refl _, le_rfl⟩

theorem banks_advanceSeconds (s : State) : s.advanceSeconds.banks = s.banks := by
  simp [State.advanceSeconds, State.ageMap]

/-- Every part but the two that lower a bank. -/
def AllButBanks : Part → Prop
  | .clearsFault | .setsCounter => False
  | _ => True

theorem banks_of_effect {c : Instr} (he : Effect c s t) (hpower : c ≠ .powerOn) (hloss : c ≠ .lossOfPower)
    (hrestart : ∀ p body, ¬Requests c s p .restart body) (b : BankId) :
    ((∀ p body, ¬Requests c s p .faultClear body) → KeepsWorst (s.banks.get b) (t.banks.get b)) ∧
    ((∀ p body, ¬Requests c s p .thresholdSet body) → (s.banks.get b).counter ≤ (t.banks.get b).counter) := by
  have hsame : t.banks = s.banks → ((∀ p body, ¬Requests c s p .faultClear body) → KeepsWorst (s.banks.get b) (t.banks.get b)) ∧
      ((∀ p body, ¬Requests c s p .thresholdSet body) → (s.banks.get b).counter ≤ (t.banks.get b).counter) := fun h =>
    ⟨fun _ => (banks_of_sameBanks h b).1, fun _ => (banks_of_sameBanks h b).2⟩
  have hpath : Path AllButBanks s t → ((∀ p body, ¬Requests c s p .faultClear body) → KeepsWorst (s.banks.get b) (t.banks.get b)) ∧
      ((∀ p body, ¬Requests c s p .thresholdSet body) → (s.banks.get b).counter ≤ (t.banks.get b).counter) := fun h =>
    ⟨fun _ => (path_banks h b).1 fun h => h, fun _ => (path_banks h b).2 fun h => h⟩
  cases he with
  | nothing => exact hsame rfl
  | powerOn hc => exact absurd hc hpower
  | lossOfPower hc => exact absurd hc hloss
  | seconds => exact hsame (banks_advanceSeconds s)
  | permitExpiry k => exact hpath (path_permitExpiry s trivial trivial k)
  | custodyExpiry k => exact hpath (path_custodyExpiry s trivial trivial k)
  | chargeExpiry f => exact hpath (path_chargeExpiry s trivial trivial trivial)
  | silenceExpiry p => exact hpath (path_silenceExpiry s trivial (fun _ _ => trivial) fun _ => ⟨trivial, trivial, trivial, trivial, trivial, trivial⟩)
  | machine p u g hc hp hu => exact hpath (path_of_machine trivial hu)
  | answer p k body hc hport hw hp hrole =>
    by_cases hk : Kind.changesSetting k
    · refine hsame ?_
      change (ruleOf p body k s).1.banks = s.banks
      have hresult := result_of_ruleOf p k body s hrole
      generalize (ruleOf p body k s).1 = u at hresult
      have hchange : ∀ {v : State}, Change p s k v → v.banks = s.banks := fun {v} hchange => by
        cases hchange with
        | kept | paramWrite | start | clearAll | resetRecordClear => rfl
        | restart => exact absurd hc (hrestart p body)
        | lateEnd f k' hf hor => rcases hor with rfl | rfl <;> simp [Kind.changesSetting] at hk
        | _ => simp [Kind.changesSetting] at hk
      cases hresult with
      | plain h => exact hchange h
      | settled h => rw [settle_banks]; exact hchange h
    · have hanswer := path_of_answer body (s := s) hrole hk
      exact ⟨fun h => (path_banks hanswer b).1 fun hclear => h p body (hclear ▸ hc),
        fun h => (path_banks hanswer b).2 fun hset => h p body (hset ▸ hc)⟩

end Settings

/-- Settles O3: every command is a request or an event, and its effect leaves the queue. -/
theorem everyCommandKeepsQueue : Obligations.EveryCommandKeepsQueue := by
  unfold Obligations.EveryCommandKeepsQueue
  intro c s
  obtain ⟨t, ht, hw⟩ := exec_next c s
  exact ⟨t, ht, pending_of_effect (effect_of_exec ht), hw⟩

/-- Settles O11: of all effects only the answers to START and CLEAR_ALL change the mode, and only the advance the seconds. -/
theorem modeAndSecondsHaveOneCause : Obligations.ModeAndSecondsHaveOneCause := by
  unfold Obligations.ModeAndSecondsHaveOneCause
  intro c s t hwritten hexec
  have hkept : t.mode = s.mode →
      (s.mode = .run → t.mode = .config → c = .clearAll .p0 [] ∨ processes c s .p0 .clearAll) ∧
      (s.mode = .config → t.mode = .run → c = .start .p0 [] ∨ processes c s .p0 .start) := fun hm =>
    ⟨fun hs ht => (by rw [hm, hs] at ht; cases ht), fun hs ht => (by rw [hm, hs] at ht; cases ht)⟩
  have hsame : setting t = setting s →
      (s.mode = .run → t.mode = .config → c = .clearAll .p0 [] ∨ processes c s .p0 .clearAll) ∧
      (s.mode = .config → t.mode = .run → c = .start .p0 [] ∨ processes c s .p0 .start) ∧
      (t.runningSeconds = s.runningSeconds ∨ (c = .runningSecondsAdvance ∧ t.runningSeconds = s.runningSeconds + 1)) := fun h => by
    obtain ⟨hrun, hconfig⟩ := hkept (mode_of_setting h)
    exact ⟨hrun, hconfig, .inl (congrArg Setting.runningSeconds h)⟩
  cases effect_of_exec hexec with
  | nothing => exact hsame rfl
  | powerOn =>
    have hsetting := setting_startUp hwritten false
    obtain ⟨hrun, hconfig⟩ := hkept (congrArg Setting.mode hsetting)
    exact ⟨hrun, hconfig, .inl (congrArg Setting.runningSeconds hsetting)⟩
  | lossOfPower =>
    obtain ⟨hrun, hconfig⟩ := hkept rfl
    exact ⟨hrun, hconfig, .inl rfl⟩
  | seconds hc =>
    have hsetting := setting_advanceSeconds s
    obtain ⟨hrun, hconfig⟩ := hkept (congrArg Setting.mode hsetting)
    exact ⟨hrun, hconfig, .inr ⟨hc, congrArg Setting.runningSeconds hsetting⟩⟩
  | permitExpiry k => exact hsame (setting_permitExpiry s k)
  | custodyExpiry k => exact hsame (setting_custodyExpiry s k)
  | chargeExpiry f => exact hsame (setting_chargeExpiry s f)
  | silenceExpiry p => exact hsame (setting_silenceExpiry s p)
  | machine p u g hc hp hu => exact hsame ((setting_updatePort u p g).trans (setting_of_linkLogged hu))
  | answer p k body hc hport hw hp hrole =>
    have hresult := result_of_ruleOf p k body s hrole
    have hmode : (answered p (ruleOf p body k s)).mode = (ruleOf p body k s).1.mode := rfl
    have hseconds : (answered p (ruleOf p body k s)).runningSeconds = (ruleOf p body k s).1.runningSeconds := rfl
    obtain ⟨hclear, hstart, hkeeps⟩ := modes_of_result hwritten hresult
    rw [hmode, hseconds]
    refine ⟨fun hs ht => ?_, fun hs ht => ?_, .inl hkeeps⟩
    · obtain rfl := hclear hs ht
      obtain rfl : p = .p0 := p0_of_supv rfl rfl hrole
      rcases hc with hrow | hframe
      · obtain rfl := asRequest_clearAll hrow
        have hbody : body = [] := by
          by_contra hne
          have hnoop : (ruleOf .p0 body .clearAll s).1 = s := ruleClearAll_body hne
          rw [hnoop, hs] at ht
          cases ht
        exact .inl (hbody ▸ rfl)
      · exact .inr hframe
    · obtain rfl := hstart hs ht
      obtain rfl : p = .p0 := p0_of_supv rfl rfl hrole
      rcases hc with hrow | hframe
      · obtain rfl := asRequest_start hrow
        have hbody : body = [] := by
          by_contra hne
          have hnoop : (ruleOf .p0 body .start s).1 = s := ruleStart_body hne
          rw [hnoop, hs] at ht
          cases ht
        exact .inl (hbody ▸ rfl)
      · exact .inr hframe

/-- Settles O12: no move of a path lowers a bank, but for the two that FAULT_CLEAR and THRESHOLD_SET make. -/
theorem banksKeepTheWorstFault : Obligations.BanksKeepTheWorstFault := by
  unfold Obligations.BanksKeepTheWorstFault
  intro c s t b hexec hpower hloss hrestart hnoRestart
  obtain ⟨hworst, hcounter⟩ := banks_of_effect (effect_of_exec hexec) hpower hloss (fun p body hc =>
    hc.elim (fun hrow => hrestart p body (asRequest_restart hrow)) (hnoRestart p)) b
  exact ⟨fun hrow hframe => hworst fun p body hc => hc.elim (fun h => hrow p body (asRequest_faultClear h)) (hframe p),
    fun hrow hframe => hcounter fun p body hc => hc.elim (fun h => hrow p body (asRequest_thresholdSet h)) (hframe p)⟩

end Sys2Proof.Proofs

/-!
PROOFS. The set-down reservation, the rows and the records through every step (O7, O9, O10).
-/

namespace Sys2Proof.Proofs

open Sys2Proof Sys2Proof.Machine

section Start

variable {P : Part → Prop} {s t u : State}

/-! ### The path of recovery (R181) -/

theorem path_recover (s : State) (hr : P .register) (hd : P .doubtList) (hs : P .sequence) (hl : P .laneDoubt)
    (hf : ∀ f, P (.furnace f)) : Path P s s.recover := by
  have hpermits : Path P s s.recoverPermits := path_foldl (fun u id => by
    split
    · exact (path_setPlace u hr id _).trans (path_dissolvePair _ hr id)
    · exact .refl) s.sequence s
  have hcustody : ∀ u : State, Path P u u.recoverCustody := fun u => path_foldl (fun v id => by
    split
    · exact (path_leaveSequence v hs id).trans (path_makeDoubtful _ hr hd id _)
    · exact .refl) u.sequence u
  have hentry : ∀ (u : State) (f : Furnace), Path P u (u.recoverEntry f) := fun u f => by
    rw [recoverEntry_eq]
    exact (path_foldl (g := fun v (x : SlabId × Side) => v.makeDoubtful x.1 (.atEntry f x.2))
      (fun v x => path_makeDoubtful v hr hd x.1 _) (u.furnace f).op.slabs u).trans (path_updateFurnace _ (hf f) rfl)
  have hdoubt : ∀ (u : State) (f : Furnace), Path P u (u.recoverDoubt f) := fun u f =>
    path_ite .refl ((path_updateFurnace u (hf f) rfl).trans (path_logFurnace _ _ _ _ _))
  have hmoved := (((hpermits.trans (hcustody _)).trans (hentry _ .f1)).trans (hentry _ .f2)).trans (hentry _ .f3)
  exact ((((hmoved.tail (.laneDoubt true hl)).trans (path_logFault _ _ _ _ _)).trans (hdoubt _ .f1)).trans (hdoubt _ .f2)).trans
    (hdoubt _ .f3)

/-- What recovery reaches. -/
def RecoveryParts : Part → Prop
  | .register | .doubtList | .sequence | .laneDoubt | .furnace _ => True
  | _ => False

theorem recovery_path (s : State) : Path RecoveryParts s s.recover := path_recover s trivial trivial trivial trivial fun _ => trivial

/-- R181: start-up ends with nothing tracked, with what was retained as it stood, or with what recovery makes of it. -/
theorem startUp_cases (s : State) (keepSel : Bool) :
    ((s.startUp keepSel).register = [] ∧ (∀ f, ((s.startUp keepSel).furnace f).rows = []) ∧ (s.startUp keepSel).reservation = none) ∨
    Path RecoveryParts (s.coldStart keepSel) (s.startUp keepSel) := by
  unfold State.startUp
  dsimp only
  split
  · exact .inl ⟨rfl, fun f => by cases f <;> rfl, rfl⟩
  · split
    · exact .inr .refl
    · exact .inr (recovery_path _)

theorem startUp_reservation (s : State) (keepSel : Bool) : (s.startUp keepSel).reservation = none := by
  rcases startUp_cases s keepSel with ⟨-, -, h⟩ | h
  · exact h
  · exact path_reservation h fun h => h

end Start

section Reservations

variable {s t u : State}

/-! ### The reservation (O7) -/

/-- The parts that the reservation law does not read. -/
def BesidesReservation : Part → Prop
  | .sequence | .reservation | .custody => False
  | _ => True

theorem reservation_of_none (h : t.reservation = none) : ReservationSound t := fun v hv => by rw [h] at hv; cases hv

theorem reservation_of_kept (h : ReservationSound s) (hreservation : t.reservation = s.reservation)
    (hsequence : ∀ v, s.reservation = some v → s.sequence.head? = some v.slab → t.sequence.head? = some v.slab)
    (hcustody : ∀ v, s.reservation = some v → (t.crane v.crane).custody = (s.crane v.crane).custody) : ReservationSound t :=
  fun v hv => by
    rw [hreservation] at hv
    obtain ⟨hholds, hhead⟩ := h v hv
    exact ⟨(hcustody v hv).trans hholds, hsequence v hv hhead⟩

/-- A path that reaches neither the sequence nor custody nor the reservation. -/
theorem reservation_of_path {P : Part → Prop} (h : ReservationSound s) (hpath : Path P s t) (hs : ¬P .sequence) (hv : ¬P .reservation)
    (hy : ¬P .custody) : ReservationSound t :=
  reservation_of_kept h (path_reservation hpath hv) (fun _ _ hhead => (path_sequence hpath hs).symm ▸ hhead)
    fun v _ => path_custody hpath hy v.crane

theorem reservation_of_quietPath (h : ReservationSound s) (hpath : Path BesidesReservation s t) : ReservationSound t :=
  reservation_of_path h hpath (fun h => h) (fun h => h) fun h => h

theorem reservation_of_sameBooks (h : ReservationSound s) (hb : SameBooks s t) : ReservationSound t :=
  reservation_of_kept h hb.reservation (fun _ _ hhead => hb.sequence.symm ▸ hhead) fun _ _ => by
    rw [State.crane, hb.cranes]; rfl

/-- R23: a LIFTED head is fixed, so that the fixed span is not empty. -/
theorem fixedSpan_pos (hlifted : ∃ k o, s.place? x = some (.lifted k o)) (hhead : s.sequence.head? = some x) : 0 < s.fixedSpan := by
  obtain ⟨k, o, hplace⟩ := hlifted
  obtain ⟨r, hr, hpl⟩ := place?_eq_some.mp hplace
  have hfixed : s.fixedInPlace x = true := by simp [State.fixedInPlace, hr, hpl, Place.isLifted]
  obtain ⟨rest, hseq⟩ := List.head?_eq_some_iff.mp hhead
  rw [State.fixedSpan, hseq, spanThrough, hfixed, if_pos rfl]
  split <;> omega

theorem not_head_of_unfixed {x y : SlabId} (hlifted : ∃ k o, s.place? x = some (.lifted k o)) (hhead : s.sequence.head? = some x)
    (hy : s.isFixed y = false) : y ≠ x := fun he => by
  obtain ⟨rest, hseq⟩ := List.head?_eq_some_iff.mp hhead
  have hpos := fixedSpan_pos hlifted hhead
  rw [State.isFixed, he, hseq, List.idxOf_cons_self] at hy
  exact of_decide_eq_false hy hpos

/-- An entry that joins behind the head leaves it at the head. -/
theorem head_of_join {l : List SlabId} {x y : SlabId} (hhead : l.head? = some x) {i : Nat} (hi : 0 < i) :
    (l.take i ++ y :: l.drop i).head? = some x := by
  obtain ⟨rest, rfl⟩ := List.head?_eq_some_iff.mp hhead
  obtain ⟨j, rfl⟩ := Nat.exists_eq_add_of_lt hi
  simp

theorem head_of_filter {l : List SlabId} {x id : SlabId} (hhead : l.head? = some x) (hne : x ≠ id) :
    (l.filter fun y => y != id).head? = some x := by
  obtain ⟨rest, rfl⟩ := List.head?_eq_some_iff.mp hhead
  rw [List.filter_cons_of_pos (by simpa using hne)]
  rfl

theorem idxOf_pos {l : List SlabId} {x y : SlabId} (hhead : l.head? = some x) (hne : y ≠ x) : 0 < l.idxOf y := by
  obtain ⟨rest, rfl⟩ := List.head?_eq_some_iff.mp hhead
  rw [List.idxOf_cons_ne _ hne.symm]
  exact Nat.succ_pos _

theorem head_of_moved {l : List SlabId} {x id position : Nat} (hhead : l.head? = some x) (hid : id ≠ x)
    (hposition : position = 0 ∨ position ≠ x) : (movedOrder l id position).head? = some x := by
  unfold movedOrder
  split
  · exact hhead
  · have hrest := head_of_filter hhead hid.symm
    refine head_of_join hrest ?_
    split
    · obtain ⟨rest, hseq⟩ := List.head?_eq_some_iff.mp hrest
      rw [hseq]
      exact Nat.succ_pos _
    · next hzero => exact idxOf_pos hrest (hposition.resolve_left hzero)

/-- R73: the slab of a reservation is LIFTED. -/
theorem reserved_lifted (hl : Ledger s) (h : ReservationSound s) {v : Reservation} (hv : s.reservation = some v) :
    ∃ o, s.place? v.slab = some (.lifted v.crane o) := hl.custody v.crane v.slab (h v hv).1

/-- A slab that leaves the sequence and is not LIFTED is not the reserved one. -/
theorem reservation_of_leave (hl : Ledger s) (h : ReservationSound s) {id : SlabId} {pl : Place} (hplace : s.place? id = some pl)
    (hpl : ∀ k o, pl ≠ .lifted k o) (hreservation : t.reservation = s.reservation)
    (hsequence : t.sequence = s.sequence.filter fun x => x != id) (hcustody : ∀ k, (t.crane k).custody = (s.crane k).custody) :
    ReservationSound t := by
  refine reservation_of_kept h hreservation (fun v hv hhead => ?_) fun v _ => hcustody v.crane
  rw [hsequence]
  refine head_of_filter hhead fun he => ?_
  obtain ⟨o, ho⟩ := reserved_lifted hl h hv
  rw [he, hplace] at ho
  exact hpl _ _ (Option.some_injective _ ho)

/-- R76, R77, R78, R80: the custody of a crane ends, and with it a reservation of that crane. -/
theorem reservation_of_end (hl : Ledger s) (h : ReservationSound s) {k : Crane} {id : SlabId} (hcustody : (s.crane k).custody = some id)
    (hreservation : ∀ v, t.reservation = some v → s.reservation = some v ∧ v.crane ≠ k)
    (hsequence : t.sequence = s.sequence ∨ t.sequence = s.sequence.filter fun x => x != id)
    (hcranes : ∀ j, j ≠ k → (t.crane j).custody = (s.crane j).custody) : ReservationSound t := fun v hv => by
  obtain ⟨hv, hne⟩ := hreservation v hv
  obtain ⟨hholds, hhead⟩ := h v hv
  refine ⟨(hcranes _ hne).trans hholds, ?_⟩
  rcases hsequence with hs | hs
  · rw [hs]; exact hhead
  · rw [hs]
    refine head_of_filter hhead fun he => hne ?_
    obtain ⟨o, ho⟩ := reserved_lifted hl h hv
    obtain ⟨o', ho'⟩ := hl.custody k id hcustody
    rw [he, ho'] at ho
    cases ho
    rfl

theorem releaseReservation_some {k : Crane} {v : Reservation} (hv : (s.releaseReservation k).reservation = some v) :
    s.reservation = some v ∧ v.crane ≠ k := by
  change (if s.holdsReservation k = true then none else s.reservation) = some v at hv
  split at hv
  · cases hv
  · next hnot =>
    refine ⟨hv, fun he => hnot ?_⟩
    rw [State.holdsReservation, hv]
    simpa using he

theorem custody_of_timers (s : State) (k j : Crane) (g : CraneState → CraneState) (hg : ∀ c, (g c).custody = c.custody) :
    ((s.updateCrane k g).crane j).custody = (s.crane j).custody := by
  rw [State.updateCrane_crane]
  split
  · next h => rw [hg, h]
  · rfl

theorem reservation_of_withdrawListed (hl : Ledger s) (h : ReservationSound s) {id : SlabId} {pl : Place}
    (hplace : s.place? id = some pl) (hpl : ∀ k o, pl ≠ .lifted k o) : ReservationSound (s.withdrawListed id) :=
  reservation_of_leave hl h hplace hpl rfl rfl fun _ => rfl

theorem reservation_of_depositInTurn (hl : Ledger s) (h : ReservationSound s) {k : Crane} {id : SlabId}
    (hcustody : (s.crane k).custody = some id) (hhead : s.sequence.head? = some id) : ReservationSound (s.depositInTurn k id) := by
  have hjoined : ∀ u : State, u.sequence = s.sequence → (∀ j, u.crane j = (s.endCustody k).crane j) →
      (∀ v, u.reservation = some v → s.reservation = some v ∧ v.crane ≠ k) →
      ReservationSound (((u.leaveSequence id).setPlace id .onLane).joinLaneTail id) := fun u hs hcranes hv => by
    refine reservation_of_end hl h hcustody ?_ (.inr ?_) fun j hj => ?_
    · rw [State.joinLaneTail_eq]; exact hv
    · rw [State.joinLaneTail_eq]; exact congrArg _ hs
    · rw [joinLaneTail_crane, State.setPlace_crane, State.leaveSequence_crane, hcranes, endCustody_custody, if_neg hj]
  unfold State.depositInTurn
  dsimp only
  split
  · exact hjoined _ rfl (fun _ => rfl) fun v hv => releaseReservation_some (s := s.endCustody k) hv
  · next hnot =>
    refine hjoined _ (State.logFault_sequence ..) (fun j => State.logFault_crane ..) fun v hv => ?_
    rw [State.logFault_reservation] at hv
    obtain ⟨hholds, hheld⟩ := h v hv
    refine ⟨hv, fun he => hnot ?_⟩
    have hslab : v.slab = id := Option.some_injective _ (hheld.symm.trans hhead)
    have hv' : s.reservation = some v := hv
    rw [State.reservedFor, hv', ← he, ← hslab]
    exact beq_self_eq_true _

theorem laneDoubt_crane (s : State) (on : Bool) (k : Crane) : State.crane { s with laneDoubt := on } k = s.crane k := rfl

/-- A custody other than the reserved one ends without touching the reservation. -/
theorem reservation_of_depositOutOfTurn (hl : Ledger s) (h : ReservationSound s) {k : Crane} {id : SlabId}
    (hcustody : (s.crane k).custody = some id) (hhead : s.sequence.head? ≠ some id) : ReservationSound (s.depositOutOfTurn k id) := by
  obtain ⟨u, hu, hs, hv, hcranes⟩ : ∃ u, ((s.endCustody k).dissolvePair id).dissolveHeadPair = u ∧ u.sequence = s.sequence ∧
      u.reservation = s.reservation ∧ ∀ j, u.crane j = (s.endCustody k).crane j := by
    rcases dissolveHeadPair_cases ((s.endCustody k).dissolvePair id) with heq | ⟨head, heq⟩
    · exact ⟨_, heq, rfl, rfl, fun _ => rfl⟩
    · exact ⟨_, heq, rfl, rfl, fun _ => rfl⟩
  refine reservation_of_end hl h hcustody (fun v hres => ?_) (.inr ?_) fun j hj => ?_
  · rw [State.depositOutOfTurn, hu, State.raiseSupv_reservation, State.logFault_reservation, State.joinLaneTail_eq] at hres
    have hv' : s.reservation = some v := hv.symm.trans hres
    obtain ⟨hholds, hheld⟩ := h v hv'
    refine ⟨hv', fun he => hhead (hheld.trans ?_)⟩
    rw [he, hcustody] at hholds
    exact hholds.symm
  · rw [State.depositOutOfTurn, hu, State.raiseSupv_sequence, State.logFault_sequence, State.joinLaneTail_eq]
    exact congrArg _ hs
  · rw [State.depositOutOfTurn, hu, State.raiseSupv_crane, State.logFault_crane, laneDoubt_crane, joinLaneTail_crane,
      State.setPlace_crane, State.leaveSequence_crane, hcranes, endCustody_custody, if_neg hj]

theorem reservation_of_setAside (hl : Ledger s) (h : ReservationSound s) {k : Crane} {id : SlabId}
    (hcustody : (s.crane k).custody = some id) : ReservationSound (s.setAside k id) :=
  reservation_of_end hl h hcustody (fun _ hv => releaseReservation_some (s := s.endCustody k) hv) (.inl rfl) fun j hj =>
    (endCustody_custody s k j).trans (if_neg hj)

theorem reservation_of_custodyLost (hl : Ledger s) (h : ReservationSound s) {k : Crane} {id : SlabId}
    (hcustody : (s.crane k).custody = some id) : ReservationSound (s.custodyLost k id) := by
  refine reservation_of_end hl h hcustody (fun v hv => ?_) (.inr ?_) fun j hj => ?_
  · rw [State.custodyLost, State.raiseSupv_reservation, State.logFault_reservation] at hv
    exact releaseReservation_some (s := s.endCustody k) hv
  · rw [State.custodyLost, State.raiseSupv_sequence, State.logFault_sequence]
    rfl
  · rw [State.custodyLost, State.raiseSupv_crane, State.logFault_crane, State.makeDoubtful_crane, State.leaveSequence_crane,
      State.dissolvePair_crane, State.releaseReservation_crane, endCustody_custody, if_neg hj]

/-- R66, R67: a crane without custody holds no reservation. -/
theorem reservation_of_takeLift (h : ReservationSound s) {k : Crane} {id : SlabId} (hcustody : (s.crane k).custody = none) :
    ReservationSound (s.takeLift k id) :=
  reservation_of_kept h rfl (fun _ _ hhead => hhead) fun v hv => by
    have hne : v.crane ≠ k := fun he => by rw [← he, (h v hv).1] at hcustody; cases hcustody
    rw [takeLift_custody, if_neg hne]

/-- R14, R28, R146: an entry joins behind the reserved head. -/
theorem reservation_of_sequence (hl : Ledger s) (h : ReservationSound s) (hreservation : t.reservation = s.reservation)
    (hcranes : t.cranes = s.cranes) (hsequence : ∀ x, (∃ k o, s.place? x = some (.lifted k o)) → s.sequence.head? = some x →
      t.sequence.head? = some x) : ReservationSound t :=
  reservation_of_kept h hreservation (fun v hv hhead => hsequence v.slab ⟨_, reserved_lifted hl h hv⟩ hhead) fun _ _ => by
    rw [State.crane, hcranes]; rfl

theorem reservation_of_createSlab (hl : Ledger s) (h : ReservationSound s) {r : SlabRecord} {i : Nat} (ha : Announced s r i) :
    ReservationSound (s.createSlab r i) :=
  reservation_of_sequence hl h rfl rfl fun x hlifted hhead => head_of_join hhead (by
    rcases ha.index with rfl | ⟨y, -, hy, rfl⟩
    · obtain ⟨rest, hseq⟩ := List.head?_eq_some_iff.mp hhead
      rw [hseq]
      exact Nat.succ_pos _
    · exact idxOf_pos hhead (not_head_of_unfixed hlifted hhead hy))

/-! ### The change of a rule -/

theorem reservation_of_craneChange {p : Port} {k : Kind} (hl : Ledger s) (h : ReservationSound s) {j : Crane} (hp : portCrane p = some j)
    (hrole : k.allowedTo (portRole p) = true) (hk : ¬Kind.changesSetting k) (hc : Change p s k t) : ReservationSound t := by
  rw [role_of_crane hp] at hrole
  have hfurnace : ∀ {f}, portFurnace p ≠ some f := fun hf => by
    have := role_of_furnace hf
    rw [role_of_crane hp] at this
    cases this
  cases hc with
  | kept => exact h
  | hello => exact reservation_of_sameBooks h (sameBooks_hello s p)
  | park => exact reservation_of_sameBooks h (sameBooks_parkPort s p)
  | noticeClear kinds => exact reservation_of_sameBooks h (sameBooks_updatePort s p _)
  | noticeMask kinds => exact reservation_of_sameBooks h (sameBooks_updatePort s p _)
  | admissionStall k id => exact reservation_of_quietPath h (path_logFault s _ _ _ _)
  | grant k r => exact reservation_of_quietPath h (path_grantPermit s trivial trivial k r.id)
  | permitReturn k id => exact reservation_of_quietPath h ((path_undoPermit s trivial trivial k id).trans (path_logFault _ _ _ _ _))
  | lift k id hk hcustody => exact reservation_of_takeLift h hcustody
  | lateLift k id hk hcustody => exact reservation_of_quietPath (reservation_of_takeLift h hcustody) (path_logFault _ _ _ _ _)
  | lateLiftDoubt k id hk hplace =>
    refine reservation_of_leave hl h hplace nofun ?_ ?_ fun j => ?_
    · rw [State.lateLiftDoubt, State.raiseSupv_reservation, State.logFault_reservation]; rfl
    · rw [State.lateLiftDoubt, State.raiseSupv_sequence, State.logFault_sequence]; rfl
    · rw [State.lateLiftDoubt, State.raiseSupv_crane, State.logFault_crane]; rfl
  | setdown k id hk hcustody hhead => exact fun v hv => by cases hv; exact ⟨hcustody, hhead⟩
  | depositInTurn k id hk hcustody hhead => exact reservation_of_depositInTurn hl h hcustody hhead
  | depositOutOfTurn k id hk hcustody hhead => exact reservation_of_depositOutOfTurn hl h hcustody hhead
  | setAside k id hk hcustody => exact reservation_of_setAside hl h hcustody
  | chargeBegin f q hf | lateEnd f k hf | chargeEnd f a b width planned hf | returned f a b width planned hf
  | stuck f a b width planned hf | walkReport f n hf | dischargeEmpty f hf | dischargeMismatch f id hf
  | discharge f r hf => exact absurd hf hfurnace
  | _ => cases hrole

theorem reservation_of_change {p : Port} {k : Kind} (hl : Ledger s) (h : ReservationSound s) (hrole : k.allowedTo (portRole p) = true)
    (hc : Change p s k t) : ReservationSound t := by
  by_cases hk : Kind.changesSetting k
  · rcases hk with rfl | rfl | rfl | rfl | rfl
    · cases hc with
      | paramWrite q v => exact reservation_of_sameBooks h (sameBooks_writeParam s q _)
      | kept => exact h
      | lateEnd f k hf => exact reservation_of_quietPath h (path_logFurnace s f _ _ _)
    · cases hc with
      | start => exact reservation_of_sameBooks h (sameBooks_of_setting s _ _ _ _ _)
      | kept => exact h
      | lateEnd f k hf => exact reservation_of_quietPath h (path_logFurnace s f _ _ _)
    · cases hc with
      | restart => exact reservation_of_none (startUp_reservation s true)
      | kept => exact h
      | lateEnd f k hf => exact reservation_of_quietPath h (path_logFurnace s f _ _ _)
    · cases hc with
      | clearAll => exact reservation_of_none rfl
      | kept => exact h
      | lateEnd f k hf => exact reservation_of_quietPath h (path_logFurnace s f _ _ _)
    · cases hc with
      | resetRecordClear => exact reservation_of_sameBooks h (sameBooks_of_setting s _ _ _ _ _)
      | kept => exact h
      | lateEnd f k hf => exact reservation_of_quietPath h (path_logFurnace s f _ _ _)
  cases hp : portCrane p with
  | some j => exact reservation_of_craneChange hl h hp hrole hk hc
  | none =>
    have hcrane : portRole p ≠ .crane := fun h => by cases p <;> cases h <;> cases hp
    by_cases hsequence : Reaches p s k .sequence
    · rcases hsequence with hsequence | rfl | rfl | rfl | rfl
      · exact absurd hsequence hcrane
      · cases hc with
        | kept => exact h
        | announce a r i hrun hpass => exact reservation_of_createSlab hl h (announced_of_checks hpass)
        | lateEnd f k hf => exact reservation_of_quietPath h (path_logFurnace s f _ _ _)
      · cases hc with
        | kept => exact h
        | move id position hrun hpass =>
          obtain ⟨-, hid, hposition⟩ := moveRefusal_none hpass
          exact reservation_of_sequence hl h rfl rfl fun x hlifted hhead =>
            head_of_moved hhead (not_head_of_unfixed hlifted hhead hid)
              (hposition.imp (fun h => h) fun ⟨_, h⟩ => not_head_of_unfixed hlifted hhead h)
        | lateEnd f k hf => exact reservation_of_quietPath h (path_logFurnace s f _ _ _)
      · cases hc with
        | kept => exact h
        | withdrawListed r hrun hr hplace => exact reservation_of_withdrawListed hl h (place?_eq_some.mpr ⟨r, hr, hplace⟩) nofun
        | withdrawPermitted r k hrun hr hplace =>
          exact reservation_of_leave hl h (place?_eq_some.mpr ⟨r, hr, hplace⟩) nofun rfl rfl fun j =>
            custody_of_timers s k j (fun c => { c with permitTimer := none }) fun _ => rfl
        | lateEnd f k hf => exact reservation_of_quietPath h (path_logFurnace s f _ _ _)
      · cases hc with
        | kept => exact h
        | requeue id =>
          exact reservation_of_sequence hl h rfl rfl fun x hlifted hhead => head_of_join hhead (fixedSpan_pos hlifted hhead)
        | toLaneTail id => exact reservation_of_quietPath h ((path_resolveTo s trivial trivial id _).trans (path_joinLaneTail _ trivial trivial id))
        | remove id => exact reservation_of_quietPath h (path_freeSlab s trivial trivial id)
        | place id last q f => exact reservation_of_quietPath h (path_placeRow s trivial trivial trivial trivial _ q)
        | lateEnd f k hf => exact reservation_of_quietPath h (path_logFurnace s f _ _ _)
    · exact reservation_of_path h (path_of_change hrole hc hk) hsequence hcrane hcrane

theorem reservation_of_effect {c : Instr} (hl : Ledger s) (h : ReservationSound s) (he : Effect c s t) : ReservationSound t := by
  cases he with
  | nothing => exact h
  | powerOn => exact reservation_of_none (startUp_reservation s false)
  | lossOfPower => exact reservation_of_none rfl
  | seconds => exact reservation_of_sameBooks h (sameBooks_advanceSeconds s)
  | permitExpiry k => exact reservation_of_quietPath h (path_permitExpiry s trivial trivial k)
  | custodyExpiry k => exact reservation_of_quietPath h (path_custodyExpiry s trivial trivial k)
  | chargeExpiry f => exact reservation_of_quietPath h (path_chargeExpiry s trivial trivial trivial)
  | silenceExpiry p hc hw =>
    unfold State.silenceExpiry
    split
    · have hlost : Path BesidesReservation s (((s.updatePort p fun q => { q with link := .lost, silence := none }).logFault .link
          .portSilent none (some p)).raiseWhen (p != .p0) .p0 SupvNotice.portLost.bit) :=
        ((path_updatePort s trivial _).trans (path_logFault _ _ _ _ _)).trans (path_raiseWhen _ _ _ _)
      have hledger : Ledger (((s.updatePort p fun q => { q with link := .lost, silence := none }).logFault .link
          .portSilent none (some p)).raiseWhen (p != .p0) .p0 SupvNotice.portLost.bit) :=
        ledger_raiseWhen (ledger_logFault (ledger_of_same (sameBooks_updatePort s p _) rfl hl) _ _ _ _) _ _ _
      have hpowered := (powered_of_setting (path_setting hlost)).trans hw
      have hsound := reservation_of_quietPath h hlost
      rw [State.losePort]
      generalize ((s.updatePort p fun q => { q with link := .lost, silence := none }).logFault .link .portSilent none
          (some p)).raiseWhen (p != .p0) .p0 SupvNotice.portLost.bit = u at hledger hpowered hsound
      refine reservation_of_quietPath ?_ (path_settle s _)
      unfold State.roleLoss
      split
      · next k _ =>
        obtain ⟨v, hpermit, hcustody⟩ := craneLost_cases u k
        obtain ⟨hv, hvsound⟩ : Ledger v ∧ ReservationSound v := by
          rcases hpermit with ⟨-, rfl⟩ | ⟨id, hpermit, rfl⟩
          · exact ⟨hledger, hsound⟩
          · exact ⟨ledger_lapsePermit hledger hpowered (place?_of_permitOf hledger hpermit) false,
              reservation_of_quietPath hsound (path_lapsePermit u trivial trivial k id false)⟩
        rcases hcustody with ⟨-, heq⟩ | ⟨id, hcustody, heq⟩
        · rw [heq]; exact hvsound
        · rw [heq]; exact reservation_of_custodyLost hv hvsound hcustody
      · next f _ => exact reservation_of_quietPath hsound (path_ite ((path_changeHold u trivial _).trans (path_doubtFurnace _ trivial _ _ _)) .refl)
      · exact hsound
    · exact h
  | machine p u g hc hp hu => exact reservation_of_quietPath h (path_of_machine trivial hu)
  | answer p k body hc hport hw hp hrole =>
    refine reservation_of_sameBooks (s := (ruleOf p body k s).1) ?_ (sameBooks_answered p (ruleOf p body k s))
    have hresult := result_of_ruleOf p k body s hrole
    generalize (ruleOf p body k s).1 = u at hresult
    cases hresult with
    | plain hchange => exact reservation_of_change hl h hrole hchange
    | settled hchange => exact reservation_of_sameBooks (reservation_of_change hl h hrole hchange) (sameBooks_settle s _)

theorem reservation_of_tick (h : ReservationSound s) : ReservationSound s.tick := by
  cases hw : s.powered with
  | false => rw [tick_of_unpowered hw]; exact h
  | true =>
    refine reservation_of_kept h (by rw [State.tick, if_pos hw]) (fun v _ hhead => ?_) fun v _ => by rw [tick_crane hw]; rfl
    rw [State.tick, if_pos hw]
    exact hhead

end Reservations

/-- Settles O7: the reservation, the head and custody change together. -/
theorem reservationKept : Obligations.ReservationKept := by
  unfold Obligations.ReservationKept
  intro s t h hsound hstep
  refine (keeps_of_step (I := fun u => Ledger u ∧ ReservationSound u) (fun s rest ⟨hl, hv⟩ => ⟨?_, hv⟩)
    (fun s ⟨hl, hv⟩ => ⟨ledger_tick hl, reservation_of_tick hv⟩)
    (fun c s t ⟨hl, hv⟩ he => ⟨ledger_of_effect hl he, reservation_of_effect hl hv he⟩) ⟨ledger_of_account h, hsound⟩ hstep).2
  exact ledger_of_sameBooks (sameBooks_queue s rest) hl (fun hp => hp) hl.credits fun hconfig =>
    tracksNothing_of_sameBooks (sameBooks_queue s rest) (hl.config hconfig)

end Sys2Proof.Proofs

/-!
PROOFS. The rows of the maps and the records of the register through every step (O9, O10).
-/

namespace Sys2Proof.Proofs

open Sys2Proof Sys2Proof.Machine

section Rows

variable {s t u : State}

/-! ### Rows (O9) -/

/-- The rows of every map come from its rows before, or hold a slab that stood in no map. -/
def RowsFrom (s t : State) : Prop :=
  ∀ f, ∀ r' ∈ (t.furnace f).rows, (∀ e side, s.place? r'.slabA ≠ some (.inFurnace e side)) ∨ ∃ r ∈ (s.furnace f).rows, RowKept r r'

theorem rowsFrom_of_same (h : ∀ f, (t.furnace f).rows = (s.furnace f).rows) : RowsFrom s t := fun f r' hr' =>
  .inr ⟨r', h f ▸ hr', .refl r'⟩

theorem rowsFrom_of_empty (h : ∀ f, (t.furnace f).rows = []) : RowsFrom s t := fun f r' hr' => by rw [h f] at hr'; cases hr'

theorem rowsFrom_of_path {P : Part → Prop} (hpath : Path P u t) (hrows : ∀ f, (u.furnace f).rows = (s.furnace f).rows)
    (hnew : ∀ id, P (.newRow id) → ∀ e side, s.place? id ≠ some (.inFurnace e side)) : RowsFrom s t := fun f r' hr' => by
  rcases path_maps hpath f r' hr' with h | ⟨r, hr, hkept⟩
  · exact .inl (hnew _ h)
  · exact .inr ⟨r, hrows f ▸ hr, hkept⟩

theorem rowsFrom_startUp (s : State) (keepSel : Bool) : RowsFrom s (s.startUp keepSel) := by
  rcases startUp_cases s keepSel with ⟨-, hrows, -⟩ | hpath
  · exact rowsFrom_of_empty hrows
  · exact rowsFrom_of_path hpath (fun f => by rw [coldStart_furnace]; rfl) fun id h => h.elim

/-- Every part, but no new row and no new slab. -/
def BesidesNewRows : Part → Prop
  | .newRow _ | .newSlab _ => False
  | _ => True

/-- The slabs of a new row stood at the entry, or were DOUBTFUL. -/
theorem not_in_map_of_reaches {p : Port} {k : Kind} (hs : Stands s) {id : SlabId} (h : Reaches p s k (.newRow id)) (e : Furnace)
    (side : Side) : s.place? id ≠ some (.inFurnace e side) := fun hplace => by
  have hspot := spotOf_of_place hplace
  rcases h with h | ⟨f, x, hx, rfl⟩
  · rw [hspot] at h; cases h
  · rw [spotOf_entry hs hx] at hspot; cases hspot

theorem rowsFrom_of_effect {c : Instr} (hl : Ledger s) (hbound : ∀ f, ∀ r ∈ (s.furnace f).rows, r.residence ≤ Config.maxResidence)
    (he : Effect c s t) : RowsFrom s t := by
  have hpath : Path BesidesNewRows s t → RowsFrom s t := fun h => rowsFrom_of_path h (fun _ => rfl) fun id h => h.elim
  cases he with
  | nothing => exact rowsFrom_of_same fun _ => rfl
  | powerOn => exact rowsFrom_startUp s false
  | lossOfPower => exact rowsFrom_of_same fun f => by cases f <;> rfl
  | seconds => exact rowsFrom_of_path (P := BesidesNewRows) (path_advanceSeconds s (fun _ => trivial) hbound) (fun _ => rfl) fun id h => h.elim
  | permitExpiry k => exact hpath (path_permitExpiry s trivial trivial k)
  | custodyExpiry k => exact hpath (path_custodyExpiry s trivial trivial k)
  | chargeExpiry f => exact hpath (path_chargeExpiry s trivial trivial trivial)
  | silenceExpiry p =>
    exact hpath (path_silenceExpiry s trivial (fun _ _ => trivial) fun _ => ⟨trivial, trivial, trivial, trivial, trivial, trivial⟩)
  | machine p u g hc hp hu => exact hpath (path_of_machine trivial hu)
  | answer p k body hc hport hw hp hrole =>
    by_cases hk : Kind.changesSetting k
    · change RowsFrom s (ruleOf p body k s).1
      have hresult := result_of_ruleOf p k body s hrole
      generalize (ruleOf p body k s).1 = u at hresult
      have hchange : ∀ {v : State}, Change p s k v → RowsFrom s v := fun {v} hchange => by
        cases hchange with
        | kept | paramWrite | start | resetRecordClear => exact rowsFrom_of_same fun _ => rfl
        | restart => exact rowsFrom_startUp s true
        | clearAll => exact rowsFrom_of_empty fun f => by cases f <;> rfl
        | lateEnd f k' hf hor => rcases hor with rfl | rfl <;> simp [Kind.changesSetting] at hk
        | _ => simp [Kind.changesSetting] at hk
      cases hresult with
      | plain h => exact hchange h
      | settled h =>
        intro f r' hr'
        rw [settle_furnace] at hr'
        exact hchange h f r' hr'
    · exact rowsFrom_of_path (path_of_answer body hrole hk) (fun _ => rfl) fun id h => not_in_map_of_reaches hl.stands h

/-- R104: no two rows of a map hold the same first slab. -/
theorem row_of_slabA (hs : Stands s) {f : Furnace} {r r' : Row} (hr : r ∈ (s.furnace f).rows) (hr' : r' ∈ (s.furnace f).rows)
    (hslab : r'.slabA = r.slabA) : r' = r := by
  have hnodup := map_nodup hs f
  rw [FurnaceState.mapSlabs, List.map_flatMap, List.nodup_flatMap] at hnodup
  by_contra hne
  have hmem : ∀ o : Row, o.slabA ∈ (slabsWithSides o.slabA o.slabB).map Prod.fst := fun o => by rw [ids_of_row]; exact .head _
  obtain ⟨i, hi, rfl⟩ := List.getElem_of_mem hr
  obtain ⟨j, hj, rfl⟩ := List.getElem_of_mem hr'
  have hij : i ≠ j := fun he => hne (by subst he; rfl)
  have hdisjoint := List.pairwise_iff_getElem.mp hnodup.2
  rcases Nat.lt_or_gt_of_ne hij with hlt | hlt
  · exact hdisjoint i j hi hj hlt (hmem _) (hslab ▸ hmem _)
  · exact hdisjoint j i hj hi hlt (hmem _) (hslab ▸ hmem _)

theorem figures_of_rowsFrom (h : Account s) (hfrom : RowsFrom s t) (f : Furnace) (r : Row) (hr : r ∈ (s.furnace f).rows) (r' : Row)
    (hr' : r' ∈ (t.furnace f).rows) (hslab : r'.slabA = r.slabA) : RowKept r r' := by
  have hs := stands_of_account h
  rcases hfrom f r' hr' with hnew | ⟨o, ho, hkept⟩
  · have hmem : (r.slabA, if r.slabB.isSome then Side.left else .single) ∈ slabsWithSides r.slabA r.slabB := by
      cases r.slabB <;> simp [slabsWithSides]
    obtain ⟨x, hx, hspot⟩ := spotOf_eq_some.mp (spotOf_map hs (mem_mapSlabs hr hmem))
    rw [hslab] at hnew
    exact absurd (place?_eq_some.mpr ⟨x, hx, (spotOfPlace_map _ _ _).mp hspot⟩) (hnew _ _)
  · rw [← row_of_slabA hs hr ho (hkept.slabA.symm.trans hslab)]
    exact hkept

end Rows

section Records

variable {s t u : State}

/-! ### Records (O10) -/

/-- The records of the register come from its records before, or carry an id that was not live. -/
def RecordsFrom (s t : State) : Prop :=
  ∀ r' ∈ t.register, (∀ r ∈ s.register, r.id ≠ r'.id) ∨ ∃ r ∈ s.register, RecordKept (fun id => ∃ o ∈ t.register, o.id = id) r r'

theorem recordsFrom_of_same (h : t.register = s.register) : RecordsFrom s t := fun r' hr' => .inr ⟨r', h ▸ hr', .refl r'⟩

theorem recordsFrom_of_empty (h : t.register = []) : RecordsFrom s t := fun r' hr' => by rw [h] at hr'; cases hr'

theorem recordsFrom_of_register (hregister : t.register = u.register) (h : RecordsFrom s u) : RecordsFrom s t := by
  unfold RecordsFrom
  rw [hregister]
  exact h

theorem recordsFrom_of_path {P : Part → Prop} (hpath : Path P u t) (hregister : u.register = s.register)
    (hnew : ∀ id, ¬P (.newSlab id)) : RecordsFrom s t := fun r' hr' => by
  obtain ⟨r, hr, hkept⟩ := (path_register hpath hnew r' hr').resolve_left (hnew _)
  exact .inr ⟨r, hregister ▸ hr, hkept⟩

theorem recordsFrom_startUp (s : State) (keepSel : Bool) : RecordsFrom s (s.startUp keepSel) := by
  rcases startUp_cases s keepSel with ⟨hregister, -, -⟩ | hpath
  · exact recordsFrom_of_empty hregister
  · exact recordsFrom_of_path hpath rfl fun id h => h

/-- R14: an announcement leaves the other records, and takes an id that was not live. -/
theorem recordsFrom_createSlab {r : SlabRecord} {i : Nat} (hfresh : s.live r.id = false) : RecordsFrom s (s.createSlab r i) :=
  fun r' hr' => by
    rcases List.mem_cons.mp ((insertRecord_perm r s.register).subset hr') with rfl | hmem
    · refine .inl fun o ho hid => ?_
      rw [State.live, State.slab?, Option.isSome_eq_false_iff, Option.isNone_iff_eq_none, List.find?_eq_none] at hfresh
      exact hfresh o ho (by simpa using hid)
    · exact .inr ⟨r', hmem, .refl r'⟩

theorem recordsFrom_of_answer {p : Port} {k : Kind} (body : List Byte) (hrole : k.allowedTo (portRole p) = true) :
    RecordsFrom s (ruleOf p body k s).1 := by
  have hresult := result_of_ruleOf p k body s hrole
  generalize (ruleOf p body k s).1 = u at hresult
  have hchange : ∀ {v : State}, Change p s k v → RecordsFrom s v := fun {v} hchange => by
    by_cases hk : Kind.changesSetting k
    · cases hchange with
      | kept | paramWrite | start | resetRecordClear => exact recordsFrom_of_same rfl
      | restart => exact recordsFrom_of_register rfl (recordsFrom_startUp s true)
      | clearAll => exact recordsFrom_of_empty rfl
      | lateEnd f k' hf hor => rcases hor with rfl | rfl <;> simp [Kind.changesSetting] at hk
      | _ => simp [Kind.changesSetting] at hk
    · by_cases hannounce : k = .slabAnnounce
      · subst hannounce
        cases hchange with
        | kept => exact recordsFrom_of_same rfl
        | announce a r i hrun hpass => exact recordsFrom_createSlab (announced_of_checks hpass).fresh
        | lateEnd f k' hf hor => rcases hor with hor | hor <;> cases hor
      · exact recordsFrom_of_path (path_of_change hrole hchange hk) rfl fun id h => hannounce h.1
  cases hresult with
  | plain h => exact hchange h
  | settled h =>
    unfold RecordsFrom
    rw [settle_register]
    exact hchange h

theorem recordsFrom_of_effect {c : Instr} (he : Effect c s t) : RecordsFrom s t := by
  have hpath : Path BesidesNewRows s t → RecordsFrom s t := fun h => recordsFrom_of_path h rfl fun id h => h
  cases he with
  | nothing => exact recordsFrom_of_same rfl
  | powerOn => exact recordsFrom_startUp s false
  | lossOfPower => exact recordsFrom_of_same rfl
  | seconds => exact recordsFrom_of_same (sameBooks_advanceSeconds s).register
  | permitExpiry k => exact hpath (path_permitExpiry s trivial trivial k)
  | custodyExpiry k => exact hpath (path_custodyExpiry s trivial trivial k)
  | chargeExpiry f => exact hpath (path_chargeExpiry s trivial trivial trivial)
  | silenceExpiry p =>
    exact hpath (path_silenceExpiry s trivial (fun _ _ => trivial) fun _ => ⟨trivial, trivial, trivial, trivial, trivial, trivial⟩)
  | machine p u g hc hp hu => exact hpath (path_of_machine trivial hu)
  | answer p k body hc hport hw hp hrole => exact recordsFrom_of_answer body hrole

theorem record_of_recordsFrom (h : Account s) (hfrom : RecordsFrom s t) {r : SlabRecord} (hr : r ∈ s.register) {r' : SlabRecord}
    (hr' : r' ∈ t.register) (hid : r'.id = r.id) : RecordKept (fun id => ∃ o ∈ t.register, o.id = id) r r' := by
  rcases hfrom r' hr' with hnew | ⟨o, ho, hkept⟩
  · exact absurd hid.symm (hnew r hr)
  · have hsame : o = r := by
      have hfind : ∀ {x : SlabRecord}, x ∈ s.register → s.slab? x.id = some x := fun hx =>
        (slab?_eq_some_iff h.ids).mpr ⟨hx, rfl⟩
      have ho' := hfind ho
      rw [← hkept.id_eq, hid, hfind hr] at ho'
      exact (Option.some_injective _ ho').symm
    exact hsame ▸ hkept

end Records

/-- Settles O9: every row of a map after a step comes from a row before it, or its slabs stood in no map. -/
theorem rowsKeepTheirFigures : Obligations.RowsKeepTheirFigures := by
  unfold Obligations.RowsKeepTheirFigures
  intro s t h hbounds hstep f r hr r' hr' hslab
  have hfrom : RowsFrom s t := by
    unfold step at hstep
    split at hstep
    · cases hstep
      refine rowsFrom_of_same fun f => ?_
      cases hw : s.powered with
      | false => rw [tick_of_unpowered hw]
      | true => rw [tick_furnace hw]; rfl
    · next c rest _ =>
      have hl := ledger_of_account h
      exact rowsFrom_of_effect (s := { s with pending := rest }) (ledger_of_sameBooks (sameBooks_queue s rest) hl (fun hp => hp) hl.credits
        fun hconfig => tracksNothing_of_sameBooks (sameBooks_queue s rest) (hl.config hconfig)) hbounds.residence (effect_of_exec hstep)
  obtain ⟨-, hB, hwidth, hsoak, hresidence, hnotified⟩ := figures_of_rowsFrom h hfrom f r hr r' hr' hslab
  exact ⟨hB, hwidth, hsoak, hresidence, hnotified⟩

/-- Settles O10: every record after a step comes from a record before it, or its id was not live. -/
theorem recordsKeepTheirDescription : Obligations.RecordsKeepTheirDescription := by
  unfold Obligations.RecordsKeepTheirDescription
  intro s t h hstep r hr r' hr' hid
  have hfrom : RecordsFrom s t := by
    unfold step at hstep
    split at hstep
    · cases hstep
      refine recordsFrom_of_same ?_
      cases hw : s.powered with
      | false => rw [tick_of_unpowered hw]
      | true => rw [State.tick, if_pos hw]
    · next c rest _ => exact recordsFrom_of_effect (s := { s with pending := rest }) (effect_of_exec hstep)
  obtain ⟨hsame, hedited, htested, hdissolved, hrequeued, hparted⟩ := record_of_recordsFrom h hfrom hr hr' hid
  refine ⟨?_, ?_, ?_, ?_, ?_, ?_, ?_, hedited, htested, hdissolved, hrequeued, hparted⟩ <;> rw [hsame]

end Sys2Proof.Proofs

/-!
PROOFS. The notices that the change of a state raises, port by port (O15).
-/

namespace Sys2Proof.Proofs

open Sys2Proof Sys2Proof.Machine

/-- An absent bit adds nothing to a notice set. -/
theorem or_no_bit (x : Byte) : x ||| 0 = x := BitVec.or_zero

/-- Three causes of one bit raise it once. -/
theorem or_bit_of_three (x bit : Byte) (a b c : Bool) :
    x ||| (if a = true then bit else 0) ||| (if b = true then bit else 0) ||| (if c = true then bit else 0) =
      x ||| if a = true ∨ b = true ∨ c = true then bit else 0 := by
  cases a <;> cases b <;> cases c <;> simp [BitVec.or_assoc]

section Notices

variable (s t : State)

/-- R173: the notice set of a port after a raise. -/
theorem raiseWhen_notices (s : State) (c : Bool) (p q : Port) (bit : Byte) :
    ((s.raiseWhen c p bit).port q).notices = (s.port q).notices ||| if c = true ∧ s.present p = true ∧ q = p then bit else 0 := by
  rw [State.raiseWhen_port]
  split
  · next h => rw [h.2.2]
  · exact (BitVec.or_zero).symm

theorem settle_port (q : Port) : (settle s t).port q = { t.port q with notices := ((settle s t).port q).notices } :=
  path_port (P := fun _ => False) (path_settle s t) fun h => h

theorem settleCrane_notices (u : State) (k : Crane) (q : Port) : ((settleCrane s t k u).port q).notices = (u.port q).notices |||
    (if creditRaised s t k = true ∧ u.present (cranePort k) = true ∧ q = cranePort k then 0x04 else 0) |||
    (if turnRaised s t k = true ∧ u.present (cranePort k) = true ∧ q = cranePort k then 0x02 else 0) := by
  rw [settleCrane, raiseWhen_notices, raiseWhen_notices, State.raiseWhen_present]
  rfl

theorem settleFurnace_notices (u : State) (f : Furnace) (q : Port) : ((settleFurnace s t f u).port q).notices = (u.port q).notices |||
    (if holdRaised s t f = true ∧ u.present (furnacePort f) = true ∧ q = furnacePort f then 0x02 else 0) |||
    (if holdRaised s t f = true ∧ q = .p0 then 0x40 else 0) |||
    (if rowReadyRaised s t f = true ∧ u.present (furnacePort f) = true ∧ q = furnacePort f then 0x01 else 0) := by
  have hp0 : ∀ v : State, v.present .p0 = true := fun _ => rfl
  rw [settleFurnace, raiseWhen_notices, raiseWhen_notices, raiseWhen_notices, State.raiseWhen_present, State.raiseWhen_present]
  simp only [hp0, true_and]
  rfl

theorem settleCrane_present (u : State) (k : Crane) (q : Port) : (settleCrane s t k u).present q = u.present q := by
  rw [settleCrane, State.raiseWhen_present, State.raiseWhen_present]

theorem settleFurnace_present (u : State) (f : Furnace) (q : Port) : (settleFurnace s t f u).present q = u.present q := by
  rw [settleFurnace, State.raiseWhen_present, State.raiseWhen_present, State.raiseWhen_present]

/-- R37, R44, R72, R109, R130: the notices of every port after an event. -/
theorem settle_notices (q : Port) : ((settle s t).port q).notices = (t.port q).notices |||
    (if fallsToMark s t = true ∧ q = .p0 then 0x01 else 0) |||
    (if creditRaised s t .c1 = true ∧ t.present .p1 = true ∧ q = .p1 then 0x04 else 0) |||
    (if turnRaised s t .c1 = true ∧ t.present .p1 = true ∧ q = .p1 then 0x02 else 0) |||
    (if creditRaised s t .c2 = true ∧ t.present .p2 = true ∧ q = .p2 then 0x04 else 0) |||
    (if turnRaised s t .c2 = true ∧ t.present .p2 = true ∧ q = .p2 then 0x02 else 0) |||
    (if holdRaised s t .f1 = true ∧ t.present .p3 = true ∧ q = .p3 then 0x02 else 0) |||
    (if holdRaised s t .f1 = true ∧ q = .p0 then 0x40 else 0) |||
    (if rowReadyRaised s t .f1 = true ∧ t.present .p3 = true ∧ q = .p3 then 0x01 else 0) |||
    (if holdRaised s t .f2 = true ∧ t.present .p4 = true ∧ q = .p4 then 0x02 else 0) |||
    (if holdRaised s t .f2 = true ∧ q = .p0 then 0x40 else 0) |||
    (if rowReadyRaised s t .f2 = true ∧ t.present .p4 = true ∧ q = .p4 then 0x01 else 0) |||
    (if holdRaised s t .f3 = true ∧ t.present .p5 = true ∧ q = .p5 then 0x02 else 0) |||
    (if holdRaised s t .f3 = true ∧ q = .p0 then 0x40 else 0) |||
    (if rowReadyRaised s t .f3 = true ∧ t.present .p5 = true ∧ q = .p5 then 0x01 else 0) := by
  have hp0 : t.present .p0 = true := rfl
  simp only [settle, settleFurnace_notices, settleCrane_notices, settleFurnace_present, settleCrane_present, raiseWhen_notices,
    State.raiseWhen_present, cranePort, furnacePort, hp0, true_and, SupvNotice.bit]
  rfl

/-- R37, R109: the notices of the SUPV port. -/
theorem settle_notices_supv : ((settle s t).port .p0).notices = (t.port .p0).notices |||
    (if fallsToMark s t = true then 0x01 else 0) |||
    (if holdRaised s t .f1 = true ∨ holdRaised s t .f2 = true ∨ holdRaised s t .f3 = true then 0x40 else 0) := by
  rw [settle_notices]
  simp only [reduceCtorEq, and_false, and_true, if_false, or_no_bit]
  exact or_bit_of_three _ _ _ _ _

/-- R44, R72: the notices of a crane's port. -/
theorem settle_notices_crane (k : Crane) (hp : t.present (cranePort k) = true) :
    ((settle s t).port (cranePort k)).notices = (t.port (cranePort k)).notices |||
      (if creditRaised s t k = true then 0x04 else 0) ||| (if turnRaised s t k = true then 0x02 else 0) := by
  rw [settle_notices]
  cases k <;> simp only [cranePort] at hp ⊢ <;>
    simp only [hp, reduceCtorEq, and_false, and_true, if_false, or_no_bit]

/-- R109, R130: the notices of a furnace's port. -/
theorem settle_notices_furnace (f : Furnace) (hp : t.present (furnacePort f) = true) :
    ((settle s t).port (furnacePort f)).notices = (t.port (furnacePort f)).notices |||
      (if holdRaised s t f = true then 0x02 else 0) ||| (if rowReadyRaised s t f = true then 0x01 else 0) := by
  rw [settle_notices]
  cases f <;> simp only [furnacePort] at hp ⊢ <;>
    simp only [hp, reduceCtorEq, and_false, and_true, if_false, or_no_bit]

/-- R162: a port that is not present receives no notice. -/
theorem settle_port_absent {q : Port} (hq : t.present q = false) : (settle s t).port q = t.port q := by
  have hnotices : ((settle s t).port q).notices = (t.port q).notices := by
    rw [settle_notices]
    cases q with
    | p0 | p1 | p3 => cases hq
    | p2 | p4 | p5 => simp only [hq, reduceCtorEq, Bool.false_eq_true, false_and, and_false, if_false, or_no_bit]
  rw [settle_port, hnotices]

/-! ### What the comparisons of `settle` say -/

theorem fallsToMark_iff : fallsToMark s t = true ↔ t.params.lowWater < s.listedCount ∧ t.listedCount = t.params.lowWater := by
  simp [fallsToMark]

theorem holdRaised_iff (f : Furnace) : holdRaised s t f = true ↔ s.isOpen f ≠ t.isOpen f := by simp [holdRaised]

theorem turnRaised_iff (k : Crane) : turnRaised s t k = true ↔ t.carriesHead k = true ∧ s.carriesHead k = false := by
  simp [turnRaised]

theorem rowReadyRaised_iff (f : Furnace) : rowReadyRaised s t f = true ↔ t.ready f = true ∧ s.ready f = false := by
  simp [rowReadyRaised]

theorem creditRaised_iff (k : Crane) : creditRaised s t k = true ↔ s.creditsFree = 0 ∧ 0 < t.creditsFree ∧
    (t.port (cranePort k)).link = .active ∧ t.permitOf k = none ∧ (t.crane k).custody = none := by
  simp [creditRaised, creditAppears, State.creditReaches, State.craneHoldsNothing, and_assoc]

end Notices

/-- Settles O15: each notice set after `settle`, from the raises that reach its port. -/
theorem noticesFollowTheChange : Obligations.NoticesFollowTheChange := by
  unfold Obligations.NoticesFollowTheChange
  intro before after
  refine ⟨settle_eq before after, settle_port before after, ?_, fun k hp => ?_, fun f hp => ?_, fun p => settle_port_absent before after⟩
  · rw [settle_notices_supv]
    simp only [fallsToMark_iff, holdRaised_iff]
  · rw [settle_notices_crane before after k hp]
    simp only [creditRaised_iff, turnRaised_iff]
  · rw [settle_notices_furnace before after f hp]
    simp only [holdRaised_iff, rowReadyRaised_iff]

end Sys2Proof.Proofs

/-!
PROOFS. The planner's sums, the fixed span, frames and fields: the statements about single definitions (O18, O19, O20, O22).
-/

namespace Sys2Proof.Proofs

open Sys2Proof Sys2Proof.Machine

section Span

/-- An index lies in the span exactly when an element that is held stands at it or behind it. -/
theorem lt_spanThrough_iff (held : SlabId → Bool) (xs : List SlabId) (i : Nat) :
    i < spanThrough held xs ↔ ∃ (j : Nat) (x : SlabId), i ≤ j ∧ xs[j]? = some x ∧ held x = true := by
  induction xs generalizing i with
  | nil => simp [spanThrough]
  | cons a xs ih =>
    rw [spanThrough]
    constructor
    · intro hi
      split at hi
      · next h0 =>
        split at hi
        · next ha => exact ⟨0, a, by omega, rfl, ha⟩
        · omega
      · obtain ⟨j, x, hij, hx, hheld⟩ := (ih (i - 1)).mp (by omega)
        exact ⟨j + 1, x, by omega, hx, hheld⟩
    · rintro ⟨j, x, hij, hx, hheld⟩
      cases j with
      | zero =>
        obtain rfl : a = x := by simpa using hx
        split <;> omega
      | succ j =>
        have hlt : j < spanThrough held xs := (ih j).mpr ⟨j, x, Nat.le_refl j, hx, hheld⟩
        rw [if_neg (by omega)]
        omega

theorem isPermitted_iff (pl : Place) : pl.isPermitted = true ↔ ∃ k, pl = .permitted k := by
  cases pl <;> simp [Place.isPermitted]

theorem isLifted_iff (pl : Place) : pl.isLifted = true ↔ ∃ k o, pl = .lifted k o := by
  cases pl with
  | lifted k o => exact ⟨fun _ => ⟨k, o, rfl⟩, fun _ => rfl⟩
  | listed | permitted | onLane | atEntry | inFurnace | doubtful => simp [Place.isLifted]

/-- R23: an entry that is fixed by state or by pair. -/
theorem fixedInPlace_iff (s : State) (id : SlabId) : s.fixedInPlace id = true ↔ ∃ r, s.slab? id = some r ∧
    ((∃ k, r.place = .permitted k) ∨ (∃ k o, r.place = .lifted k o) ∨ r.partner ≠ none) := by
  cases hslab : s.slab? id with
  | none => simp [State.fixedInPlace, hslab]
  | some r =>
    have hpartner : r.partner.isSome = true ↔ r.partner ≠ none := Option.isSome_iff_ne_none
    simp only [State.fixedInPlace, hslab, Bool.or_eq_true, isPermitted_iff, isLifted_iff, hpartner, or_assoc, Option.some.injEq,
      exists_eq_left']

/-- Settles O18: an index stands in the span exactly when an entry that is fixed stands at it or behind it. -/
theorem fixedEntriesAreTheSpan : Obligations.FixedEntriesAreTheSpan := by
  unfold Obligations.FixedEntriesAreTheSpan
  intro s i id hnodup hi
  obtain ⟨hlt, rfl⟩ := List.getElem?_eq_some_iff.mp hi
  rw [State.isFixed, hnodup.idxOf_getElem i hlt, decide_eq_true_iff, State.fixedSpan, lt_spanThrough_iff]
  simp only [fixedInPlace_iff]
  constructor
  · rintro ⟨j, x, hij, hx, r, hr, hfixed⟩
    exact ⟨j, x, r, hij, hx, hr, hfixed⟩
  · rintro ⟨j, x, r, hij, hx, hr, hfixed⟩
    exact ⟨j, x, hij, hx, r, hr, hfixed⟩

end Span

section Frames

/-- R168: the check byte takes a running value with itself to 0. -/
theorem crcByte_self (v : Byte) : crcByte v v = 0 := by
  have hv : v ^^^ v = 0 := BitVec.xor_self
  rw [crcByte, hv]
  decide

theorem crc8_append_byte (bs : List Byte) (b : Byte) : crc8 (bs ++ [b]) = crcByte (crc8 bs) b := by
  simp [crc8, List.foldl_append]

/-- R168: the check byte of a whole frame is 0. -/
theorem crc8_frameOf (kind : Byte) (body : List Byte) : crc8 (frameOf kind body) = 0x00 := by
  rw [frameOf, crc8_append_byte, crcByte_self]

theorem frameOf_eq (kind : Byte) (body : List Byte) :
    frameOf kind body = kind :: BitVec.ofNat 8 body.length :: (body ++ [crc8 (frameHead kind body)]) := rfl

theorem length_frameOf (kind : Byte) (body : List Byte) : (frameOf kind body).length = body.length + 3 := by
  simp [frameOf_eq]

/-- R168: the length byte of a frame. -/
theorem lengthByte_frameOf (kind : Byte) (body : List Byte) (h : body.length ≤ 60) :
    (byteAt (frameOf kind body) 1).toNat = body.length := by
  have hbyte : byteAt (frameOf kind body) 1 = BitVec.ofNat 8 body.length := rfl
  rw [hbyte, BitVec.toNat_ofNat]
  omega

theorem frameBody_frameOf (kind : Byte) (body : List Byte) (h : body.length ≤ 60) : frameBody (frameOf kind body) = body := by
  rw [frameBody, lengthByte_frameOf kind body h, frameOf_eq]
  simp

/-- R169, tests 1 and 2 of a frame that was written. -/
theorem goodFrame_frameOf (kind : Byte) (body : List Byte) (h : body.length ≤ 60) :
    goodFrame (frameOf kind body) (body.length + 3) = true := by
  have hcount : countPasses (frameOf kind body) (body.length + 3) = true := by
    simp only [countPasses, lengthByte_frameOf kind body h, Config.maxFrame, Config.maxBody]
    simp
    omega
  have hhead : (frameOf kind body).take (body.length + 2) = frameHead kind body := by simp [frameOf, frameHead]
  have hlast : byteAt (frameOf kind body) (body.length + 2) = crc8 (frameHead kind body) := by
    simp [byteAt, frameOf_eq]
  have hcheck : checkPasses (frameOf kind body) = true := by
    rw [checkPasses, lengthByte_frameOf kind body h, hhead, hlast, beq_self_eq_true]
  rw [goodFrame, hcount, hcheck]
  rfl

theorem kindOfCode_code (k : Kind) : kindOfCode k.code = some k := by
  cases k <;> rfl

/-- R169: a good frame is the frame of its kind and its body. -/
theorem eq_frameOf_of_goodFrame (kept : List Byte) (h : goodFrame kept kept.length = true) :
    kept = frameOf (byteAt kept 0) (frameBody kept) := by
  rw [goodFrame, Bool.and_eq_true] at h
  obtain ⟨hcount, hcheck⟩ := h
  simp only [countPasses, Bool.and_eq_true, decide_eq_true_iff, beq_iff_eq] at hcount
  obtain ⟨⟨⟨hthree, -⟩, -⟩, hlength⟩ := hcount
  obtain ⟨kind, len, rest, rfl⟩ : ∃ kind len rest, kept = kind :: len :: rest := by
    match kept, hthree with
    | a :: b :: c, _ => exact ⟨a, b, c, rfl⟩
  have hlen : byteAt (kind :: len :: rest) 1 = len := rfl
  rw [hlen] at hlength
  have hrest : rest.length = len.toNat + 1 := by simpa using hlength
  obtain ⟨body, last, rfl⟩ : ∃ body last, rest = body ++ [last] :=
    ⟨_, _, (List.dropLast_append_getLast (List.ne_nil_of_length_pos (by omega))).symm⟩
  have hbody : body.length = len.toNat := by simpa using hrest
  have hread : frameBody (kind :: len :: (body ++ [last])) = body := by
    rw [frameBody, hlen, ← hbody]
    simp
  have hbyte : BitVec.ofNat 8 body.length = len := by rw [hbody]; simp
  have hlast : crc8 (frameHead kind body) = last := by
    rw [checkPasses, hlen, ← hbody, beq_iff_eq] at hcheck
    have htake : (kind :: len :: (body ++ [last])).take (body.length + 2) = frameHead kind body := by simp [frameHead, hbyte]
    have hend : byteAt (kind :: len :: (body ++ [last])) (body.length + 2) = last := by simp [byteAt]
    rw [htake, hend] at hcheck
    exact hcheck
  rw [hread, show byteAt (kind :: len :: (body ++ [last])) 0 = kind from rfl, frameOf_eq, hbyte, hlast]

/-- R168: a field that is written between two parts of a body is read at its offset. -/
theorem field_between (before written after : List Byte) :
    field (before ++ written ++ after) before.length written.length = beNat written := by
  rw [field, List.append_assoc, List.drop_left, List.take_left]

theorem beNat_u8 {n : Nat} (h : n < 2 ^ 8) : beNat (u8 n) = n := by
  simp only [beNat, u8, List.foldl, BitVec.toNat_ofNat]
  omega

theorem beNat_u16 {n : Nat} (h : n < 2 ^ 16) : beNat (u16 n) = n := by
  simp only [beNat, u16, List.foldl, BitVec.toNat_ofNat]
  omega

theorem beNat_u32 {n : Nat} (h : n < 2 ^ 32) : beNat (u32 n) = n := by
  simp only [beNat, u32, List.foldl, BitVec.toNat_ofNat]
  omega

/-- Settles O19: what a frame and a field write is what is read back. -/
theorem framesReadBack : Obligations.FramesReadBack := by
  unfold Obligations.FramesReadBack
  refine ⟨fun k body hlen => ⟨length_frameOf k.code body, goodFrame_frameOf k.code body hlen, ?_,
    frameBody_frameOf k.code body hlen⟩, eq_frameOf_of_goodFrame, crc8_frameOf, by decide +kernel, fun before after n =>
    ⟨fun hn => ?_, fun hn => ?_, fun hn => ?_⟩⟩
  · exact kindOfCode_code k
  · exact (field_between before (u8 n) after).trans (beNat_u8 hn)
  · exact (field_between before (u16 n) after).trans (beNat_u16 hn)
  · exact (field_between before (u32 n) after).trans (beNat_u32 hn)

end Frames

section Sums

/-- Settles O20: two bytes under a mask agree exactly when they agree in the bits of the mask. -/
theorem admissionFilterComparesSelectedBits : Obligations.AdmissionFilterComparesSelectedBits := by
  unfold Obligations.AdmissionFilterComparesSelectedBits
  intro fp h
  constructor
  · rw [FurnaceParams.admits, beq_iff_eq]
    constructor
    · intro heq i _ hmask
      have hbit := congrArg (fun b : Byte => b.getLsbD i) heq
      simpa [BitVec.getLsbD_and, hmask] using hbit
    · intro hbits
      apply BitVec.eq_of_getLsbD_eq
      intro i hi
      rw [BitVec.getLsbD_and, BitVec.getLsbD_and]
      cases hmask : fp.admissionMask.getLsbD i with
      | false => rw [Bool.and_false, Bool.and_false]
      | true => rw [hbits i hi hmask]
  · intro hmask
    have hand : ∀ x : Byte, x &&& 0 = 0 := fun x => BitVec.and_zero
    rw [FurnaceParams.admits, hmask, hand, hand, beq_self_eq_true]

theorem greatest_one (n : Nat) : greatest [n] = n := Nat.zero_max n

theorem greatest_two (m n : Nat) : greatest [m, n] = max m n := congrArg (fun x => max x n) (Nat.zero_max m)

/-- A quotient rounded up, by what it multiplies to. -/
theorem ceilDiv_bounds (a b : Nat) (h : 0 < b) : a ≤ b * ceilDiv a b ∧ b * ceilDiv a b < a + b := by
  have hdiv := Nat.div_add_mod (a + (b - 1)) b
  have hmod := Nat.mod_lt (a + (b - 1)) h
  rw [ceilDiv]
  omega

/-- R96: the percent of a slab lies between 30 and 100 within the ranges. -/
theorem percent_bounds (fp : FurnaceParams) (c : TempClass) (hwarm : 50 ≤ fp.warmPercent) (hwarm' : fp.warmPercent ≤ 100)
    (hhot : 30 ≤ fp.hotPercent) (hhot' : fp.hotPercent ≤ 100) : 30 ≤ fp.percent c ∧ fp.percent c ≤ 100 := by
  cases c <;> simp only [FurnaceParams.percent] <;> omega

/-- R97: the soak target of figures within their ranges. -/
theorem soakTargetOf_range {thickness factor percent : Nat} (ht : 120 ≤ thickness ∧ thickness ≤ 450)
    (hf : 100 ≤ factor ∧ factor ≤ 900) (hp : 30 ≤ percent ∧ percent ≤ 100) :
    360 ≤ soakTargetOf thickness factor percent ∧ soakTargetOf thickness factor percent ≤ 40500 := by
  have hlow : 120 * 100 * 30 ≤ thickness * factor * percent := Nat.mul_le_mul (Nat.mul_le_mul ht.1 hf.1) hp.1
  have hhigh : thickness * factor * percent ≤ 450 * 900 * 100 := Nat.mul_le_mul (Nat.mul_le_mul ht.2 hf.2) hp.2
  rw [soakTargetOf, ceilDiv]
  omega

/-- Settles O22: the figures of one slab and of two, and a product rounded up within its bounds. -/
theorem rowFiguresAndSoakTarget : Obligations.RowFiguresAndSoakTarget := by
  unfold Obligations.RowFiguresAndSoakTarget
  intro fp a b
  refine ⟨rfl, rfl, rfl, greatest_one _, greatest_one _, greatest_one _, greatest_two _ _, greatest_two _ _, greatest_two _ _,
    fun row hrow => ?_⟩
  obtain ⟨hlow, hhigh⟩ := ceilDiv_bounds (rowThickness row * fp.heatingFactor * fp.rowPercent row) 1000 (by omega)
  refine ⟨hlow, hhigh, fun hthick hf hf' hw hw' hh hh' => ?_⟩
  have hpercent (r : SlabRecord) := percent_bounds fp r.tempClass hw hw' hh hh'
  refine soakTargetOf_range ?_ ⟨hf, hf'⟩ ?_
  · rcases hrow with rfl | rfl
    · have ha := hthick a (List.mem_singleton_self a)
      rw [show rowThickness [a] = a.thickness from greatest_one _]
      exact ha
    · have ha := hthick a (by simp)
      have hb := hthick b (by simp)
      rw [show rowThickness [a, b] = max a.thickness b.thickness from greatest_two _ _]
      omega
  · rcases hrow with rfl | rfl
    · rw [show fp.rowPercent [a] = fp.percent a.tempClass from greatest_one _]
      exact hpercent a
    · have ha := hpercent a
      have hb := hpercent b
      rw [show fp.rowPercent [a, b] = max (fp.percent a.tempClass) (fp.percent b.tempClass) from greatest_two _ _]
      omega

end Sums

end Sys2Proof.Proofs

/-!
PROOFS. Steps and the clock: the queue, the tick, the soak check and the advance of the running seconds (O1, O2, O30), the reset
state (O8), and the notices of a fault (O17).
-/

namespace Sys2Proof.Proofs

open Sys2Proof Sys2Proof.Machine

/-! ### The queue (O1, O2) -/

section Queue

variable {s : State}

/-- Settles O1. -/
theorem stepTakesFrontCommand : Obligations.StepTakesFrontCommand := by
  unfold Obligations.StepTakesFrontCommand
  intro c rest s h
  rw [step, h]

theorem tickTimer_eq (t : Timer) : tickTimer t = t.map fun n => n - 1 := by cases t <;> rfl

theorem timerDue_iff (t : Timer) : timerDue t = true ↔ ∃ n, t = some n ∧ n ≤ 1 := by
  cases t <;> simp [timerDue]

theorem mem_dueCommand {on : Bool} {c i : Instr} : c ∈ dueCommand on i ↔ on = true ∧ c = i := by
  cases on <;> simp [dueCommand]

/-- R52, R70, R138, R172, R183: the commands that fall due. -/
theorem mem_dueCommands (s : State) (c : Instr) : c ∈ s.dueCommands ↔
    (9 ≤ s.subSecond ∧ c = .runningSecondsAdvance) ∨
    (∃ k, timerDue (s.crane k).permitTimer = true ∧ c = .permitTimerExpiry k) ∨
    (∃ k, timerDue (s.crane k).custodyTimer = true ∧ c = .custodyTimerExpiry k) ∨
    (∃ f, timerDue (s.furnace f).chargeTimer = true ∧ c = .chargeTimerExpiry f) ∨
    ∃ p, timerDue (s.port p).silence = true ∧ c = .silenceTimerExpiry p := by
  have hcranes : ∀ k : Crane, k ∈ [Crane.c1, Crane.c2] := fun k => by cases k <;> simp
  have hfurnaces : ∀ f : Furnace, f ∈ [Furnace.f1, Furnace.f2, Furnace.f3] := fun f => by cases f <;> simp
  have hports : ∀ p : Port, p ∈ [Port.p0, Port.p1, Port.p2, Port.p3, Port.p4, Port.p5] := fun p => by cases p <;> simp
  simp only [State.dueCommands, List.mem_append, List.mem_flatMap, mem_dueCommand, decide_eq_true_iff, hcranes, hfurnaces, hports,
    true_and, or_assoc]

/-- The commands of one kind of timer, each of them once. -/
theorem nodup_dueCommands_of {α : Type} (l : List α) (hl : l.Nodup) (due : α → Bool) (i : α → Instr)
    (hi : ∀ a b, i a = i b → a = b) : (l.flatMap fun a => dueCommand (due a) (i a)).Nodup := by
  refine List.nodup_flatMap.mpr ⟨fun a _ => ?_, hl.imp fun hne x hx hy => ?_⟩
  · cases due a <;> simp [dueCommand]
  · obtain ⟨-, rfl⟩ := mem_dueCommand.mp hx
    obtain ⟨-, heq⟩ := mem_dueCommand.mp hy
    exact hne (hi _ _ heq)

theorem nodup_dueCommands (s : State) : s.dueCommands.Nodup := by
  refine List.Nodup.append (List.Nodup.append (List.Nodup.append (List.Nodup.append ?_ ?_ ?_) ?_ ?_) ?_ ?_) ?_ ?_
  · cases decide (9 ≤ s.subSecond) <;> simp [dueCommand]
  · exact nodup_dueCommands_of _ (by decide) _ _ fun _ _ h => by cases h; rfl
  · intro c hc hc'
    simp only [List.mem_flatMap, mem_dueCommand] at hc hc'
    obtain ⟨-, rfl⟩ := hc
    obtain ⟨_, _, _, h⟩ := hc'
    cases h
  · exact nodup_dueCommands_of _ (by decide) _ _ fun _ _ h => by cases h; rfl
  · intro c hc hc'
    simp only [List.mem_append, List.mem_flatMap, mem_dueCommand] at hc hc'
    obtain ⟨_, _, _, rfl⟩ := hc'
    rcases hc with ⟨-, h⟩ | ⟨_, _, _, h⟩ <;> cases h
  · exact nodup_dueCommands_of _ (by decide) _ _ fun _ _ h => by cases h; rfl
  · intro c hc hc'
    simp only [List.mem_append, List.mem_flatMap, mem_dueCommand] at hc hc'
    obtain ⟨_, _, _, rfl⟩ := hc'
    rcases hc with (⟨-, h⟩ | ⟨_, _, _, h⟩) | ⟨_, _, _, h⟩ <;> cases h
  · exact nodup_dueCommands_of _ (by decide) _ _ fun _ _ h => by cases h; rfl
  · intro c hc hc'
    simp only [List.mem_append, List.mem_flatMap, mem_dueCommand] at hc hc'
    obtain ⟨_, _, _, rfl⟩ := hc'
    rcases hc with ((⟨-, h⟩ | ⟨_, _, _, h⟩) | ⟨_, _, _, h⟩) | ⟨_, _, _, h⟩ <;> cases h

theorem tick_pending (hw : s.powered = true) (hq : s.pending = []) : s.tick.pending = s.dueCommands := by
  show (if s.powered then s.pending ++ s.dueCommands else s.pending) = _
  rw [if_pos hw, hq, List.nil_append]

/-- R180: a tick leaves the retained store. -/
theorem tick_sameStore (hw : s.powered = true) : SameStore s s.tick where
  register := rfl
  doubtList := rfl
  sequence := rfl
  lane := rfl
  laneDoubt := rfl
  maps f := by rw [tick_furnace hw]; exact ⟨rfl, rfl, rfl, rfl⟩
  log := rfl
  logOverrun := rfl
  params := rfl
  mode := rfl
  runningSeconds := rfl
  resetRecord := rfl
  storeWritten := rfl

/-- Settles O2: the timers of a tick, and the members of its commands. -/
theorem emptyQueueLetsTimePass : Obligations.EmptyQueueLetsTimePass := by
  unfold Obligations.EmptyQueueLetsTimePass
  intro s hq hw
  have hmem (c : Instr) : c ∈ s.tick.pending ↔ _ := (tick_pending hw hq).symm ▸ mem_dueCommands s c
  refine ⟨s.tick, by rw [step, hq], tick_sameStore hw, hw, rfl, rfl, if_pos hw, fun k => ?_, fun f => ?_, fun p => ?_, ?_, fun k => ?_,
    fun k => ?_, fun f => ?_, fun p => ?_, tick_pending hw hq ▸ nodup_dueCommands s, fun c hc => ?_⟩
  · rw [tick_crane hw, CraneState.ticked, tickTimer_eq, tickTimer_eq]
  · rw [tick_furnace hw, FurnaceState.ticked, tickTimer_eq]
  · rw [tick_port hw, PortState.ticked, tickTimer_eq]
  · simp [hmem]
  · simp [hmem, timerDue_iff]
  · simp [hmem, timerDue_iff]
  · simp [hmem, timerDue_iff]
  · simp [hmem, timerDue_iff]
  · rcases (hmem c).mp hc with ⟨-, rfl⟩ | ⟨k, -, rfl⟩ | ⟨k, -, rfl⟩ | ⟨f, -, rfl⟩ | ⟨p, -, rfl⟩
    · exact .inl rfl
    · exact .inr (.inl ⟨k, .inl rfl⟩)
    · exact .inr (.inl ⟨k, .inr rfl⟩)
    · exact .inr (.inr (.inl ⟨f, rfl⟩))
    · exact .inr (.inr (.inr ⟨p, rfl⟩))

end Queue

/-! ### The soak check (R117) -/

section Soak

variable (s : State)

/-- R117: the front row of these rows has soaked and has not been notified. -/
def soakDueIn (rows : List Row) : Bool :=
  match rows.getLast? with
  | some r => decide (r.soakTarget ≤ r.residence) && !r.soakNotified
  | none => false

theorem soakDue_eq (f : Furnace) : s.soakDue f = soakDueIn (s.furnace f).rows := rfl

/-- R117: rows after a soak check. -/
def soakedRows (rows : List Row) : List Row := if soakDueIn rows then markFront rows else rows

/-- R117: a row at an index of a map of that many rows, after a soak check. -/
def soakedRow (index count : Nat) (r : Row) : Row :=
  { r with soakNotified := r.soakNotified || (index + 1 == count && decide (r.soakTarget ≤ r.residence)) }

theorem length_soakedRows (rows : List Row) : (soakedRows rows).length = rows.length := by
  unfold soakedRows
  split
  · exact markFront_length rows
  · rfl

theorem markFront_getElem? (rows : List Row) (i : Nat) : (markFront rows)[i]? = rows[i]?.map fun r =>
    if i + 1 = rows.length then { r with soakNotified := true } else r := by
  induction rows generalizing i with
  | nil => rfl
  | cons x rest ih =>
    cases rest with
    | nil =>
      cases i with
      | zero => rfl
      | succ i => rfl
    | cons y rest =>
      rw [markFront]
      cases i with
      | zero => simp
      | succ i => simpa using ih i

/-- R117: the rows of a map after its soak check, index by index. -/
theorem soakedRows_getElem? {rows : List Row} {i : Nat} {r : Row} (hr : rows[i]? = some r) :
    (soakedRows rows)[i]? = some (soakedRow i rows.length r) := by
  have hlt := (List.getElem?_eq_some_iff.mp hr).1
  have hsame (h : ¬(i + 1 = rows.length ∧ r.soakTarget ≤ r.residence ∧ r.soakNotified = false)) : soakedRow i rows.length r = r := by
    cases hn : r.soakNotified <;> simp only [hn, and_true] at h <;> simp [soakedRow, hn] <;> cases r <;> simp_all
  by_cases hlast : i + 1 = rows.length
  · have hfront : rows.getLast? = some r := by rw [List.getLast?_eq_getElem?, ← hlast]; exact hr
    have hdue : soakDueIn rows = (decide (r.soakTarget ≤ r.residence) && !r.soakNotified) := by rw [soakDueIn, hfront]
    rw [soakedRows, hdue]
    split
    · next h =>
      rw [markFront_getElem?, hr, Option.map_some, if_pos hlast]
      simp only [Bool.and_eq_true, decide_eq_true_iff] at h
      simp [soakedRow, hlast, h.1]
    · next h =>
      rw [hr, hsame fun ⟨_, hsoaked, hnot⟩ => h (by simp [hsoaked, hnot])]
  · rw [hsame fun h => hlast h.1, soakedRows]
    split
    · rw [markFront_getElem?, hr, Option.map_some, if_neg hlast]
    · exact hr

theorem soakCheck_furnace (f g : Furnace) : (s.soakCheck f).furnace g =
    if g = f then { s.furnace f with rows := soakedRows (s.furnace f).rows } else s.furnace g := by
  rw [State.soakCheck, State.raiseWhen_furnace, State.updateFurnace_furnace]
  rfl

theorem soakCheck_notices (f : Furnace) (q : Port) : ((s.soakCheck f).port q).notices = (s.port q).notices |||
    if soakDueIn (s.furnace f).rows = true ∧ s.present (furnacePort f) = true ∧ q = furnacePort f then 0x04 else 0 := by
  rw [State.soakCheck, raiseWhen_notices]
  rfl

theorem soakCheck_port (f : Furnace) (q : Port) :
    (s.soakCheck f).port q = { s.port q with notices := ((s.soakCheck f).port q).notices } :=
  path_port (P := fun x => x = .furnace f) (path_soakCheck s rfl) nofun

end Soak

/-! ### The running seconds (O30) -/

section Seconds

variable (s : State)

/-- R116: what the Furnace Map of a furnace holds a second later. -/
def olderMap (m : FurnaceState) : FurnaceState := { m with rows := soakedRows (m.rows.map Row.aged) }

theorem ageMap_furnace_eq (f g : Furnace) : (s.ageMap f).furnace g = if g = f then olderMap (s.furnace f) else s.furnace g := by
  rw [State.ageMap, soakCheck_furnace, State.updateFurnace_furnace, State.updateFurnace_furnace, if_pos rfl]
  split
  · rfl
  · rfl

theorem ageMap_eq (f : Furnace) : s.ageMap f = { s with furnaces := (s.ageMap f).furnaces, ports := (s.ageMap f).ports } := rfl

theorem ageMap_present (f : Furnace) (p : Port) : (s.ageMap f).present p = s.present p := by
  rw [State.ageMap, State.soakCheck_present, State.updateFurnace_present]

theorem ageMap_notices (f : Furnace) (q : Port) : ((s.ageMap f).port q).notices = (s.port q).notices |||
    if soakDueIn ((s.furnace f).rows.map Row.aged) = true ∧ s.present (furnacePort f) = true ∧ q = furnacePort f then 0x04 else 0 := by
  rw [State.ageMap, soakCheck_notices, State.updateFurnace_furnace, if_pos rfl]
  rfl

theorem ageMap_port (f : Furnace) (q : Port) : (s.ageMap f).port q = { s.port q with notices := ((s.ageMap f).port q).notices } := by
  rw [State.ageMap, soakCheck_port]
  rfl

theorem advanceSeconds_furnace (f : Furnace) : s.advanceSeconds.furnace f = olderMap (s.furnace f) := by
  rw [State.advanceSeconds]
  simp only [ageMap_furnace_eq]
  cases f <;> rfl

/-- R117: the notices of every port after the seconds have advanced. -/
theorem advanceSeconds_notices (q : Port) : (s.advanceSeconds.port q).notices = (s.port q).notices |||
    (if soakDueIn ((s.furnace .f1).rows.map Row.aged) = true ∧ s.present .p3 = true ∧ q = .p3 then 0x04 else 0) |||
    (if soakDueIn ((s.furnace .f2).rows.map Row.aged) = true ∧ s.present .p4 = true ∧ q = .p4 then 0x04 else 0) |||
    (if soakDueIn ((s.furnace .f3).rows.map Row.aged) = true ∧ s.present .p5 = true ∧ q = .p5 then 0x04 else 0) := by
  rw [State.advanceSeconds]
  simp only [ageMap_notices, ageMap_present, ageMap_furnace_eq, reduceCtorEq, if_false]
  rfl

theorem advanceSeconds_port (q : Port) :
    s.advanceSeconds.port q = { s.port q with notices := (s.advanceSeconds.port q).notices } := by
  rw [State.advanceSeconds, ageMap_port, ageMap_port, ageMap_port]
  rfl

theorem advanceSeconds_eq : s.advanceSeconds =
    { s with runningSeconds := s.runningSeconds + 1, furnaces := s.advanceSeconds.furnaces, ports := s.advanceSeconds.ports } := by
  rw [State.advanceSeconds, ageMap_eq, ageMap_eq, ageMap_eq]

/-- R117: the bit that the soak check of a furnace raises. -/
theorem advanceSeconds_soak (f : Furnace) (h : s.present (furnacePort f) = true) :
    (s.advanceSeconds.port (furnacePort f)).notices = (s.port (furnacePort f)).notices |||
      if soakDueIn ((s.furnace f).rows.map Row.aged) = true then 0x04 else 0 := by
  rw [advanceSeconds_notices]
  cases f <;> simp only [furnacePort] at h ⊢ <;> simp only [h, reduceCtorEq, and_false, and_true, if_false, or_no_bit]

/-- R116, R117: no notice reaches another port. -/
theorem advanceSeconds_quiet {p : Port} (h : portFurnace p = none ∨ s.present p = false) : s.advanceSeconds.port p = s.port p := by
  have hnotices : (s.advanceSeconds.port p).notices = (s.port p).notices := by
    rw [advanceSeconds_notices]
    cases p <;> simp only [portFurnace, reduceCtorEq, false_or, true_or] at h <;>
      simp only [h, reduceCtorEq, Bool.false_eq_true, false_and, and_false, if_false, or_no_bit]
  rw [advanceSeconds_port, hnotices]

theorem soakDueIn_aged (rows : List Row) : (if soakDueIn (rows.map Row.aged) = true then (0x04 : Byte) else 0) =
    match rows.getLast? with
    | some r => if r.soakTarget ≤ min 65535 (r.residence + 1) ∧ r.soakNotified = false then 0x04 else 0x00
    | none => 0x00 := by
  rw [soakDueIn, List.getLast?_map]
  cases rows.getLast? with
  | none => rfl
  | some r => simp [Row.aged, Config.maxResidence]

/-- Settles O30: each map ages by `olderMap`, and each port takes the bit of its own furnace. -/
theorem secondsAgeEveryRow : Obligations.SecondsAgeEveryRow := by
  unfold Obligations.SecondsAgeEveryRow
  intro s hw
  refine ⟨s.advanceSeconds, event_of_powered _ hw, advanceSeconds_eq s, advanceSeconds_port s, fun p => advanceSeconds_quiet s,
    fun f => ⟨?_, ?_, fun i r hr => ?_, fun hp => ?_⟩⟩
  · rw [advanceSeconds_furnace]; rfl
  · rw [advanceSeconds_furnace, olderMap, length_soakedRows, List.length_map]
  · have haged : ((s.furnace f).rows.map Row.aged)[i]? = some r.aged := by rw [List.getElem?_map, hr, Option.map_some]
    refine ⟨soakedRow i ((s.furnace f).rows.map Row.aged).length r.aged, ?_, ?_, rfl, ?_⟩
    · rw [advanceSeconds_furnace]; exact soakedRows_getElem? haged
    · rfl
    · simp [soakedRow, Row.aged, Config.maxResidence]
  · exact (advanceSeconds_soak s f hp).trans (congrArg _ (soakDueIn_aged _))

end Seconds

/-! ### The reset state (O8) -/

/-- The reset state holds nothing, so its ledger is empty. -/
theorem tracksNothing_reset : TracksNothing State.reset :=
  ⟨rfl, rfl, rfl, rfl, rfl, fun k => by cases k <;> rfl, fun f => by cases f <;> exact ⟨rfl, rfl, rfl⟩⟩

/-- Settles O8: the reset state holds nothing, so every law speaks of empty collections and start values. -/
theorem resetIsSafe : Obligations.ResetIsSafe := by
  unfold Obligations.ResetIsSafe
  have hports (p : Port) : State.reset.port p = { PortState.fresh with sel := (State.reset.port p).sel } := by cases p <;> rfl
  refine ⟨{ bounds := ?_, account := account_iff_ledger.mpr (ledger_of_tracksNothing tracksNothing_reset), reservation := nofun },
    tracksNothing_reset⟩
  refine bounds_of_fresh_ports (Nat.zero_le _) (Nat.zero_le _) (fun f => ?_) (fun f r hr => ?_) (Nat.zero_le _) (fun b => ?_) hports
    params_default_within
  · cases f <;> exact Nat.zero_le _
  · rw [(tracksNothing_reset.maps f).1] at hr
    cases hr
  · cases b <;> exact Nat.zero_le _

/-! ### The notices of a fault (O17) -/

section Faults

variable (s : State) (bank : BankId) (code : FaultCode) (slab : Option SlabId) (port : Option Port)

theorem logFault_notices (q : Port) : ((s.logFault bank code slab port).port q).notices = (s.port q).notices |||
    (if (s.banks.get bank).raisesFault code.severity = true ∧ q = .p0 then 0x04 else 0) |||
    (if (s.banks.get bank).reachesThreshold code.severity = true ∧ q = .p0 then 0x20 else 0) := by
  have hp0 : ∀ v : State, v.present .p0 = true := fun _ => rfl
  rw [State.logFault, raiseWhen_notices, raiseWhen_notices]
  simp only [hp0, true_and]
  rfl

theorem logFault_port (q : Port) :
    (s.logFault bank code slab port).port q = { s.port q with notices := ((s.logFault bank code slab port).port q).notices } :=
  path_port (P := fun _ => False) (path_logFault s bank code slab port) fun h => h

theorem logFault_port_other {q : Port} (h : q ≠ .p0) : (s.logFault bank code slab port).port q = s.port q := by
  have hnotices : ((s.logFault bank code slab port).port q).notices = (s.port q).notices := by
    rw [logFault_notices]
    simp only [h, and_false, if_false, or_no_bit]
  rw [logFault_port, hnotices]

theorem takes_iff (b : Bank) (sev : Severity) :
    b.takes sev = true ↔ b.record = none ∨ ∃ r, b.record = some r ∧ r.severity.byte < sev.byte := by
  cases h : b.record with
  | none => simp [takes_of_empty h]
  | some r => simp [takes_iff_of_held h]

theorem raisesFault_iff (b : Bank) (sev : Severity) : b.raisesFault sev = true ↔
    (b.record = none ∨ ∃ r, b.record = some r ∧ r.severity.byte < sev.byte) ∧ (sev ≠ .advisory ∨ b.advisoryEnable = true) := by
  rw [Bank.raisesFault, Bool.and_eq_true, takes_iff, Bool.or_eq_true, bne_iff_ne]

theorem counts_iff (b : Bank) (sev : Severity) :
    b.counts sev = true ↔ sev = .recoverable ∧ b.counting = true ∧ b.counter < 4095 := by
  rw [Bank.counts, Bool.and_eq_true, Bool.and_eq_true, beq_iff_eq, decide_eq_true_iff, and_assoc]
  rfl

theorem reachesThreshold_iff (b : Bank) (sev : Severity) : b.reachesThreshold sev = true ↔
    (sev = .recoverable ∧ b.counting = true ∧ b.counter < 4095) ∧ b.counter + 1 = 4095 := by
  rw [Bank.reachesThreshold, Bool.and_eq_true, counts_iff, beq_iff_eq]
  rfl

/-- R157: a fault that raises nothing leaves every port. -/
theorem logFault_ports_quiet (hf : (s.banks.get bank).raisesFault code.severity = false)
    (ht : (s.banks.get bank).reachesThreshold code.severity = false) : (s.logFault bank code slab port).ports = s.ports := by
  rw [State.logFault, hf, ht, State.raiseWhen_false, State.raiseWhen_false]
  rfl

/-- R158: the threshold counter and its flag after a fault. -/
theorem logFault_bank : (s.logFault bank code slab port).banks.get bank =
    (s.banks.get bank).logged code slab port s.runningSeconds := by
  rw [logFault_banks_get, if_pos rfl]

/-- Settles O17: the two raises of a fault, and the bank as `Bank.logged` leaves it. -/
theorem faultNoticesAndThreshold : Obligations.FaultNoticesAndThreshold := by
  unfold Obligations.FaultNoticesAndThreshold
  intro s bank code slab port b t taken counted
  have hraises := raisesFault_iff b code.severity
  have hreaches := reachesThreshold_iff b code.severity
  have hcounts := counts_iff b code.severity
  have hnotices : (t.port .p0).notices = (s.port .p0).notices |||
      (if taken ∧ (code.severity ≠ .advisory ∨ b.advisoryEnable = true) then 0x04 else 0) |||
      (if counted ∧ b.counter + 1 = 4095 then 0x20 else 0) := by
    rw [logFault_notices]
    simp only [and_true, hraises, hreaches, b, counted, taken]
  have hbank : t.banks.get bank = b.logged code slab port s.runningSeconds := logFault_bank s bank code slab port
  refine ⟨fun htaken hnot => ?_, fun htaken hyes => ?_, fun htaken hyes => ?_, fun htaken hnot => ?_, fun h => ?_, fun h => ?_, ?_, ?_, ?_,
    State.logFault_eq s bank code slab port, logFault_port s bank code slab port, fun q => logFault_port_other s bank code slab port⟩
  · rw [hnotices, if_pos htaken, if_neg hnot, or_no_bit]
  · rw [hnotices, if_pos htaken, if_pos hyes]
  · rw [hnotices, if_neg htaken, if_pos hyes, or_no_bit]
  · exact logFault_ports_quiet s bank code slab port (Bool.eq_false_iff.mpr (mt hraises.mp htaken))
      (Bool.eq_false_iff.mpr (mt hreaches.mp hnot))
  · rw [hbank]; exact if_pos (hcounts.mpr h)
  · rw [hbank]; exact if_neg (mt hcounts.mp h)
  · rw [hbank, ← hreaches]; exact Bool.or_eq_true _ _ ▸ Iff.rfl
  · rw [hbank]; rfl
  · rw [hbank]; rfl

end Faults

end Sys2Proof.Proofs

/-!
PROOFS. Start-up, the loss of power and recovery: what a power-on makes of an empty store, of a CONFIG store and of a RUN store
(O26, O27, O29).
-/

namespace Sys2Proof.Proofs

open Sys2Proof Sys2Proof.Machine

section StartUp

variable (s : State)

theorem coldStart_crane (keepSel : Bool) (k : Crane) : (s.coldStart keepSel).crane k = CraneState.fresh := by cases k <;> rfl

theorem coldStart_port (p : Port) : (s.coldStart false).port p = PortState.fresh := by cases p <;> rfl

/-- R181: the state that is not retained stands at its start values after a cold start. -/
theorem atStartValues_coldStart (keepSel : Bool) : AtStartValues (s.coldStart keepSel) where
  banks := coldStart_banks_get s keepSel
  cranes := coldStart_crane s keepSel
  reservation := rfl
  chargeTimers f := by rw [coldStart_furnace]; rfl
  holds f := by rw [coldStart_furnace]; exact ⟨rfl, rfl⟩
  ports := fresh_ports_get s.ports keepSel
  subSecond := rfl

/-- R180: a cold start leaves the retained store. -/
theorem sameStore_coldStart (keepSel : Bool) : SameStore s (s.coldStart keepSel) where
  register := rfl
  doubtList := rfl
  sequence := rfl
  lane := rfl
  laneDoubt := rfl
  maps f := by rw [coldStart_furnace]; exact ⟨rfl, rfl, rfl, rfl⟩
  log := rfl
  logOverrun := rfl
  params := rfl
  mode := rfl
  runningSeconds := rfl
  resetRecord := rfl
  storeWritten := rfl

/-- Settles O29: the state after a loss of power is the one after a cold start, without power. -/
theorem lossOfPowerKeepsStore : Obligations.LossOfPowerKeepsStore := by
  unfold Obligations.LossOfPowerKeepsStore
  intro s hw
  have hstore := sameStore_coldStart s false
  have hstart := atStartValues_coldStart s false
  refine ⟨{ s.coldStart false with powered := false }, ?_, rfl, { hstore with }, { hstart with }⟩
  exact event_of_powered (fun t => { t.coldStart false with powered := false }) hw

/-- Settles O26: an empty store is erased, and a CONFIG store is left by the cold start alone. -/
theorem powerOnWithEmptyStore : Obligations.PowerOnWithEmptyStore := by
  unfold Obligations.PowerOnWithEmptyStore
  refine fun s => ⟨fun hempty => ?_, fun hwritten hmode => ?_⟩
  · show Host.Outcome.next s.powerUp = _
    have hstart : (!(s.coldStart false).storeWritten) = true := by rw [Bool.not_eq_true']; exact hempty
    rw [State.powerUp, State.startUp, if_pos hstart]
    rfl
  · have hstart : s.startUp false = s.coldStart false := by
      have hnot : ¬(!(s.coldStart false).storeWritten) = true := by rw [Bool.not_eq_true', Bool.not_eq_false]; exact hwritten
      have hcold : (s.coldStart false).mode = .config := hmode
      rw [State.startUp, if_neg hnot, hcold]
    have hpower : s.powerUp = { s.coldStart false with powered := true, resetRecord := ⟨true, false, false⟩ } := by
      rw [State.powerUp, hstart]
    have hvalues := atStartValues_coldStart s false
    refine ⟨s.powerUp, rfl, by rw [hpower]; rfl, hpower ▸ { hvalues with }, hpower ▸ coldStart_port s, hpower ▸ coldStart_furnace s false,
      fun h => hpower ▸ ?_⟩
    have hnothing := tracksNothing_coldStart h false
    exact { hnothing with }

end StartUp

/-! ### Recovery -/

section Recovery

variable {s : State}

theorem isLifted_recoverPermits (hs : Stands s) (x : SlabId) : isLifted s.recoverPermits x = isLifted s x := by
  rw [isLifted, (singled_recoverPermits hs).place, isLifted]
  cases hpl : s.place? x with
  | none => rfl
  | some pl => cases pl <;> rfl

/-- R142: a run of slabs becomes DOUBTFUL in its order. -/
theorem makeDoubtfuls_eq (last : SlabId × Side → LastKnown) (l : List (SlabId × Side)) (u : State) :
    ∃ register, l.foldl (fun v x => v.makeDoubtful x.1 (last x)) u =
      { u with register := register, doubtList := u.doubtList ++ l.map Prod.fst } := by
  induction l generalizing u with
  | nil => exact ⟨u.register, by rw [List.map_nil, List.append_nil]; rfl⟩
  | cons x l ih =>
    obtain ⟨register, hfold⟩ := ih (u.makeDoubtful x.1 (last x))
    refine ⟨register, ?_⟩
    rw [List.foldl_cons, hfold, State.makeDoubtful_doubtList, List.map_cons, List.append_assoc]
    rfl

/-- R181, step 3: a furnace after recovery has ended its operation. -/
def entryEnded (m : FurnaceState) : FurnaceState := { m with op := .idle false, chargeTimer := none }

/-- R181, step 3: what recovery of the entry of `f` leaves of a state. -/
theorem recoverEntry_books (u : State) (f : Furnace) : ∃ register, u.recoverEntry f = { u with
    register := register
    doubtList := u.doubtList ++ (u.furnace f).op.slabs.map Prod.fst
    furnaces := u.furnaces.set f (entryEnded (u.furnace f)) } := by
  obtain ⟨register, hfold⟩ := makeDoubtfuls_eq (fun x => .atEntry f x.2) (u.furnace f).op.slabs u
  exact ⟨register, by rw [recoverEntry_eq, hfold]; rfl⟩

/-- R181, steps 1 to 4: the books after the permits, the cranes and the entries have been recovered. -/
theorem recoverSlabs_books (hs : Stands s) : ∃ register,
    ((s.recoverPermits.recoverCustody.recoverEntry .f1).recoverEntry .f2).recoverEntry .f3 = { s with
      register := register
      sequence := s.sequence.filter fun x => !isLifted s x
      doubtList := s.doubtList ++ s.sequence.filter (isLifted s) ++
        ((s.furnace .f1).op.slabs ++ (s.furnace .f2).op.slabs ++ (s.furnace .f3).op.slabs).map Prod.fst
      furnaces := ⟨entryEnded s.furnaces.f1, entryEnded s.furnaces.f2, entryEnded s.furnaces.f3⟩ } := by
  obtain ⟨register, hcustody⟩ := recoverCustody_eq (stands_recoverPermits hs)
  have hlifted : isLifted s.recoverPermits = isLifted s := funext (isLifted_recoverPermits hs)
  obtain ⟨register₁, h₁⟩ := recoverEntry_books s.recoverPermits.recoverCustody .f1
  obtain ⟨register₂, h₂⟩ := recoverEntry_books (s.recoverPermits.recoverCustody.recoverEntry .f1) .f2
  obtain ⟨register₃, h₃⟩ := recoverEntry_books ((s.recoverPermits.recoverCustody.recoverEntry .f1).recoverEntry .f2) .f3
  refine ⟨register₃, ?_⟩
  rw [h₃, h₂, h₁, hcustody, hlifted, recoverPermits_eq]
  simp only [List.map_append, ← List.append_assoc]
  rfl

/-- R155, R157: a bank that takes a TRACKING_LOST fault as its first. -/
theorem logged_fresh (code : FaultCode) (hlost : code.severity = .trackingLost) (stamp : Word32) :
    Bank.fresh.logged code none none stamp =
      { Bank.fresh with record := some ⟨.trackingLost, code, none, none, stamp⟩, notified := true } := by
  rw [Bank.logged, hlost]
  rfl

/-- R157: such a fault raises FAULT alone. -/
theorem logFault_fresh_notices (u : State) (bank : BankId) (code : FaultCode) (hlost : code.severity = .trackingLost)
    (hfresh : u.banks.get bank = Bank.fresh) (q : Port) : ((u.logFault bank code none none).port q).notices =
      (u.port q).notices ||| if q = .p0 then 0x04 else 0 := by
  have hraises : Bank.fresh.raisesFault .trackingLost = true := rfl
  have hreaches : Bank.fresh.reachesThreshold .trackingLost = false := rfl
  rw [logFault_notices, hfresh, hlost, hraises, hreaches]
  simp only [true_and, Bool.false_eq_true, false_and, if_false, or_no_bit]

/-- R181, step 5: the parts of a state that the doubt of a recovered furnace leaves. -/
theorem recoverDoubt_eq (u : State) (f : Furnace) : u.recoverDoubt f = { u with
    furnaces := (u.recoverDoubt f).furnaces, banks := (u.recoverDoubt f).banks, ports := (u.recoverDoubt f).ports } := by
  unfold State.recoverDoubt
  split
  · rfl
  · rfl

theorem recoverDoubt_furnace (u : State) (f g : Furnace) : (u.recoverDoubt f).furnace g =
    if g = f then { u.furnace f with doubt := (u.furnace f).doubt || !(u.furnace f).rows.isEmpty } else u.furnace g := by
  unfold State.recoverDoubt
  split
  · next h =>
    split
    · next hg => subst hg; rw [h, Bool.not_true, Bool.or_false]
    · rfl
  · next h =>
    have hrows : (u.furnace f).rows.isEmpty = false := Bool.eq_false_iff.mpr h
    rw [State.logFurnace_furnace, State.updateFurnace_furnace, hrows, Bool.not_false, Bool.or_true]

theorem recoverDoubt_banks (u : State) (f : Furnace) (b : BankId) : (u.recoverDoubt f).banks.get b =
    if b = furnaceBank f ∧ (u.furnace f).rows ≠ [] then (u.banks.get b).logged .furnaceRecovery none none u.runningSeconds
    else u.banks.get b := by
  unfold State.recoverDoubt
  split
  · next h => rw [if_neg fun hb => hb.2 (List.isEmpty_iff.mp h)]
  · next h =>
    have hrows : (u.furnace f).rows ≠ [] := fun hnil => h (by rw [hnil]; rfl)
    simp only [hrows, ne_eq, not_false_iff, and_true]
    rw [State.logFurnace, logFault_banks_get]
    split
    · next hb => subst hb; rfl
    · rfl

theorem recoverDoubt_notices (u : State) (f : Furnace) (hfresh : u.banks.get (furnaceBank f) = Bank.fresh) (q : Port) :
    ((u.recoverDoubt f).port q).notices = (u.port q).notices |||
      if q = .p0 ∧ (u.furnace f).rows ≠ [] then 0x04 else 0 := by
  unfold State.recoverDoubt
  split
  · next h => rw [if_neg fun hq => hq.2 (List.isEmpty_iff.mp h), or_no_bit]
  · next h =>
    have hrows : (u.furnace f).rows ≠ [] := fun hnil => h (by rw [hnil]; rfl)
    simp only [hrows, ne_eq, not_false_iff, and_true]
    exact logFault_fresh_notices (u.updateFurnace f fun m => { m with doubt := true }) (furnaceBank f) .furnaceRecovery rfl hfresh q

theorem recoverDoubt_port (u : State) (f : Furnace) (q : Port) :
    (u.recoverDoubt f).port q = { u.port q with notices := ((u.recoverDoubt f).port q).notices } := by
  unfold State.recoverDoubt
  split
  · rfl
  · exact logFault_port _ _ _ _ _ _

/-- R181, step 5: the three maps that become doubtful. -/
def recoverDoubts (u : State) : State := ((u.recoverDoubt .f1).recoverDoubt .f2).recoverDoubt .f3

theorem recoverDoubts_eq (u : State) : recoverDoubts u = { u with
    furnaces := (recoverDoubts u).furnaces, banks := (recoverDoubts u).banks, ports := (recoverDoubts u).ports } := by
  rw [recoverDoubts, recoverDoubt_eq, recoverDoubt_eq, recoverDoubt_eq]

theorem recoverDoubts_furnace (u : State) (f : Furnace) : (recoverDoubts u).furnace f =
    { u.furnace f with doubt := (u.furnace f).doubt || !(u.furnace f).rows.isEmpty } := by
  rw [recoverDoubts]
  simp only [recoverDoubt_furnace]
  cases f <;> rfl

theorem recoverDoubt_seconds (u : State) (f : Furnace) : (u.recoverDoubt f).runningSeconds = u.runningSeconds := by
  rw [recoverDoubt_eq]

theorem recoverDoubts_banks (u : State) (f : Furnace) : (recoverDoubts u).banks.get (furnaceBank f) =
    if (u.furnace f).rows = [] then u.banks.get (furnaceBank f)
    else (u.banks.get (furnaceBank f)).logged .furnaceRecovery none none u.runningSeconds := by
  rw [recoverDoubts]
  cases f <;> simp [recoverDoubt_banks, recoverDoubt_furnace, recoverDoubt_seconds, furnaceBank]

theorem recoverDoubts_banks_other (u : State) {b : BankId} (hb : ∀ f, b ≠ furnaceBank f) :
    (recoverDoubts u).banks.get b = u.banks.get b := by
  rw [recoverDoubts]
  simp [recoverDoubt_banks, hb]

theorem recoverDoubts_port (u : State) (q : Port) :
    (recoverDoubts u).port q = { u.port q with notices := ((recoverDoubts u).port q).notices } := by
  rw [recoverDoubts, recoverDoubt_port, recoverDoubt_port, recoverDoubt_port]

/-- R157, R181: the RECOVERY faults of the maps raise FAULT again, which stands already. -/
theorem recoverDoubts_notices (u : State) (hfresh : ∀ f, u.banks.get (furnaceBank f) = Bank.fresh) (q : Port)
    (hfault : q = .p0 → (u.port q).notices = 0x04) : ((recoverDoubts u).port q).notices = (u.port q).notices := by
  have hagain (x : Byte) (p : Prop) [Decidable p] (hx : q = .p0 → x = 0x04) : (x ||| if q = .p0 ∧ p then 0x04 else 0) = x := by
    split
    · next h => rw [hx h.1]; rfl
    · exact or_no_bit x
  have h₁ : ((u.recoverDoubt .f1).port q).notices = (u.port q).notices := by
    rw [recoverDoubt_notices u .f1 (hfresh .f1), hagain _ _ hfault]
  have h₂ : (((u.recoverDoubt .f1).recoverDoubt .f2).port q).notices = (u.port q).notices := by
    rw [recoverDoubt_notices _ .f2 (by rw [recoverDoubt_banks, if_neg (by simp [furnaceBank])]; exact hfresh .f2), h₁,
      hagain _ _ hfault]
  rw [recoverDoubts, recoverDoubt_notices _ .f3 (by
    rw [recoverDoubt_banks, if_neg (by simp [furnaceBank]), recoverDoubt_banks, if_neg (by simp [furnaceBank])]
    exact hfresh .f3), h₂, hagain _ _ hfault]

/-- R181, step 5: the state before the maps become doubtful, over the state in which the slabs have been recovered. -/
def laneRecovered (e : State) : State := State.logFault { e with laneDoubt := true } .lane .laneRecovery none none

theorem recover_eq (u : State) : u.recover =
    recoverDoubts (laneRecovered (((u.recoverPermits.recoverCustody.recoverEntry .f1).recoverEntry .f2).recoverEntry .f3)) := rfl

/-- R181: a power-on with a RUN store is recovery. -/
theorem powerUp_run (hwritten : s.storeWritten = true) (hmode : s.mode = .run) :
    s.powerUp = { (s.coldStart false).recover with powered := true, resetRecord := ⟨true, false, false⟩ } := by
  have hnot : ¬(!(s.coldStart false).storeWritten) = true := by rw [Bool.not_eq_true', Bool.not_eq_false]; exact hwritten
  have hcold : (s.coldStart false).mode = .run := hmode
  rw [State.powerUp, State.startUp, if_neg hnot, hcold]

/-- R181: the books of a RUN store after recovery: `e` is the state in which the slabs have been recovered. -/
theorem coldRecover_books (h : Account s) : ∃ register,
    (s.coldStart false).recover = recoverDoubts (laneRecovered { s.coldStart false with
      register := register
      sequence := s.sequence.filter fun x => !isLifted s x
      doubtList := s.doubtList ++ s.sequence.filter (isLifted s) ++
        ((s.furnace .f1).op.slabs ++ (s.furnace .f2).op.slabs ++ (s.furnace .f3).op.slabs).map Prod.fst
      furnaces := ⟨entryEnded s.furnaces.f1.restarted, entryEnded s.furnaces.f2.restarted, entryEnded s.furnaces.f3.restarted⟩ }) := by
  obtain ⟨register, hbooks⟩ := recoverSlabs_books (stands_coldStart (account_iff_ledger.mp h).stands false)
  exact ⟨register, by rw [recover_eq, hbooks]; rfl⟩

theorem laneRecovered_notices (e : State) (hfresh : e.banks.lane = Bank.fresh) (q : Port) :
    ((laneRecovered e).port q).notices = (e.port q).notices ||| if q = .p0 then 0x04 else 0 :=
  logFault_fresh_notices { e with laneDoubt := true } .lane .laneRecovery rfl hfresh q

theorem laneRecovered_banks (e : State) (b : BankId) : (laneRecovered e).banks.get b =
    if b = .lane then e.banks.lane.logged .laneRecovery none none e.runningSeconds else e.banks.get b :=
  logFault_banks_get { e with laneDoubt := true } .lane b .laneRecovery none none

/-- R155, R157, R181: the banks and the ports after the recovery of a part whose banks and ports stand at their start values. -/
theorem recovered_banks_ports (e : State) (hbanks : ∀ b, e.banks.get b = Bank.fresh) (hports : ∀ p, e.port p = PortState.fresh) :
    let t := recoverDoubts (laneRecovered e)
    t.banks.link = Bank.fresh ∧ t.banks.sequence = Bank.fresh ∧
      t.banks.lane = { Bank.fresh with record := some ⟨.trackingLost, .laneRecovery, none, none, e.runningSeconds⟩, notified := true } ∧
      (∀ f : Furnace, t.banks.get (furnaceBank f) = if (e.furnace f).rows = [] then Bank.fresh
        else { Bank.fresh with record := some ⟨.trackingLost, .furnaceRecovery, none, none, e.runningSeconds⟩, notified := true }) ∧
      t.port .p0 = { PortState.fresh with notices := 0x04 } ∧ (∀ p : Port, p ≠ .p0 → t.port p = PortState.fresh) := by
  intro t
  have hother (b : BankId) (hb : ∀ f, b ≠ furnaceBank f) : t.banks.get b = (laneRecovered e).banks.get b :=
    recoverDoubts_banks_other _ hb
  have hfurnace (f : Furnace) : (laneRecovered e).banks.get (furnaceBank f) = Bank.fresh := by
    rw [laneRecovered_banks, if_neg (by cases f <;> decide), hbanks]
  have hnotices (q : Port) : (t.port q).notices = if q = .p0 then 0x04 else 0 := by
    have hlane : ((laneRecovered e).port q).notices = if q = .p0 then 0x04 else 0 := by
      rw [laneRecovered_notices e (hbanks .lane), hports]
      split <;> rfl
    rw [recoverDoubts_notices _ hfurnace q fun hq => by rw [hlane, if_pos hq], hlane]
  have hport (q : Port) : t.port q = { PortState.fresh with notices := (t.port q).notices } := by
    rw [recoverDoubts_port, laneRecovered, logFault_port]
    have he : State.port { e with laneDoubt := true } q = PortState.fresh := hports q
    rw [he]
  refine ⟨(hother .link fun f => by cases f <;> decide).trans ?_, (hother .sequence fun f => by cases f <;> decide).trans ?_, (hother .lane fun f => by cases f <;> decide).trans ?_, fun f => ?_, ?_,
    fun p hp => ?_⟩
  · rw [laneRecovered_banks, if_neg (by decide), hbanks]
  · rw [laneRecovered_banks, if_neg (by decide), hbanks]
  · rw [laneRecovered_banks, if_pos rfl, show e.banks.lane = Bank.fresh from hbanks .lane, logged_fresh _ rfl]
  · rw [recoverDoubts_banks, hfurnace, logged_fresh _ rfl]
    rfl
  · rw [hport, hnotices, if_pos rfl]
  · rw [hport, hnotices, if_neg hp]
    rfl

/-- Settles O27: the books by `coldRecover_books`, the records by `singled_recover`, the banks and ports by
`recovered_banks_ports`. -/
theorem powerOnRecoversRunStore : Obligations.PowerOnRecoversRunStore := by
  unfold Obligations.PowerOnRecoversRunStore
  intro s h hwritten hmode lifted touched
  have hledger := account_iff_ledger.mp h
  obtain ⟨register, hbooks⟩ := coldRecover_books h
  obtain ⟨hsingled, -, -⟩ := singled_recover (files_of_register (t := s.coldStart false) hledger.files rfl)
    (stands_coldStart hledger.stands false)
  have hlifted : lifted = isLifted s := funext fun x => by
    show _ = ((s.place? x).bind lostPlace).isSome
    simp only [lifted]
    cases s.place? x with
    | none => rfl
    | some pl => cases pl <;> rfl
  have htouched (x : SlabId) : (((s.coldStart false).place? x).bind recoveredPlace).isSome = touched x := by
    show ((s.place? x).bind recoveredPlace).isSome = _
    simp only [touched]
    cases s.place? x with
    | none => rfl
    | some pl => cases pl <;> rfl
  have hpower := powerUp_run hwritten hmode
  have hall : Singled (fun x => ((s.coldStart false).place? x).bind recoveredPlace) (s.coldStart false) s.powerUp :=
    singled_of_register hsingled (by rw [hpower])
  generalize he : ({ s.coldStart false with register := _, sequence := _, doubtList := _, furnaces := _ } : State) = e at hbooks
  have hpower' : s.powerUp = { recoverDoubts (laneRecovered e) with powered := true, resetRecord := ⟨true, false, false⟩ } := by
    rw [hpower, hbooks]
  have hfurnace (f : Furnace) : e.furnace f = entryEnded (s.furnace f).restarted := by subst he; cases f <;> rfl
  obtain ⟨hlink, hsequence, hlane, hbank, hp0, hports⟩ := recovered_banks_ports e
    (fun b => by subst he; exact coldStart_banks_get s false b) (fun p => by subst he; exact coldStart_port s p)
  have hseconds : e.runningSeconds = s.runningSeconds := by subst he; rfl
  have hdoubts := recoverDoubts_eq (laneRecovered e)
  refine ⟨s.powerUp, rfl, ?_, ?_, ?_, ?_, ?_, ?_, ?_, ?_, ?_, ?_, ?_, ?_, ?_, ?_, ?_, ?_, ?_, ?_, ?_, ?_, ?_, ?_, ?_, ?_, ?_⟩
  · rw [hpower']
  · rw [hpower', hdoubts]; subst he; exact hmode
  · rw [hpower']
  · rw [hpower', hdoubts]; subst he; rfl
  · rw [hpower', hdoubts]; subst he; rfl
  · rw [hpower', hdoubts]; subst he; rfl
  · rw [hpower', hdoubts]; subst he; rfl
  · rw [hpower', hdoubts]; subst he; rfl
  · rw [hpower', hdoubts]; rfl
  · rw [hpower', hdoubts]; subst he; rfl
  · rw [hpower', hdoubts]; subst he; rfl
  · rw [hpower', hdoubts, hlifted]; subst he; rfl
  · rw [hpower', hdoubts, hlifted]; subst he; rfl
  · intro id
    rw [hall.place, show (s.coldStart false).place? id = s.place? id from rfl]
    cases s.place? id with
    | none => rfl
    | some pl => cases pl <;> rfl
  · intro id
    rw [hall.partner]
    simp only [htouched]
    rfl
  · intro id r hr
    obtain ⟨r', hr', hsingle, hsame⟩ := hall.slab id r hr
    obtain rfl := State.slab?_id hr
    refine ⟨r', hr', fun hnot => hsame ?_, fun q hq hyes => hsingle ⟨q, hq, by simpa only [htouched] using hyes⟩⟩
    rintro ⟨q, hq, hyes⟩
    simp only [htouched] at hyes
    rcases hyes with hyes | hyes
    · exact absurd ((hnot q hq).1.symm.trans hyes) Bool.false_ne_true
    · exact absurd ((hnot q hq).2.symm.trans hyes) Bool.false_ne_true
  · exact hall.ids
  · intro k
    rw [hpower]
    exact (recover_crane (s.coldStart false) k).trans (coldStart_crane s false k)
  · intro f
    rw [hpower']
    refine (recoverDoubts_furnace (laneRecovered e) f).trans ?_
    have hlaneFurnace : (laneRecovered e).furnace f = e.furnace f := by rw [laneRecovered, State.logFault_furnace]; rfl
    rw [hlaneFurnace, hfurnace]
    rfl
  · rw [hpower']; exact hlink
  · rw [hpower']; exact hsequence
  · rw [hpower']; exact hseconds ▸ hlane
  · intro f
    rw [hpower', ← hseconds]
    refine (hbank f).trans ?_
    rw [hfurnace]
    rfl
  · rw [hpower']; exact hp0
  · intro p hp
    rw [hpower']
    exact hports p hp

end Recovery

end Sys2Proof.Proofs

/-!
PROOFS. How a served request answers, by what its rule makes of the state; and walks, with the first new overlap (O51).
-/

namespace Sys2Proof.Proofs

open Sys2Proof Sys2Proof.Machine

/-! ### Answers of a served request (R165, R169) -/

section Answers

variable {s t : State} {p : Port} {rule : State → State × Response} {k : Kind}

theorem request_answer {r : Response} (h : s.serves p) (hk : k.allowedTo (portRole p) = true) (hrule : rule s = (t, r)) :
    request p k rule s = .next (t.respond p r) := by
  rw [request_of_serves k rule h hk, hrule]

theorem request_done {body : List Byte} (h : s.serves p) (hk : k.allowedTo (portRole p) = true) (hrule : rule s = (t, .done body)) :
    request p k rule s = .next (t.done p body) := request_answer h hk hrule

theorem request_refused {e : RefuseReason} (h : s.serves p) (hk : k.allowedTo (portRole p) = true) (hrule : rule s = refused t e) :
    request p k rule s = .next (t.respond p (.refuse e [])) := request_answer h hk hrule

theorem request_taken {body : State → List Byte} {answer : List Byte} (h : s.serves p) (hk : k.allowedTo (portRole p) = true)
    (hrule : rule s = taken s t body) (hbody : body (settle s t) = answer) :
    request p k rule s = .next ((settle s t).done p answer) := by
  subst hbody
  exact request_answer h hk hrule

end Answers

/-- R177: a configured furnace is named by its number. -/
theorem configuredFurnace_number {s : State} {f : Furnace} (h : f ∈ s.configured) : s.configuredFurnace (furnaceNumber f) = some f := by
  have hle : furnaceNumber f ≤ s.params.furnaceCount := by simpa [State.configured] using (List.mem_filter.mp h).2
  rw [State.configuredFurnace, if_pos hle]
  cases f <;> rfl

/-! ### Overlaps (R105, R113) -/

section Overlaps

/-- R105: the rows at an index and behind it overlap. -/
def overlapsAt (l : List Row) (i : Nat) : Prop := ∃ a b : Row, l[i]? = some a ∧ l[i + 1]? = some b ∧ b.rear < a.rear + a.width

theorem overlapsAt_zero (a b : Row) (l : List Row) : overlapsAt (a :: b :: l) 0 ↔ rowsOverlap a b = true := by
  rw [rowsOverlap, decide_eq_true_iff]
  simp [overlapsAt, Row.far]

theorem overlapsAt_succ (a : Row) (l : List Row) (i : Nat) : overlapsAt (a :: l) (i + 1) ↔ overlapsAt l i := by
  simp [overlapsAt]

theorem not_overlapsAt_short {l : List Row} (h : l.length ≤ 1) (i : Nat) : ¬overlapsAt l i := by
  rintro ⟨a, b, -, hb, -⟩
  have := (List.getElem?_eq_some_iff.mp hb).1
  omega

/-- R113, step 3: no new overlap. -/
theorem newOverlap_eq_none (before after : List Row) (hlen : before.length = after.length)
    (h : ∀ i, overlapsAt after i → overlapsAt before i) : newOverlap before after = none := by
  induction before generalizing after with
  | nil =>
    obtain rfl := List.length_eq_zero_iff.mp hlen.symm
    rfl
  | cons a before ih =>
    match before, after, hlen with
    | [], [c], _ => rfl
    | b :: before, c :: d :: after, hlen =>
      rw [newOverlap, if_neg]
      · exact ih (d :: after) (by simpa using hlen) fun i hi =>
          (overlapsAt_succ a _ i).mp (h (i + 1) ((overlapsAt_succ c _ i).mpr hi))
      · rw [Bool.and_eq_true, Bool.not_eq_true']
        rintro ⟨hnew, hold⟩
        have := (overlapsAt_zero a b before).mp (h 0 ((overlapsAt_zero c d after).mpr hnew))
        rw [hold] at this
        cases this

/-- R113, step 3: the first new overlap, with the older row of it. -/
theorem newOverlap_eq_some (before after : List Row) (hlen : before.length = after.length) (i : Nat) (older : Row)
    (hnew : overlapsAt after i) (hold : ¬overlapsAt before i) (hfirst : ∀ j, j < i → overlapsAt after j → overlapsAt before j)
    (holder : after[i + 1]? = some older) : newOverlap before after = some older.slabA := by
  induction before generalizing after i with
  | nil =>
    obtain rfl := List.length_eq_zero_iff.mp hlen.symm
    cases holder
  | cons a before ih =>
    match before, after, hlen with
    | [], [c], _ => cases holder
    | b :: before, c :: d :: after, hlen =>
      cases i with
      | zero =>
        have hov := (overlapsAt_zero c d after).mp hnew
        have hnot : rowsOverlap a b = false := Bool.eq_false_iff.mpr (mt (overlapsAt_zero a b before).mpr hold)
        obtain rfl : d = older := by simpa using holder
        rw [newOverlap, hov, hnot]
        rfl
      | succ i =>
        rw [newOverlap, if_neg]
        · exact ih (d :: after) (by simpa using hlen) i ((overlapsAt_succ c _ i).mp hnew) (mt (overlapsAt_succ a _ i).mpr hold)
            (fun j hj hover => (overlapsAt_succ a _ j).mp (hfirst (j + 1) (by omega) ((overlapsAt_succ c _ j).mpr hover)))
            (by simpa using holder)
        · rw [Bool.and_eq_true, Bool.not_eq_true']
          rintro ⟨hover, hnot⟩
          have := (overlapsAt_zero a b before).mp (hfirst 0 (by omega) ((overlapsAt_zero c d after).mpr hover))
          rw [hnot] at this
          cases this

end Overlaps

/-! ### Walks (R112 to R114) -/

section Walks

variable (s : State) (f : Furnace) (c : Nat) (p : Port)

theorem frontSlab_walkedRows (fp : FurnaceParams) (rows : List Row) :
    frontSlab (fp.walkedRows c rows) = rows.getLast?.map fun r => r.slabA := by
  rw [frontSlab, FurnaceParams.walkedRows, List.getLast?_map, Option.map_map]
  rfl

/-- R113: the state after the rows have moved, before the overlap check. -/
def walkedState : State :=
  let u := s.updateFurnace f fun m => { m with rows := (s.furnaceParams f).walkedRows c (s.furnace f).rows }
  if (s.furnaceParams f).walkClamps c (s.furnace f).rows then
    u.logFurnace f .overtravel ((s.furnace f).rows.getLast?.map fun r => r.slabA) (some p) else u

theorem walk_eq : s.walk f c p =
    match newOverlap (s.furnace f).rows ((s.furnaceParams f).walkedRows c (s.furnace f).rows) with
    | some older => (walkedState s f c p).doubtFurnace f .overlap (some older) (some p)
    | none => walkedState s f c p := by
  rw [State.walk, frontSlab_walkedRows]
  rfl

theorem walkedState_rows : ((walkedState s f c p).furnace f).rows = (s.furnaceParams f).walkedRows c (s.furnace f).rows := by
  unfold walkedState
  split
  · rw [State.logFurnace_furnace, State.updateFurnace_furnace, if_pos rfl]
  · rw [State.updateFurnace_furnace, if_pos rfl]

theorem doubtFurnace_furnace (code : FaultCode) (slab : Option SlabId) (port : Option Port) (g : Furnace) :
    (s.doubtFurnace f code slab port).furnace g = if g = f then { s.furnace f with doubt := true } else s.furnace g := by
  rw [State.doubtFurnace, State.raiseSupv_furnace, State.logFurnace_furnace, State.updateFurnace_furnace]

theorem walk_rows : ((s.walk f c p).furnace f).rows = (s.furnaceParams f).walkedRows c (s.furnace f).rows := by
  rw [walk_eq]
  split
  · rw [doubtFurnace_furnace, if_pos rfl, walkedState_rows]
  · exact walkedState_rows s f c p

theorem walkedState_op : ((walkedState s f c p).furnace f).op = (s.furnace f).op := by
  unfold walkedState
  split
  · rw [State.logFurnace_furnace, State.updateFurnace_furnace, if_pos rfl]
  · rw [State.updateFurnace_furnace, if_pos rfl]

theorem walk_op : ((s.walk f c p).furnace f).op = (s.furnace f).op := by
  rw [walk_eq]
  split
  · rw [doubtFurnace_furnace, if_pos rfl, walkedState_op]
  · exact walkedState_op s f c p

theorem walk_params : (s.walk f c p).params = s.params := params_of_setting (setting_walk s f c p)

/-- R113, step 3: a walk that makes no new overlap. -/
theorem walk_of_no_overlap (h : ∀ i, overlapsAt ((s.furnaceParams f).walkedRows c (s.furnace f).rows) i →
    overlapsAt (s.furnace f).rows i) : s.walk f c p = walkedState s f c p := by
  rw [walk_eq, newOverlap_eq_none _ _ (by simp [FurnaceParams.walkedRows]) h]

/-- R113, step 3: a walk whose first new overlap stands at an index. -/
theorem walk_of_overlap {i : Nat} {older : Row} (hnew : overlapsAt ((s.furnaceParams f).walkedRows c (s.furnace f).rows) i)
    (hold : ¬overlapsAt (s.furnace f).rows i) (hfirst : ∀ j, j < i →
      overlapsAt ((s.furnaceParams f).walkedRows c (s.furnace f).rows) j → overlapsAt (s.furnace f).rows j)
    (holder : (s.furnace f).rows[i + 1]? = some older) :
    s.walk f c p = (walkedState s f c p).doubtFurnace f .overlap (some older.slabA) (some p) := by
  have hmoved : ((s.furnaceParams f).walkedRows c (s.furnace f).rows)[i + 1]? =
      some ((older.moved (c * (s.furnaceParams f).stroke)).clamped (s.furnaceParams f).effectiveLength) := by
    rw [FurnaceParams.walkedRows, List.getElem?_map, holder, Option.map_some]
  rw [walk_eq, newOverlap_eq_some _ _ (by simp [FurnaceParams.walkedRows]) i _ hnew hold hfirst hmoved]
  rfl

/-- R112: the DONE body of a walk, from a state in which the rows have moved. -/
theorem walkBody_eq (clamped : Bool) (t : State) (hrows : (t.furnace f).rows = (s.furnaceParams f).walkedRows c (s.furnace f).rows)
    (hparams : t.params = s.params) : walkBody f c clamped (settle s t) =
      u8 c ++ u8 (s.furnace f).rows.length ++
        u16 ((((s.furnaceParams f).walkedRows c (s.furnace f).rows).getLast?.map fun r => r.rear).getD 0) ++
        u16 ((((s.furnaceParams f).walkedRows c (s.furnace f).rows).getLast?.map fun r => r.far).getD 0) ++
        u8 ((s.furnaceParams f).walksAvailable ((s.furnaceParams f).walkedRows c (s.furnace f).rows)) ++ yesNo clamped ++
        u8 (t.furnace f).status.code := by
  have hfp : t.furnaceParams f = s.furnaceParams f := by rw [State.furnaceParams, hparams]; rfl
  rw [walkBody, settle_furnace, hrows, settle_furnaceParams, hfp, FurnaceParams.walkedRows, List.length_map]

end Walks

section WalkRules

variable {s : State} {body : List Byte} {c : Nat}

/-- R114: a walk of a furnace that is IDLE. -/
theorem walkDuringCharge_idle (u : State) (f : Furnace) (h : (u.furnace f).op.isCharging = false) : u.walkDuringCharge f = u := by
  rw [State.walkDuringCharge]
  cases hop : (u.furnace f).op with
  | idle timedOut => rfl
  | charging a b w soak => rw [hop] at h; cases h

theorem walkDuringCharge_charging (u : State) (f : Furnace) {a : SlabId} {b : Option SlabId} {w soak : Nat}
    (h : (u.furnace f).op = .charging a b w soak) :
    u.walkDuringCharge f = u.doubtFurnace f .walkDuringCharge (some a) (some (furnacePort f)) := by
  rw [State.walkDuringCharge, h]

/-- R112: a WALK_REPORT of a count in range. -/
theorem ruleWalkReport_taken (f : Furnace) (hlen : body.length = 1) (hc : field body 0 1 = c) (hlow : 1 ≤ c) (hhigh : c ≤ 8) :
    ruleWalkReport body f s = taken s ((s.walk f c (furnacePort f)).walkDuringCharge f)
      (walkBody f c ((s.furnaceParams f).walkClamps c (s.furnace f).rows)) := by
  subst hc
  exact if_neg (by simp [hlen]; omega)

/-- R151: a MAP_WALK of a count in range, of a furnace that is configured. -/
theorem ruleMapWalk_taken {f : Furnace} (hf : f ∈ s.configured) (hmode : s.mode = .run) (hlen : body.length = 2)
    (hf' : field body 0 1 = furnaceNumber f) (hc : field body 1 1 = c) (hlow : 1 ≤ c) (hhigh : c ≤ 8) :
    ruleMapWalk body s = taken s (s.walk f c .p0) (walkBody f c ((s.furnaceParams f).walkClamps c (s.furnace f).rows)) := by
  subst hc
  have hrange : ¬(body.length ≠ 2 || decide (field body 1 1 < 1) || decide (8 < field body 1 1)) = true := by simp [hlen]; omega
  rw [ruleMapWalk, if_neg (by rw [hmode]; decide), if_neg hrange, hf', configuredFurnace_number hf]

end WalkRules

/-- Settles O51: the two cases of the overlap check, and the answer read from the rows as they have moved. -/
theorem walksMoveEveryRow : Obligations.WalksMoveEveryRow := by
  unfold Obligations.WalksMoveEveryRow
  intro s f body hf fp rows passes moved overlaps walked answer
  have hmoved (c : Nat) : moved c = fp.walkedRows c rows := rfl
  have hwalked (c : Nat) (p : Port) : walked c p (s.walk f c p) :=
    ⟨fun h => walk_of_no_overlap s f c p h, fun i older hnew hold hfirst holder => walk_of_overlap s f c p hnew hold hfirst holder⟩
  have hbody (c : Nat) (t : State) (hrows : (t.furnace f).rows = fp.walkedRows c rows) (hparams : t.params = s.params) :
      walkBody f c (fp.walkClamps c rows) (settle s t) = answer c t := walkBody_eq s f c _ t hrows hparams
  refine ⟨fun c hs hlen hc hlow hhigh => ⟨s.walk f c (furnacePort f), hwalked c _, fun hidle => ?_, fun a b w soak hop => ?_⟩,
    fun c hs hmode hlen hf' hc hlow hhigh => ⟨s.walk f c .p0, hwalked c _, ?_⟩⟩
  · have hrule := ruleWalkReport_taken (s := s) f hlen hc hlow hhigh
    rw [walkDuringCharge_idle _ f (by rw [walk_op]; exact hidle)] at hrule
    exact request_taken (rule := forFurnace (furnacePort f) (ruleWalkReport body)) hs (by simp [Kind.allowedTo])
      ((forFurnace_furnacePort f _ s).trans hrule) (hbody c _ (walk_rows s f c _) (walk_params s f c _))
  · have hrule := ruleWalkReport_taken (s := s) f hlen hc hlow hhigh
    rw [walkDuringCharge_charging _ f ((walk_op s f c _).trans hop)] at hrule
    exact request_taken (rule := forFurnace (furnacePort f) (ruleWalkReport body)) hs (by simp [Kind.allowedTo])
      ((forFurnace_furnacePort f _ s).trans hrule) (hbody c _ (by rw [doubtFurnace_furnace, if_pos rfl]; exact walk_rows s f c _)
        (by rw [State.doubtFurnace_params]; exact walk_params s f c _))
  · exact request_taken (rule := ruleMapWalk body) hs rfl (ruleMapWalk_taken hf hmode hlen hf' hc hlow hhigh)
      (hbody c _ (walk_rows s f c _) (walk_params s f c _))

end Sys2Proof.Proofs

/-!
PROOFS. Discharges and the discharge log (O52): the run of records that enter the log, the records that are freed, and the row
that leaves its map.
-/

namespace Sys2Proof.Proofs

open Sys2Proof Sys2Proof.Machine

/-! ### Freed records (R16, R17) -/

section Freed

/-- R16, R17: the records of several slabs are freed. -/
def freeSlabs (u : State) (ids : List SlabId) : State := ids.foldl State.freeSlab u

theorem freeSlabs_eq (u : State) (ids : List SlabId) :
    freeSlabs u ids = { u with register := (freeSlabs u ids).register, doubtList := u.doubtList.filter fun d => !ids.contains d } := by
  induction ids generalizing u with
  | nil =>
    have hall : u.doubtList = u.doubtList.filter fun d => !([] : List SlabId).contains d := by simp
    rw [← hall]
    rfl
  | cons x ids ih =>
    have hfilter : ((u.freeSlab x).doubtList.filter fun d => !ids.contains d) =
        u.doubtList.filter fun d => !(x :: ids).contains d := by
      show ((u.doubtList.filter fun d => d != x).filter _) = _
      rw [List.filter_filter]
      exact List.filter_congr fun d _ => by by_cases hd : d = x <;> simp [hd]
    have hstep := ih (u.freeSlab x)
    rw [hfilter] at hstep
    rw [show freeSlabs u (x :: ids) = freeSlabs (u.freeSlab x) ids from rfl]
    exact hstep

/-- R16, R17, R93: a record after other slabs have been freed. -/
def forgetAll (r : SlabRecord) (ids : List SlabId) : SlabRecord :=
  { r with partner := r.partner.filter fun q => !ids.contains q.id, parted := r.parted.filter fun d => !ids.contains d }

theorem forgetAll_nil (r : SlabRecord) : forgetAll r [] = r := by
  have hpartner : (r.partner.filter fun _ => true) = r.partner := by cases r.partner <;> rfl
  have hparted : (r.parted.filter fun _ => true) = r.parted := List.filter_true _
  simp only [forgetAll, List.contains_nil, Bool.not_false, hpartner, hparted]

theorem forgetAll_forget (r : SlabRecord) (x : SlabId) (ids : List SlabId) : forgetAll (r.forget x) ids = forgetAll r (x :: ids) := by
  have hpartner : ((r.forget x).partner.filter fun q => !ids.contains q.id) = r.partner.filter fun q => !(x :: ids).contains q.id := by
    rw [SlabRecord.forget_partner]
    cases hq : r.partner with
    | none => simp [SlabRecord.paired, hq]
    | some q => by_cases hx : q.id = x <;> simp [SlabRecord.paired, hq, hx, Option.filter]
  have hparted : ((r.forget x).parted.filter fun d => !ids.contains d) = r.parted.filter fun d => !(x :: ids).contains d := by
    rw [SlabRecord.forget, List.filter_filter]
    exact List.filter_congr fun d _ => by by_cases hd : d = x <;> simp [hd]
  rw [forgetAll, hpartner, hparted]
  rfl

theorem freeSlabs_slab? (u : State) (ids : List SlabId) (x : SlabId) :
    (freeSlabs u ids).slab? x = if x ∈ ids then none else (u.slab? x).map fun r => forgetAll r ids := by
  induction ids generalizing u with
  | nil => simp [freeSlabs, forgetAll_nil]
  | cons y ids ih =>
    rw [show freeSlabs u (y :: ids) = freeSlabs (u.freeSlab y) ids from rfl, ih, State.freeSlab_slab?]
    by_cases hy : x = y
    · simp [hy]
    · simp only [hy, if_false, List.mem_cons, false_or, Option.map_map, Function.comp_def, forgetAll_forget]

end Freed

/-! ### Records that enter the log (R123) -/

section Pushes

variable (f : Furnace)

/-- R123: each of these records dropped logs LOG_OVERRUN. -/
def logOverruns (u : State) (dropped : List DischargeRecord) : State :=
  dropped.foldl (fun v d => v.logFurnace f .logOverrun (some d.slab) none) u

theorem logFurnace_banks_congr {u v : State} (hbanks : v.banks = u.banks) (hseconds : v.runningSeconds = u.runningSeconds)
    (code : FaultCode) (slab : Option SlabId) (port : Option Port) :
    (v.logFurnace f code slab port).banks = (u.logFurnace f code slab port).banks := by
  rw [State.logFurnace, State.logFurnace, State.logFault, State.logFault]
  simp only [State.raiseWhen_banks, State.updateBank, hbanks, hseconds]

/-- R157: a fault adds its own notices to those that stand. -/
theorem logFurnace_notices_congr {u v : State} {q : Port} {y : Byte} (hbanks : v.banks = u.banks)
    (hnotices : (v.port q).notices = (u.port q).notices ||| y) (code : FaultCode) (slab : Option SlabId) (port : Option Port) :
    ((v.logFurnace f code slab port).port q).notices = ((u.logFurnace f code slab port).port q).notices ||| y := by
  rw [State.logFurnace, State.logFurnace, logFault_notices, logFault_notices, hbanks, hnotices]
  ac_rfl

/-- The faults of a run of dropped records depend on the banks and the running seconds alone, and leave other notices. -/
theorem logOverruns_congr {u v : State} {q : Port} {y : Byte} (hbanks : v.banks = u.banks)
    (hseconds : v.runningSeconds = u.runningSeconds) (hnotices : (v.port q).notices = (u.port q).notices ||| y)
    (dropped : List DischargeRecord) : (logOverruns f v dropped).banks = (logOverruns f u dropped).banks ∧
      ((logOverruns f v dropped).port q).notices = ((logOverruns f u dropped).port q).notices ||| y := by
  induction dropped generalizing u v with
  | nil => exact ⟨hbanks, hnotices⟩
  | cons d dropped ih =>
    exact ih (logFurnace_banks_congr f hbanks hseconds _ _ _) (by rw [State.logFurnace_runningSeconds, State.logFurnace_runningSeconds, hseconds])
      (logFurnace_notices_congr f hbanks hnotices _ _ _)

theorem logFurnace_port_other (u : State) (code : FaultCode) (slab : Option SlabId) (port : Option Port) {q : Port} (h : q ≠ .p0) :
    (u.logFurnace f code slab port).port q = u.port q := logFault_port_other u _ code slab port h

theorem logOverruns_port_other (u : State) (dropped : List DischargeRecord) {q : Port} (h : q ≠ .p0) :
    (logOverruns f u dropped).port q = u.port q := by
  induction dropped generalizing u with
  | nil => rfl
  | cons d dropped ih => exact (ih _).trans (logFurnace_port_other f u _ _ _ h)

theorem logOverruns_seconds (u : State) (dropped : List DischargeRecord) :
    (logOverruns f u dropped).runningSeconds = u.runningSeconds := by
  induction dropped generalizing u with
  | nil => rfl
  | cons d dropped ih => exact (ih _).trans (State.logFurnace_runningSeconds ..)

theorem logOverruns_append (u : State) (l m : List DischargeRecord) :
    logOverruns f u (l ++ m) = logOverruns f (logOverruns f u l) m := List.foldl_append

/-- R123: these records enter the log, the first of them first. -/
def pushAll (u : State) (records : List DischargeRecord) : State := records.foldl (fun v d => v.pushDischarge f d) u

theorem makeRoom_eq (u : State) : u.makeRoom f =
    { u with log := (u.makeRoom f).log, logOverrun := (u.makeRoom f).logOverrun, banks := (u.makeRoom f).banks, ports := (u.makeRoom f).ports } := by
  unfold State.makeRoom
  split
  · exact State.logFault_eq _ _ _ _ _
  · rfl

theorem pushDischarge_eq (u : State) (d : DischargeRecord) : u.pushDischarge f d = { u with
    log := (u.pushDischarge f d).log, logOverrun := (u.pushDischarge f d).logOverrun
    banks := (u.pushDischarge f d).banks, ports := (u.pushDischarge f d).ports } := by
  have hroom : u.pushDischarge f d = State.raiseWhen { u.makeRoom f with log := (u.makeRoom f).log ++ [d] } u.log.isEmpty .p0
    SupvNotice.discharge.bit := rfl
  rw [hroom, State.raiseWhen_eq, makeRoom_eq]

theorem pushAll_eq (u : State) (records : List DischargeRecord) : pushAll f u records = { u with
    log := (pushAll f u records).log, logOverrun := (pushAll f u records).logOverrun
    banks := (pushAll f u records).banks, ports := (pushAll f u records).ports } := by
  induction records generalizing u with
  | nil => rfl
  | cons d records ih =>
    rw [show pushAll f u (d :: records) = pushAll f (u.pushDischarge f d) records from rfl, ih, pushDischarge_eq]

/-- R123: the log and the overrun flag after one record. -/
theorem pushDischarge_log (u : State) (d : DischargeRecord) :
    (u.pushDischarge f d).log = (if 16 ≤ u.log.length then u.log.drop 1 else u.log) ++ [d] ∧
      (u.pushDischarge f d).logOverrun = (u.logOverrun || decide (16 ≤ u.log.length)) := by
  have hroom : (u.makeRoom f).log = (if 16 ≤ u.log.length then u.log.drop 1 else u.log) ∧
      (u.makeRoom f).logOverrun = (u.logOverrun || decide (16 ≤ u.log.length)) := by
    unfold State.makeRoom
    simp only [Config.maxLog]
    split
    · next h => simp [h]
    · next h => simp [h]
  exact ⟨(congrArg State.log (State.raiseWhen_eq _ _ _ _)).trans (congrArg (· ++ [d]) hroom.1),
    (congrArg State.logOverrun (State.raiseWhen_eq _ _ _ _)).trans hroom.2⟩

/-- R123: the record that a full log drops, with the fault it logs, and the notice of a log that held none. -/
theorem pushDischarge_faults (u : State) (d : DischargeRecord) (hlog : u.log.length ≤ 16) :
    (u.pushDischarge f d).banks = (logOverruns f u (u.log.take (u.log.length - 15))).banks ∧
      ∀ q, ((u.pushDischarge f d).port q).notices = ((logOverruns f u (u.log.take (u.log.length - 15))).port q).notices |||
        if u.log = [] ∧ q = .p0 then 0x02 else 0 := by
  have hroom : (u.makeRoom f).banks = (logOverruns f u (u.log.take (u.log.length - 15))).banks ∧
      ∀ q, ((u.makeRoom f).port q).notices = ((logOverruns f u (u.log.take (u.log.length - 15))).port q).notices := by
    unfold State.makeRoom
    split
    · next h =>
      obtain ⟨first, rest, hcons⟩ := List.exists_cons_of_length_pos (l := u.log) (Nat.lt_of_lt_of_le (by decide) h)
      have hlen : u.log.length - 15 = 1 := by
        have : 16 ≤ u.log.length := h
        omega
      have htake : u.log.take (u.log.length - 15) = [first] := by rw [hlen, hcons]; rfl
      rw [htake, hcons]
      exact ⟨logFurnace_banks_congr f rfl rfl _ _ _, fun q =>
        (logFurnace_notices_congr f (q := q) (y := 0) (u := u) rfl (or_no_bit _).symm _ _ _).trans (or_no_bit _)⟩
    · next h =>
      have hlen : u.log.length - 15 = 0 := by
        have : ¬16 ≤ u.log.length := h
        omega
      rw [hlen]
      exact ⟨rfl, fun _ => rfl⟩
  refine ⟨(congrArg State.banks (State.raiseWhen_eq _ _ _ _)).trans hroom.1, fun q => ?_⟩
  rw [State.pushDischarge, raiseWhen_notices, ← hroom.2 q]
  have hp0 : ∀ v : State, v.present .p0 = true := fun _ => rfl
  simp only [List.isEmpty_iff, hp0, true_and]
  rfl

/-- R123: a run of records enters the log. -/
theorem pushAll_log (u : State) (records : List DischargeRecord) (hlog : u.log.length ≤ 16) :
    let held := u.log ++ records
    let dropped := held.take (held.length - 16)
    (pushAll f u records).log = held.drop (held.length - 16) ∧
      (pushAll f u records).logOverrun = (u.logOverrun || decide (16 < held.length)) ∧
      (pushAll f u records).banks = (logOverruns f u dropped).banks ∧
      ∀ q, ((pushAll f u records).port q).notices = ((logOverruns f u dropped).port q).notices |||
        if u.log = [] ∧ records ≠ [] ∧ q = .p0 then 0x02 else 0 := by
  induction records generalizing u with
  | nil =>
    have hzero : (u.log ++ []).length - 16 = 0 := by simp; omega
    have hnot : decide (16 < (u.log ++ []).length) = false := by simpa using hlog
    dsimp only
    rw [hzero, hnot, List.drop_zero, List.take_zero, List.append_nil, Bool.or_false]
    exact ⟨rfl, rfl, rfl, fun q => by simp only [ne_eq, not_true, false_and, and_false, if_false]; exact (or_no_bit _).symm⟩
  | cons d records ih =>
    intro held dropped
    obtain ⟨hwlog, hwoverrun⟩ := pushDischarge_log f u d
    obtain ⟨hwbanks, hwnotices⟩ := pushDischarge_faults f u d hlog
    have hseconds : (u.pushDischarge f d).runningSeconds = (logOverruns f u (u.log.take (u.log.length - 15))).runningSeconds := by
      rw [logOverruns_seconds, pushDischarge_eq]
    have hwlog' : (u.pushDischarge f d).log = u.log.drop (u.log.length - 15) ++ [d] := by
      rw [hwlog]
      split
      · rw [show u.log.length - 15 = 1 by omega]
      · rw [show u.log.length - 15 = 0 by omega, List.drop_zero]
    have hheld : (u.pushDischarge f d).log ++ records = held.drop (u.log.length - 15) := by
      rw [hwlog', List.append_assoc, List.singleton_append, List.drop_append_of_le_length (by omega)]
    have hlen : held.length = u.log.length + 1 + records.length := by simp [held]; omega
    have hwlen : ((u.pushDischarge f d).log ++ records).length - 16 = held.length - 16 - (u.log.length - 15) := by
      rw [hheld, List.length_drop]
      omega
    have hdropped : dropped = u.log.take (u.log.length - 15) ++
        ((u.pushDischarge f d).log ++ records).take (((u.pushDischarge f d).log ++ records).length - 16) := by
      have hsum : held.length - 16 = (u.log.length - 15) + (held.length - 16 - (u.log.length - 15)) := by omega
      rw [hwlen, hheld, show dropped = held.take (held.length - 16) from rfl, hsum, List.take_add,
        List.take_append_of_le_length (by omega)]
      congr 2
      omega
    have hne : (u.pushDischarge f d).log ≠ [] := by rw [hwlog']; simp
    obtain ⟨hlog', hoverrun', hbanks', hnotices'⟩ := ih (u.pushDischarge f d) (by rw [hwlog', List.length_append, List.length_drop]; simp; omega)
    have hfaults (q : Port) := logOverruns_congr f (q := q) hwbanks hseconds (hwnotices q)
      (((u.pushDischarge f d).log ++ records).take (((u.pushDischarge f d).log ++ records).length - 16))
    rw [show pushAll f u (d :: records) = pushAll f (u.pushDischarge f d) records from rfl, hdropped, logOverruns_append]
    refine ⟨?_, ?_, hbanks'.trans (hfaults .p0).1, fun q => ?_⟩
    · rw [hlog', hwlen, hheld, List.drop_drop]
      congr 1
      omega
    · rw [hoverrun', hwoverrun, hheld, List.length_drop, Bool.or_assoc, ← Bool.decide_or]
      congr 1
      exact decide_eq_decide.mpr (by omega)
    · rw [hnotices', (hfaults q).2]
      simp only [hne, ne_eq, false_and, if_false, reduceCtorEq, not_false_iff, true_and, or_no_bit]

end Pushes

/-! ### The discharge of a front row (R120) -/

section Fronts

variable (s : State) (f : Furnace) (r : Row)

theorem freeSlab_pushDischarge (u : State) (id : SlabId) (d : DischargeRecord) :
    (u.freeSlab id).pushDischarge f d = (u.pushDischarge f d).freeSlab id := by
  have hroom : (u.freeSlab id).makeRoom f = (u.makeRoom f).freeSlab id := by
    unfold State.makeRoom
    rw [State.freeSlab_log]
    split <;> rfl
  unfold State.pushDischarge
  rw [hroom, State.freeSlab_log]
  rfl

/-- R121: what a discharge record reads of the state. -/
theorem dischargeRecord_congr {u v : State} (hdoubt : (v.furnace f).doubt = (u.furnace f).doubt)
    (hseconds : v.runningSeconds = u.runningSeconds) (id : SlabId)
    (hedited : ((v.slab? id).map fun x => x.edited) = (u.slab? id).map fun x => x.edited) (side : Side) :
    v.dischargeRecord f r id side = u.dischargeRecord f r id side := by
  rw [State.dischargeRecord, State.dischargeRecord, hdoubt, hseconds, hedited]

/-- R119, R120: the state in which the front row has left its map, with the fault of an underheat row. -/
def offMap : State :=
  let t := s.updateFurnace f fun m => { m with rows := m.rows.dropLast }
  if r.residence < r.soakTarget then t.logFurnace f .underheat (some r.slabA) (some (furnacePort f)) else t

/-- R121: the records of a row. -/
def rowRecordsOf : List DischargeRecord := (slabsWithSides r.slabA r.slabB).map fun x => s.dischargeRecord f r x.1 x.2

theorem offMap_eq : offMap s f r =
    { s with furnaces := (offMap s f r).furnaces, banks := (offMap s f r).banks, ports := (offMap s f r).ports } := by
  unfold offMap
  dsimp only
  split
  · exact (State.logFault_eq _ _ _ _ _).trans rfl
  · rfl

theorem offMap_furnace (g : Furnace) : (offMap s f r).furnace g =
    if g = f then { s.furnace f with rows := (s.furnace f).rows.dropLast } else s.furnace g := by
  unfold offMap
  dsimp only
  split
  · rw [State.logFurnace_furnace, State.updateFurnace_furnace]
  · rw [State.updateFurnace_furnace]

theorem dischargeRecord_offMap (id : SlabId) (side : Side) :
    (offMap s f r).dischargeRecord f r id side = s.dischargeRecord f r id side := by
  refine dischargeRecord_congr f r ?_ ?_ id ?_ side
  · rw [offMap_furnace, if_pos rfl]
  · rw [offMap_eq]
  · rw [offMap_eq]; rfl

/-- R120: the records enter the log, then the slabs are freed, and the soak check is made. -/
theorem dischargeFront_eq (hdistinct : r.slabB ≠ some r.slabA) : s.dischargeFront f r =
    (freeSlabs (pushAll f (offMap s f r) (rowRecordsOf s f r)) (r.slabA :: r.slabB.toList)).soakCheck f := by
  have hfront : s.dischargeFront f r =
      ((slabsWithSides r.slabA r.slabB).foldl (fun v x => v.dischargeSlab f r x) (offMap s f r)).soakCheck f := rfl
  rw [hfront]
  congr 1
  cases hb : r.slabB with
  | none =>
    rw [rowRecordsOf, hb]
    simp only [slabsWithSides, List.foldl_cons, List.foldl_nil, List.map_cons, List.map_nil, pushAll, freeSlabs, Option.toList_none,
      State.dischargeSlab, dischargeRecord_offMap]
  | some b =>
    have hne : b ≠ r.slabA := fun h => hdistinct (hb.trans (congrArg some h))
    have hsecond (d : DischargeRecord) (side : Side) :
        (((offMap s f r).pushDischarge f d).freeSlab r.slabA).dischargeRecord f r b side = s.dischargeRecord f r b side := by
      refine (dischargeRecord_congr f r (u := offMap s f r) ?_ ?_ b ?_ side).trans (dischargeRecord_offMap s f r b side)
      · rw [State.freeSlab_furnace, pushDischarge_eq]; rfl
      · rw [State.freeSlab_runningSeconds, pushDischarge_eq]
      · rw [State.freeSlab_slab?, if_neg hne, Option.map_map, pushDischarge_eq]; rfl
    rw [rowRecordsOf, hb]
    simp only [slabsWithSides, List.foldl_cons, List.foldl_nil, List.map_cons, List.map_nil, pushAll, freeSlabs, Option.toList_some,
      State.dischargeSlab, dischargeRecord_offMap, hsecond, freeSlab_pushDischarge]

/-- The parts that a discharge leaves, with the parts that it may change taken out. -/
def outside (u : State) : State :=
  { u with
    register := [], doubtList := [], furnaces := State.reset.furnaces, log := [], logOverrun := false
    banks := State.reset.banks, ports := State.reset.ports }

theorem eq_of_outside {u v : State} (h : outside u = outside v) : u = { v with
    register := u.register, doubtList := u.doubtList, furnaces := u.furnaces, log := u.log, logOverrun := u.logOverrun
    banks := u.banks, ports := u.ports } :=
  congrArg (fun x : State => { x with
    register := u.register, doubtList := u.doubtList, furnaces := u.furnaces, log := u.log, logOverrun := u.logOverrun
    banks := u.banks, ports := u.ports }) h

/-- R120: the state in which the records have entered the log and the slabs of the row are free. -/
def discharged : State := freeSlabs (pushAll f (offMap s f r) (rowRecordsOf s f r)) (r.slabA :: r.slabB.toList)

theorem discharged_outside : outside (discharged s f r) = outside s := by
  rw [discharged, freeSlabs_eq, pushAll_eq, offMap_eq]
  rfl

theorem discharged_furnace (g : Furnace) : (discharged s f r).furnace g =
    if g = f then { s.furnace f with rows := (s.furnace f).rows.dropLast } else s.furnace g := by
  rw [← offMap_furnace s f r g, discharged, freeSlabs_eq, pushAll_eq]
  rfl

theorem discharged_port (q : Port) : (discharged s f r).port q = (pushAll f (offMap s f r) (rowRecordsOf s f r)).port q := by
  rw [discharged, freeSlabs_eq]
  rfl

theorem discharged_log : (discharged s f r).log = (pushAll f (offMap s f r) (rowRecordsOf s f r)).log ∧
    (discharged s f r).logOverrun = (pushAll f (offMap s f r) (rowRecordsOf s f r)).logOverrun ∧
    (discharged s f r).banks = (pushAll f (offMap s f r) (rowRecordsOf s f r)).banks := by
  rw [discharged, freeSlabs_eq]
  exact ⟨rfl, rfl, rfl⟩

theorem row_holds_iff (x : SlabId) : r.holds x = true ↔ x = r.slabA ∨ some x = r.slabB := by
  rw [Row.holds, Bool.or_eq_true, beq_iff_eq, beq_iff_eq, eq_comm (a := x), eq_comm (a := some x)]

theorem contains_eq_holds (x : SlabId) : (r.slabA :: r.slabB.toList).contains x = r.holds x := by
  rw [Bool.eq_iff_iff, holds_iff, ids_of_row, List.contains_iff_mem]

theorem discharged_doubtList : (discharged s f r).doubtList = s.doubtList.filter fun d => !r.holds d := by
  have hbooks : (discharged s f r).doubtList = s.doubtList.filter fun d => !(r.slabA :: r.slabB.toList).contains d := by
    rw [discharged, freeSlabs_eq, pushAll_eq, offMap_eq]
  rw [hbooks]
  exact List.filter_congr fun d _ => by rw [contains_eq_holds]

theorem discharged_slab? (x : SlabId) : (discharged s f r).slab? x = if x ∈ r.slabA :: r.slabB.toList then none
    else (s.slab? x).map fun r' => forgetAll r' (r.slabA :: r.slabB.toList) := by
  have hregister : (pushAll f (offMap s f r) (rowRecordsOf s f r)).slab? x = s.slab? x := by rw [pushAll_eq, offMap_eq]; rfl
  rw [discharged, freeSlabs_slab?, hregister]

/-- R117: the front row behind the one that is discharged. -/
theorem soakDueIn_dropLast (rows : List Row) : soakDueIn rows.dropLast = true ↔ ∃ x : Row, rows[rows.length - 2]? = some x ∧
    2 ≤ rows.length ∧ x.soakTarget ≤ x.residence ∧ x.soakNotified = false := by
  have hlast : rows.dropLast.getLast? = if 2 ≤ rows.length then rows[rows.length - 2]? else none := by
    rw [List.getLast?_eq_getElem?, List.getElem?_dropLast, List.length_dropLast]
    split
    · next h => rw [if_pos (by omega)]; rfl
    · next h => rw [if_neg (by omega)]
  rw [soakDueIn, hlast]
  by_cases h : 2 ≤ rows.length
  · rw [if_pos h]
    cases rows[rows.length - 2]? with
    | none => simp
    | some x => simp [h]
  · rw [if_neg h]
    simp [h]

end Fronts

section Faults

variable (s : State) (f : Furnace) (r : Row)

/-- R120: the fault of an underheat row. -/
def underheatLogged : State :=
  if r.residence < r.soakTarget then s.logFurnace f .underheat (some r.slabA) (some (furnacePort f)) else s

theorem underheatLogged_seconds : (underheatLogged s f r).runningSeconds = s.runningSeconds := by
  unfold underheatLogged
  split
  · rw [State.logFurnace_runningSeconds]
  · rfl

theorem underheatLogged_port_other {q : Port} (h : q ≠ .p0) : (underheatLogged s f r).port q = s.port q := by
  unfold underheatLogged
  split
  · exact logFurnace_port_other f s _ _ _ h
  · rfl

/-- The map of the furnace has no part in the faults of its discharge. -/
theorem offMap_faults (q : Port) : (offMap s f r).banks = (underheatLogged s f r).banks ∧
    ((offMap s f r).port q).notices = ((underheatLogged s f r).port q).notices ||| 0 := by
  unfold offMap underheatLogged
  dsimp only
  split
  · exact ⟨logFurnace_banks_congr f rfl rfl _ _ _, logFurnace_notices_congr f rfl (or_no_bit _).symm _ _ _⟩
  · exact ⟨rfl, (or_no_bit _).symm⟩

/-- R120, R123: the banks, the log and the notices after the records of a row have entered the log. -/
theorem discharged_faults (hlog : s.log.length ≤ 16) :
    let held := s.log ++ rowRecordsOf s f r
    let faults := logOverruns f (underheatLogged s f r) (held.take (held.length - 16))
    (discharged s f r).log = held.drop (held.length - 16) ∧
      (discharged s f r).logOverrun = (s.logOverrun || decide (16 < held.length)) ∧ (discharged s f r).banks = faults.banks ∧
      ∀ q, ((discharged s f r).port q).notices = (faults.port q).notices ||| if s.log = [] ∧ q = .p0 then 0x02 else 0 := by
  intro held faults
  have hoff : (offMap s f r).log = s.log ∧ (offMap s f r).logOverrun = s.logOverrun ∧
      (offMap s f r).runningSeconds = (underheatLogged s f r).runningSeconds := by
    rw [underheatLogged_seconds, offMap_eq]
    exact ⟨rfl, rfl, rfl⟩
  obtain ⟨hofflog, hoffoverrun, hoffseconds⟩ := hoff
  obtain ⟨hlog', hoverrun, hbanks, hnotices⟩ := pushAll_log f (offMap s f r) (rowRecordsOf s f r) (hofflog ▸ hlog)
  rw [hofflog] at hlog' hoverrun hbanks hnotices
  rw [hoffoverrun] at hoverrun
  obtain ⟨hdlog, hdoverrun, hdbanks⟩ := discharged_log s f r
  have hfaults (q : Port) := logOverruns_congr f (q := q) (offMap_faults s f r q).1 hoffseconds (offMap_faults s f r q).2
    (held.take (held.length - 16))
  have hrecords : rowRecordsOf s f r ≠ [] := by cases hb : r.slabB <;> simp [rowRecordsOf, slabsWithSides, hb]
  refine ⟨hdlog.trans hlog', hdoverrun.trans hoverrun, hdbanks.trans (hbanks.trans (hfaults .p0).1), fun q => ?_⟩
  rw [discharged_port, hnotices, (hfaults q).2, or_no_bit]
  simp only [hrecords, ne_eq, not_false_iff, true_and]
  rfl

end Faults

/-! ### The rules (O52) -/

section Rules

variable {s : State} {f : Furnace} {body : List Byte}

theorem ruleDischargeReport_range (hlen : body.length = 4) (hid : field body 0 4 ≠ 4294967295) :
    ¬(body.length ≠ 4 || field body 0 4 == Config.allOnes) = true := by
  simp [hlen, Config.allOnes, hid]

theorem ruleDischargeReport_empty (hlen : body.length = 4) (hid : field body 0 4 ≠ 4294967295) (hrows : (s.furnace f).rows = []) :
    ruleDischargeReport body f s = refused (s.logFurnace f .dischargeEmpty none (some (furnacePort f))) .empty := by
  rw [ruleDischargeReport, if_neg (ruleDischargeReport_range hlen hid), hrows]
  rfl

theorem ruleDischargeReport_mismatch {r : Row} (hlen : body.length = 4) (hid : field body 0 4 ≠ 4294967295)
    (hfront : (s.furnace f).rows.getLast? = some r) (hzero : field body 0 4 ≠ 0) (hholds : r.holds (field body 0 4) = false) :
    ruleDischargeReport body f s =
      refused (settle s (s.doubtFurnace f .dischargeMismatch (some (field body 0 4)) (some (furnacePort f)))) .mismatch := by
  rw [ruleDischargeReport, if_neg (ruleDischargeReport_range hlen hid), hfront]
  exact if_pos (by simp [hzero, hholds])

theorem ruleDischargeReport_taken {r : Row} (hlen : body.length = 4) (hid : field body 0 4 ≠ 4294967295)
    (hfront : (s.furnace f).rows.getLast? = some r) (hholds : field body 0 4 = 0 ∨ r.holds (field body 0 4) = true) :
    ruleDischargeReport body f s = taken s (s.dischargeFront f r) (dischargeBody f r (dropsRecord s r)) := by
  rw [ruleDischargeReport, if_neg (ruleDischargeReport_range hlen hid), hfront]
  exact if_neg (by rcases hholds with h | h <;> simp [h])

/-- R124: a DISCHARGE_TAKE of a count in range. -/
theorem ruleDischargeTake_byte (c : Byte) (hlow : 1 ≤ c.toNat) (hhigh : c.toNat ≤ 4) : ruleDischargeTake [c] s =
    ({ s with log := s.log.drop c.toNat, logOverrun := false },
      .done ((s.log.take c.toNat).flatMap fun r => r.bytes (s.log.length - c.toNat) s.logOverrun)) := by
  have hfield : field [c] 0 1 = c.toNat := by simp [field, beNat]
  rw [ruleDischargeTake, hfield, if_neg (by simp; omega), List.length_drop]

theorem ruleDischargeTake_range (c : Byte) (h : c = 0 ∨ 4 < c.toNat) : ruleDischargeTake [c] s = refused s .range := by
  have hfield : field [c] 0 1 = c.toNat := by simp [field, beNat]
  rw [ruleDischargeTake, hfield, if_pos]
  rcases h with rfl | h
  · rfl
  · simp [h]

end Rules

/-- Settles O52: the discharged state by `discharged_faults` and `discharged_slab?`, and its soak check. -/
theorem dischargesAreLogged : Obligations.DischargesAreLogged := by
  unfold Obligations.DischargesAreLogged
  refine ⟨fun s c hs => ⟨fun hlow hhigh => ?_, fun hc => ?_⟩, ?_⟩
  · exact request_done (rule := ruleDischargeTake [c]) hs rfl (ruleDischargeTake_byte c hlow hhigh)
  · exact request_refused (rule := ruleDischargeTake [c]) hs rfl (ruleDischargeTake_range c hc)
  intro s f body hs hlen hid p rows report
  have hkind : Kind.dischargeReport.allowedTo (portRole p) = true := by simp [Kind.allowedTo, p]
  have hrule : forFurnace p (ruleDischargeReport body) s = ruleDischargeReport body f s := forFurnace_furnacePort f _ s
  refine ⟨fun hrows => ?_, fun r hfront => ⟨fun hzero hA hB => ?_, fun hholds hlog hdistinct => ?_⟩⟩
  · exact request_refused (rule := forFurnace p (ruleDischargeReport body)) hs hkind
      (hrule.trans (ruleDischargeReport_empty hlen hid hrows))
  · refine request_refused (rule := forFurnace p (ruleDischargeReport body)) hs hkind
      (hrule.trans (ruleDischargeReport_mismatch hlen hid hfront hzero ?_))
    exact Bool.eq_false_iff.mpr fun h => ((row_holds_iff r _).mp h).elim hA hB
  intro edited records held underheat soaks faults
  have hholds' : field body 0 4 = 0 ∨ r.holds (field body 0 4) = true := by
    rwa [row_holds_iff]
  obtain ⟨hlog', hoverrun, hbanks, hnotices⟩ := discharged_faults s f r hlog
  have hfront' := dischargeFront_eq s f r hdistinct
  rw [show freeSlabs (pushAll f (offMap s f r) (rowRecordsOf s f r)) (r.slabA :: r.slabB.toList) = discharged s f r from rfl] at hfront'
  have hrowsOff : ((discharged s f r).furnace f).rows = rows.dropLast := by rw [discharged_furnace, if_pos rfl]
  have hne : rows ≠ [] := fun hnil => by rw [hnil] at hfront; cases hfront
  have hlength : rows.dropLast.length + 1 = rows.length := by
    have := List.length_pos_iff.mpr hne
    rw [List.length_dropLast]
    omega
  have hufurnace (g : Furnace) : (s.dischargeFront f r).furnace g =
      if g = f then { s.furnace f with rows := soakedRows rows.dropLast } else s.furnace g := by
    rw [hfront', soakCheck_furnace, hrowsOff, discharged_furnace, if_pos rfl, discharged_furnace]
    split <;> rfl
  have hurows : ((s.dischargeFront f r).furnace f).rows = soakedRows rows.dropLast := by rw [hufurnace, if_pos rfl]
  have hunotices (q : Port) : ((s.dischargeFront f r).port q).notices = (faults.port q).notices |||
      (if s.log = [] ∧ q = .p0 then 0x02 else 0) ||| if (∃ x, soaks x) ∧ q = p then 0x04 else 0 := by
    have hpresent : (discharged s f r).present (furnacePort f) = true := by
      have := congrArg (fun v : State => v.present (furnacePort f)) (eq_of_outside (discharged_outside s f r))
      exact this.trans hs.2.1
    rw [hfront', soakCheck_notices, hnotices, hrowsOff, hpresent]
    simp only [soakDueIn_dropLast, true_and]
    rfl
  have huport (q : Port) : (s.dischargeFront f r).port q = { s.port q with notices := ((s.dischargeFront f r).port q).notices } :=
    path_port (P := fun x => ∀ q, x ≠ .port q) (path_dischargeFront s nofun nofun nofun nofun r) fun h => h q rfl
  have hquiet (q : Port) (hq : q ≠ .p0) : (faults.port q).notices = (s.port q).notices :=
    congrArg PortState.notices ((logOverruns_port_other f _ _ hq).trans (underheatLogged_port_other s f r hq))
  have hubanks : (s.dischargeFront f r).banks = faults.banks ∧ (s.dischargeFront f r).log = held.drop (held.length - 16) ∧
      (s.dischargeFront f r).logOverrun = (s.logOverrun || decide (16 < held.length)) ∧
      (s.dischargeFront f r).doubtList = s.doubtList.filter fun d => !r.holds d := by
    rw [hfront', State.soakCheck_banks, State.soakCheck_log, State.soakCheck_logOverrun, State.soakCheck_doubtList]
    exact ⟨hbanks, hlog', hoverrun, discharged_doubtList s f r⟩
  obtain ⟨hbanks', hulog, huoverrun, hudoubt⟩ := hubanks
  have hslab (x : SlabId) : (s.dischargeFront f r).slab? x = if x ∈ r.slabA :: r.slabB.toList then none
      else (s.slab? x).map fun r' => forgetAll r' (r.slabA :: r.slabB.toList) := by
    rw [hfront', State.soakCheck_slab, discharged_slab?]
  have hmem (x : SlabId) : x ∈ r.slabA :: r.slabB.toList ↔ r.holds x = true := by rw [holds_iff, ids_of_row]
  refine ⟨s.dischargeFront f r, ?_, ?_, ?_, fun hsoaks => ?_, fun hsoaks => ?_, fun q hq hqp => ?_, fun id hid' => ?_, fun id hid' => ?_,
    ?_, fun i x hi hx => ?_, ?_, fun g hg => ?_⟩
  · refine request_taken (rule := forFurnace p (ruleDischargeReport body)) hs hkind
      (hrule.trans (ruleDischargeReport_taken hlen hid hfront hholds')) ?_
    have hdrops : dropsRecord s r = decide (16 < held.length) := by
      rw [dropsRecord, List.length_append, List.length_map]; rfl
    rw [dischargeBody, settle_furnace, settle_log, hdrops]
    rfl
  · have houtside : outside (s.dischargeFront f r) = outside s := by
      rw [hfront', State.soakCheck_eq]
      exact discharged_outside s f r
    rw [← hudoubt, ← hulog, ← huoverrun, ← hbanks']
    exact eq_of_outside houtside
  · rw [huport, hunotices]
    simp only [and_true, p, (furnacePort_ne_p0 f).symm, and_false, if_false, or_no_bit]
  · rw [huport, hunotices, hquiet p (furnacePort_ne_p0 f), if_neg fun h => furnacePort_ne_p0 f h.2, if_pos ⟨hsoaks, rfl⟩, or_no_bit]
  · have hsame : ((s.dischargeFront f r).port p).notices = (s.port p).notices := by
      rw [hunotices, hquiet p (furnacePort_ne_p0 f), if_neg fun h => furnacePort_ne_p0 f h.2, if_neg fun h => hsoaks h.1, or_no_bit,
        or_no_bit]
    rw [huport, hsame]
  · have hsame : ((s.dischargeFront f r).port q).notices = (s.port q).notices := by
      rw [hunotices, hquiet q hq, if_neg fun h => hq h.2, if_neg fun h => hqp h.2, or_no_bit, or_no_bit]
    rw [huport, hsame]
  · rw [hslab, if_pos ((hmem id).mpr hid')]
  · rw [hslab, if_neg fun h => Bool.false_ne_true (hid'.symm.trans ((hmem id).mp h))]
    simp only [forgetAll, contains_eq_holds]
  · rw [hurows, length_soakedRows, hlength]
  · have hbefore : rows.dropLast[i]? = some x := by rw [List.getElem?_dropLast, if_pos (by omega), hx]
    rw [hurows, soakedRows_getElem? hbefore, soakedRow]
    have hindex : (i + 1 == rows.dropLast.length) = decide (i + 2 = rows.length) := by
      rw [Bool.eq_iff_iff, beq_iff_eq, decide_eq_true_iff]
      omega
    rw [hindex]
  · rw [hufurnace, if_pos rfl]
  · rw [hufurnace, if_neg hg]

end Sys2Proof.Proofs

/-!
PROOFS. RESTART: start-up with the SEL lines of the ports kept (O28).
-/

namespace Sys2Proof.Proofs

open Sys2Proof Sys2Proof.Machine

/-! ### SEL lines through start-up (R167) -/

section Selections

variable (g : Port → Selection)

/-- The state with the SEL lines of the ports driven as `g` says. -/
def withSel (s : State) : State :=
  { s with
    ports := ⟨{ s.ports.p0 with sel := g .p0 }, { s.ports.p1 with sel := g .p1 }, { s.ports.p2 with sel := g .p2 },
      { s.ports.p3 with sel := g .p3 }, { s.ports.p4 with sel := g .p4 }, { s.ports.p5 with sel := g .p5 }⟩ }

theorem withSel_port (s : State) (p : Port) : (withSel g s).port p = { s.port p with sel := g p } := by cases p <;> rfl

theorem raiseWhen_withSel (s : State) (c : Bool) (p : Port) (bit : Byte) :
    (withSel g s).raiseWhen c p bit = withSel g (s.raiseWhen c p bit) := by
  unfold State.raiseWhen
  have hpresent : (withSel g s).present p = s.present p := rfl
  rw [hpresent]
  split
  · cases p <;> rfl
  · rfl

theorem logFault_withSel (s : State) (bank : BankId) (code : FaultCode) (slab : Option SlabId) (port : Option Port) :
    (withSel g s).logFault bank code slab port = withSel g (s.logFault bank code slab port) := by
  rw [State.logFault, State.logFault, ← raiseWhen_withSel, ← raiseWhen_withSel]
  rfl

theorem recoverPermits_withSel (s : State) : (withSel g s).recoverPermits = withSel g s.recoverPermits :=
  List.foldl_hom (withSel g) fun t id => by
    have hplace : (withSel g t).place? id = t.place? id := rfl
    rw [hplace]
    cases t.place? id with
    | none => rfl
    | some pl => cases pl <;> rfl

theorem recoverCustody_withSel (s : State) : (withSel g s).recoverCustody = withSel g s.recoverCustody :=
  List.foldl_hom (withSel g) fun t id => by
    have hplace : (withSel g t).place? id = t.place? id := rfl
    rw [hplace]
    cases t.place? id with
    | none => rfl
    | some pl => cases pl <;> rfl

theorem recoverEntry_withSel (s : State) (f : Furnace) : (withSel g s).recoverEntry f = withSel g (s.recoverEntry f) := by
  have hfold := List.foldl_hom (withSel g) (g₁ := fun v (x : SlabId × Side) => v.makeDoubtful x.1 (.atEntry f x.2))
    (g₂ := fun v (x : SlabId × Side) => v.makeDoubtful x.1 (.atEntry f x.2)) (l := (s.furnace f).op.slabs) (init := s) fun _ _ => rfl
  rw [recoverEntry_eq, recoverEntry_eq, show (withSel g s).furnace f = s.furnace f from rfl, hfold]
  rfl

theorem recoverDoubt_withSel (s : State) (f : Furnace) : (withSel g s).recoverDoubt f = withSel g (s.recoverDoubt f) := by
  unfold State.recoverDoubt
  rw [show (withSel g s).furnace f = s.furnace f from rfl]
  split
  · rfl
  · exact logFault_withSel g (s.updateFurnace f fun m => { m with doubt := true }) _ _ _ _

theorem laneRecovered_withSel (s : State) : laneRecovered (withSel g s) = withSel g (laneRecovered s) :=
  logFault_withSel g { s with laneDoubt := true } _ _ _ _

theorem recover_withSel (s : State) : (withSel g s).recover = withSel g s.recover := by
  rw [recover_eq, recover_eq, recoverPermits_withSel, recoverCustody_withSel, recoverEntry_withSel, recoverEntry_withSel,
    recoverEntry_withSel, laneRecovered_withSel, recoverDoubts, recoverDoubts, recoverDoubt_withSel, recoverDoubt_withSel,
    recoverDoubt_withSel]

/-- R167: a start-up that keeps the SEL lines differs from a power-on in those lines alone. -/
theorem startUp_withSel (s : State) : s.startUp true = withSel (fun p => (s.port p).sel.dropped) (s.startUp false) := by
  have hcold : s.coldStart true = withSel (fun p => (s.port p).sel.dropped) (s.coldStart false) := rfl
  unfold State.startUp
  rw [hcold]
  dsimp only
  rw [show (withSel (fun p => (s.port p).sel.dropped) (s.coldStart false)).storeWritten = (s.coldStart false).storeWritten from rfl,
    show (withSel (fun p => (s.port p).sel.dropped) (s.coldStart false)).mode = (s.coldStart false).mode from rfl]
  split
  · rfl
  · split
    · rfl
    · exact recover_withSel _ _

theorem startUp_powered (s : State) (keepSel : Bool) : (s.startUp keepSel).powered = s.powered := by
  unfold State.startUp
  dsimp only
  split
  · rfl
  · split
    · rfl
    · exact (powered_of_setting (setting_recover (s.coldStart keepSel))).trans rfl

/-- Settles O28: RESTART is the power-on event with the SEL lines kept. -/
theorem restartIsStartUp : Obligations.RestartIsStartUp := by
  unfold Obligations.RestartIsStartUp
  intro s hs
  have hrestart : s.restart = { withSel (fun p => (s.port p).sel.dropped) s.powerUp with
      resetRecord := { s.resetRecord with restart := true } } := by
    have hpowered : (s.startUp false).powered = true := (startUp_powered s false).trans hs.1
    rw [State.restart, startUp_withSel, State.powerUp]
    generalize s.startUp false = u at hpowered
    cases u
    cases hpowered
    rfl
  refine ⟨s.restart.respond .p0 (.done _), s.powerUp, request_done (rule := ruleRestart []) hs rfl rfl, rfl, ?_, fun p hp => ?_, ?_⟩
  · rw [hrestart]; rfl
  · rw [State.respond_port, if_neg hp, hrestart]
    exact withSel_port (fun p => (s.port p).sel.dropped) s.powerUp p
  · rw [State.respond_port, if_pos rfl, hrestart]
    rfl

end Selections

end Sys2Proof.Proofs

/-!
PROOFS. The expiries of the cranes' timers and of a silence timer (O31, O33).
-/

namespace Sys2Proof.Proofs

open Sys2Proof Sys2Proof.Machine

/-! ### Timers (R53, R71, R172) -/

section Timers

variable {s t : State}

/-- Settles O31: an expiry of a running timer, of the crane that holds the slab. -/
theorem craneTimersExpire : Obligations.CraneTimersExpire := by
  unfold Obligations.CraneTimersExpire
  refine fun s k n id hw => ⟨fun htimer hpermit => ?_, fun htimer hcustody => ?_⟩
  · refine (event_of_powered (fun t => t.permitExpiry k) hw).trans ?_
    rw [State.permitExpiry, htimer, hpermit]
    rfl
  · refine (event_of_powered (fun t => t.custodyExpiry k) hw).trans ?_
    rw [State.custodyExpiry, htimer, hcustody]
    rfl

/-- R37, R44, R72, R109, R130: an event that changes banks and ports alone raises nothing by what it changed. -/
theorem settle_of_banks_ports (h : t = { s with banks := t.banks, ports := t.ports }) : settle s t = t :=
  settle_of_same (by rw [h]; rfl) (by rw [h]; rfl) (fun k => by rw [h]; rfl) (fun f => by rw [h]; rfl) fun f => by rw [h]; rfl

/-- R172, steps 1 to 3: the state in which a port is LOST and the loss is logged. -/
def portSilent (s : State) (p : Port) : State :=
  (s.updatePort p fun q => { q with link := .lost, silence := none }).logFault .link .portSilent none (some p)

theorem portSilent_eq (s : State) (p : Port) :
    portSilent s p = { s with banks := (portSilent s p).banks, ports := (portSilent s p).ports } :=
  State.logFault_eq _ _ _ _ _

theorem silenceExpiry_exec {p : Port} {n : Nat} (hw : s.powered = true) (hlink : (s.port p).link = .active)
    (hsilence : (s.port p).silence = some n) : exec (.silenceTimerExpiry p) s = .next (settle s (s.losePort p)) := by
  refine (event_of_powered (fun t => t.silenceExpiry p) hw).trans ?_
  rw [State.silenceExpiry, if_pos ⟨hlink, by rw [hsilence]; nofun⟩]

/-- R172: the state in which the loss of a port of a crane or of a furnace has been raised too. -/
def portLost (s : State) (p : Port) : State := (portSilent s p).raiseSupv .portLost

theorem portLost_eq (s : State) (p : Port) : portLost s p = { s with banks := (portLost s p).banks, ports := (portLost s p).ports } := by
  rw [portLost, State.raiseSupv, State.raiseWhen_eq, portSilent_eq]

theorem portLost_crane (s : State) (p : Port) (k : Crane) : (portLost s p).crane k = s.crane k := by
  rw [portLost, State.raiseSupv_crane, portSilent, State.logFault_crane, State.updatePort_crane]

theorem portLost_permitOf (s : State) (p : Port) (k : Crane) : (portLost s p).permitOf k = s.permitOf k := by
  have hregister : (portLost s p).register = s.register := by
    rw [portLost, State.raiseSupv_register, portSilent, State.logFault_register, State.updatePort_register]
  rw [State.permitOf, hregister]
  rfl

theorem portLost_mode (s : State) (p : Port) : (portLost s p).mode = s.mode := by
  rw [portLost, State.raiseSupv_mode, portSilent, State.logFault_mode, State.updatePort_mode]

/-- R172: the loss of a port of a crane or of a furnace. -/
theorem losePort_eq {p : Port} (hp : p ≠ .p0) : s.losePort p = (portLost s p).roleLoss p := by
  have hne : (p != .p0) = true := bne_iff_ne.mpr hp
  rw [State.losePort, hne]
  rfl

theorem roleLoss_crane (u : State) (k : Crane) : u.roleLoss (cranePort k) = u.craneLost k := by
  rw [State.roleLoss, portCrane_cranePort]

theorem roleLoss_furnace (u : State) (f : Furnace) : u.roleLoss (furnacePort f) = u.controllerLost f := by
  rw [State.roleLoss, portCrane_furnacePort, portFurnace_furnacePort]

/-- A furnace changed twice is changed once. -/
theorem updateFurnace_updateFurnace (u : State) (f : Furnace) (g h : FurnaceState → FurnaceState) :
    (u.updateFurnace f g).updateFurnace f h = u.updateFurnace f fun m => h (g m) := by
  cases f <;> rfl

/-- R108: the loss of a furnace's port in RUN. -/
theorem controllerLost_run (u : State) (f : Furnace) (hmode : u.mode = .run) : u.controllerLost f =
    ((u.updateFurnace f fun m => { m with hold := { m.hold with portLost := true }, doubt := true }).logFurnace f .controllerLost none
      (some (furnacePort f))).raiseSupv .doubt := by
  rw [State.controllerLost, if_pos hmode, State.doubtFurnace, State.changeHold, updateFurnace_updateFurnace]

/-- Settles O33: the loss of a port by its role and by what its crane holds. -/
theorem silenceLosesThePort : Obligations.SilenceLosesThePort := by
  unfold Obligations.SilenceLosesThePort
  intro s p n hw hlink hsilence lost
  have hexec := silenceExpiry_exec hw hlink hsilence
  refine ⟨fun hp => ?_, fun k hp hpermit hcustody => ?_, fun k id hp hpermit hcustody => ?_, fun k id hp hpermit hcustody => ?_,
    fun f hp hmode => ?_, fun f hp hmode => ?_⟩
  · subst hp
    have hlose : s.losePort .p0 = portSilent s .p0 := (congrArg (fun v : State => v.roleLoss .p0) (State.raiseWhen_false _ _ _)).trans rfl
    rw [hexec, hlose, settle_of_banks_ports (portSilent_eq s .p0)]
    rfl
  · subst hp
    have hlose : s.losePort (cranePort k) = portLost s (cranePort k) := by
      rw [losePort_eq (cranePort_ne_p0 k), roleLoss_crane, State.craneLost, portLost_permitOf, hpermit]
      dsimp only
      rw [portLost_crane, hcustody]
    rw [hexec, hlose, settle_of_banks_ports (portLost_eq s _)]
    rfl
  · subst hp
    rw [hexec, losePort_eq (cranePort_ne_p0 k), roleLoss_crane, State.craneLost, portLost_permitOf, hpermit]
    dsimp only
    have hnone : (((portLost s (cranePort k)).lapsePermit k id false).crane k).custody = none := by
      rw [State.lapsePermit, State.logFault_crane, State.raiseWhen_crane, State.undoPermit, State.dissolvePair_crane, State.setPlace_crane,
        State.stopPermitTimer, State.updateCrane_crane, if_pos rfl, ← hcustody, ← portLost_crane]
    rw [hnone, State.lapsePermit, State.raiseWhen_false]
    rfl
  · subst hp
    rw [hexec, losePort_eq (cranePort_ne_p0 k), roleLoss_crane, State.craneLost, portLost_permitOf, hpermit]
    dsimp only
    rw [portLost_crane, hcustody]
    rfl
  · subst hp
    have hrun : (portLost s (furnacePort f)).mode = .run := (portLost_mode s _).trans hmode
    rw [hexec, losePort_eq (furnacePort_ne_p0 f), roleLoss_furnace, controllerLost_run _ _ hrun]
    rfl
  · subst hp
    have hconfig : (portLost s (furnacePort f)).mode ≠ .run := by rw [portLost_mode, hmode]; decide
    rw [hexec, losePort_eq (furnacePort_ne_p0 f), roleLoss_furnace, State.controllerLost, if_neg hconfig, settle_of_banks_ports (portLost_eq s _)]
    rfl

end Timers

end Sys2Proof.Proofs

/-!
PROOFS. The exchange machine and the lines of a port (O34, O36).
-/

namespace Sys2Proof.Proofs

open Sys2Proof Sys2Proof.Machine

/-! ### The exchange machine (R162 to R167) -/

section Exchange

variable {s : State} {p : Port}

/-- A change of one port is read from what the port holds. -/
theorem updatePort_congr {g h : PortState → PortState} (hgh : g (s.port p) = h (s.port p)) : s.updatePort p g = s.updatePort p h := by
  unfold State.updatePort
  rw [show g (s.ports.get p) = h (s.ports.get p) from hgh]

/-- R165: the events of a machine in PROCESSING. -/
theorem assertSel_processing {kept : List Byte} {count : Nat} (hx : (s.port p).exchange = .processing kept count)
    (hsel : (s.port p).sel = .released) :
    s.assertSel p = (s.logFault .link .frameWhileBusy none (some p)).updatePort p fun q => { q with sel := .ignored } := by
  rw [State.assertSel, hsel, hx, if_neg (not_not.mpr rfl)]
  refine updatePort_congr (s := s.logBusy p) ?_
  have hport : (s.logBusy p).port p = { s.port p with notices := ((s.logBusy p).port p).notices } := logFault_port _ _ _ _ _ _
  rw [hport, ← hx]

theorem assertSel_ready {frame : List Byte} (hx : (s.port p).exchange = .responseReady frame) (hsel : (s.port p).sel = .released) :
    s.assertSel p = s.updatePort p fun q => { q with sel := .taken } := by
  rw [State.assertSel, hsel, hx, if_neg (not_not.mpr rfl)]
  refine updatePort_congr (s := s) ?_
  rw [← hx]

theorem assertSel_idle (hx : (s.port p).exchange = .idle) (hsel : (s.port p).sel = .released) :
    s.assertSel p = s.updatePort p fun q => { q with exchange := .receiving [] 0, sel := .taken } := by
  rw [State.assertSel, hsel, hx]
  rfl

/-- R164, R172: the end of a frame. -/
theorem endFrame_receiving {kept : List Byte} {count : Nat} (bytes : List Byte) (hx : (s.port p).exchange = .receiving kept count) :
    s.endFrame p bytes = s.updatePort p fun q => { q with
      exchange := .processing ((kept ++ bytes).take 63) (count + bytes.length)
      sel := .released
      silence := if goodFrame ((kept ++ bytes).take 63) (count + bytes.length) = true ∧ q.link = .active
        then some (5 * 2 ^ s.silenceCode p) else q.silence } := by
  rw [State.endFrame, hx]
  dsimp only
  rw [State.rearm, State.setExchange, updatePort_updatePort]
  refine updatePort_congr (s := s) ?_
  simp only [Bool.and_eq_true, beq_iff_eq]
  rfl

theorem endFrame_other {bytes : List Byte} (hreceiving : ∀ kept count, (s.port p).exchange ≠ .receiving kept count)
    (hreading : ∀ frame, (s.port p).exchange ≠ .reading frame) :
    s.endFrame p bytes = s.updatePort p fun q => { q with sel := .released } := by
  rw [State.endFrame]
  split
  · next hx => exact absurd hx (hreceiving _ _)
  · next hx => exact absurd hx (hreading _)
  · exact updatePort_congr rfl

theorem beginReadout_ready {frame : List Byte} (hx : (s.port p).exchange = .responseReady frame) : s.beginReadout p =
    if (s.port p).sel = .ignored then s else s.updatePort p fun q => { q with exchange := .reading frame, sel := .taken } := by
  rw [State.beginReadout, hx]
  rfl

theorem discardResponse_ready {frame : List Byte} (first : Byte) (hx : (s.port p).exchange = .responseReady frame) :
    s.discardResponse p first = if first = 0 then s.beginReadout p else if (s.port p).sel = .ignored then s
      else (s.logFault .link .responseDiscarded none (some p)).updatePort p fun q =>
        { q with exchange := .receiving [first] 1, sel := .taken } := by
  rw [State.discardResponse, hx]
  rfl

/-- R166: a release of SEL, as READOUT_END takes it. -/
def releaseSel (p : Port) (t : State) : State :=
  match (t.port p).exchange with
  | .reading _ => t.setExchange p .idle .released
  | .receiving _ _ => t
  | x => t.setExchange p x .released

theorem exec_readoutEnd (s : State) (p : Port) : exec (.readoutEnd p) s = portEvent p (releaseSel p) s := rfl

theorem releaseSel_reading {frame : List Byte} (hx : (s.port p).exchange = .reading frame) :
    releaseSel p s = s.updatePort p fun q => { q with exchange := .idle, sel := .released } := by
  rw [releaseSel, hx]
  rfl

theorem releaseSel_other (hreceiving : ∀ kept count, (s.port p).exchange ≠ .receiving kept count)
    (hreading : ∀ frame, (s.port p).exchange ≠ .reading frame) :
    releaseSel p s = s.updatePort p fun q => { q with sel := .released } := by
  rw [releaseSel]
  split
  · next hx => exact absurd hx (hreading _)
  · next hx => exact absurd hx (hreceiving _ _)
  · exact updatePort_congr rfl

/-- R165: a whole selection in PROCESSING, as FRAME_WHILE_BUSY takes it. -/
def busySelection (p : Port) (t : State) : State :=
  match (t.port p).exchange with
  | .processing _ _ => t.logBusy p
  | _ => t

theorem exec_frameWhileBusy (s : State) (p : Port) : exec (.frameWhileBusy p) s = portEvent p (busySelection p) s := rfl

/-- Settles O34: each event by the state of the machine that it finds. -/
theorem exchangeMachineMoves : Obligations.ExchangeMachineMoves := by
  unfold Obligations.ExchangeMachineMoves
  intro s p hw hp
  have hevent {g : State → State} {t : State} (h : g s = t) : portEvent p g s = .next t := h ▸ portEvent_of_present p g hw hp
  refine ⟨fun hx hsel => hevent (g := fun t => t.assertSel p) (assertSel_idle hx hsel), fun kept count hx hsel => hevent (g := fun t => t.assertSel p) (assertSel_processing hx hsel),
    fun frame hx hsel => hevent (g := fun t => t.assertSel p) (assertSel_ready hx hsel), fun hsel => hevent (g := fun t => t.assertSel p) (if_pos hsel),
    fun kept count bytes partialBits hx => hevent (g := fun t => t.endFrame p bytes) (endFrame_receiving bytes hx),
    fun kept count hx => (exec_frameWhileBusy s p).trans (hevent (by rw [busySelection, hx]; rfl)),
    fun frame hx hsel => ⟨hevent (g := fun t => t.beginReadout p) ((beginReadout_ready hx).trans (if_neg hsel)), fun first hfirst =>
      hevent (g := fun t => t.discardResponse p first) ?_⟩,
    fun frame hx hsel => ⟨hevent (g := fun t => t.beginReadout p) ((beginReadout_ready hx).trans (if_pos hsel)), fun first =>
      hevent (g := fun t => t.discardResponse p first) ?_⟩,
    fun frame hx => (exec_readoutEnd s p).trans (hevent (releaseSel_reading hx)), fun hreceiving hreading =>
      ⟨(exec_readoutEnd s p).trans (hevent (releaseSel_other hreceiving hreading)), fun bytes partialBits =>
        hevent (g := fun t => t.endFrame p bytes) (endFrame_other hreceiving hreading)⟩⟩
  · rw [discardResponse_ready first hx, if_neg hfirst, if_neg hsel]
  · rw [discardResponse_ready first hx, beginReadout_ready hx, if_pos hsel, if_pos hsel, ite_self]

end Exchange

/-! ### The lines of a port (R163, R173) -/

section Lines

/-- R173: two sets of kinds meet in a bit. -/
theorem and_ne_zero_iff (x y : Byte) : (x &&& y != 0) = true ↔ ∃ i : Nat, i < 8 ∧ x.getLsbD i = true ∧ y.getLsbD i = true := by
  rw [bne_iff_ne]
  constructor
  · intro hne
    by_contra hnone
    refine hne (BitVec.eq_of_getLsbD_eq fun i hi => ?_)
    rw [BitVec.getLsbD_and]
    have hzero : (0 : Byte).getLsbD i = false := BitVec.getLsbD_zero
    rw [hzero, Bool.eq_false_iff, ne_eq, Bool.and_eq_true]
    exact fun h => hnone ⟨i, hi, h.1, h.2⟩
  · rintro ⟨i, -, hx, hy⟩ hzero
    have hbit := congrArg (fun b : Byte => b.getLsbD i) hzero
    simp [hx, hy] at hbit

/-- Settles O36: the lines by the state of the machine and the SEL line. -/
theorem linesOfAPort : Obligations.LinesOfAPort := by
  unfold Obligations.LinesOfAPort
  intro q
  have hread (frame : List Byte) (i : Nat) : (∀ b, frame[i]? = some b → some (frame.getD i 0xFF) = some b) ∧
      (frame.length ≤ i → some (frame.getD i 0xFF) = some (0xFF : Byte)) :=
    ⟨fun b hb => by rw [List.getD_eq_getElem?_getD, hb]; rfl, fun hlen => by rw [List.getD_eq_default _ _ hlen]⟩
  refine ⟨?_, and_ne_zero_iff _ _, fun kept count i hx => ?_, fun frame i hx => ?_, fun frame i hx => ⟨fun hsel => ?_, fun hsel => ?_⟩⟩
  · rw [PortState.rdy]
    cases q.exchange <;> simp
  · rcases hx with hx | hx <;> rw [PortState.dataOut, hx]
  · rcases hx with hx | ⟨hx, hsel⟩
    · rw [PortState.dataOut, hx]; exact hread frame i
    · rw [PortState.dataOut, hx, hsel]; exact hread frame i
  · rcases hx with hx | hx
    · rw [PortState.dataOut, hx, hsel]; rfl
    · rw [PortState.dataOut, hx, hsel]
  · rcases hx with hx | hx
    · rw [PortState.dataOut, hx, hsel]; rfl
    · rw [PortState.dataOut, hx, hsel]

end Lines

end Sys2Proof.Proofs

/-!
PROOFS. The requests of every port, HELLO, PARK, the notice requests and STATUS (O37 to O40), and the judgement of a frame (O35).
-/

namespace Sys2Proof.Proofs

open Sys2Proof Sys2Proof.Machine

section Standing

variable {s : State} {p : Port} {k : Kind} {rule : State → State × Response}

/-- R165, R169: a request that the role, the link state and the mode let pass. -/
theorem request_of_standing {t : State} {r : Response} (hw : s.powered = true) (hp : s.present p = true)
    (hk : k.allowedTo (portRole p) = true) (hstands : s.standingRefusal p k = none) (hrule : rule s = (t, r)) :
    request p k rule s = .next (t.respond p r) := by
  simp [request, answered, judged, hw, hp, hk, hstands, hrule]

theorem standing_iff : s.standingRefusal p k = none ↔ k.allowedIn (s.port p).link = true ∧ s.notRunning p k = false := by
  rw [State.standingRefusal]
  cases k.allowedIn (s.port p).link <;> cases s.notRunning p k <;> cases (s.port p).link <;> simp

/-- R169, R170: HELLO passes in every link state and in either mode. -/
theorem standing_hello : s.standingRefusal p .hello = none := by
  rw [standing_iff]
  exact ⟨by cases (s.port p).link <;> rfl, by simp [State.notRunning]⟩

/-- R169, R184: STATUS passes in every link state but LOST. -/
theorem standing_status (hlink : (s.port p).link ≠ .lost) : s.standingRefusal p .status = none := by
  rw [standing_iff]
  refine ⟨?_, by simp [State.notRunning]⟩
  cases h : (s.port p).link with
  | lost => exact absurd h hlink
  | offline | active | parked => rfl

/-- R169, R174: the notice requests pass in ACTIVE and in PARKED. -/
theorem standing_notices (hk : k = .noticeRead ∨ k = .noticeClear ∨ k = .noticeMask)
    (hlink : (s.port p).link = .active ∨ (s.port p).link = .parked) (hmode : s.mode = .run ∨ p = .p0) :
    s.standingRefusal p k = none := by
  rw [standing_iff]
  refine ⟨?_, ?_⟩
  · rcases hlink with h | h <;> rw [h] <;> rcases hk with rfl | rfl | rfl <;> rfl
  · rcases hmode with h | h <;> simp [State.notRunning, h]

end Standing

/-! ### HELLO (R170) -/

section Hello

/-- A change of ports alone raises nothing by what it changed. -/
theorem settle_updatePort (s : State) (p : Port) (g : PortState → PortState) : settle s (s.updatePort p g) = s.updatePort p g :=
  settle_of_banks_ports rfl

theorem hello_exec {s : State} {p : Port} (hw : s.powered = true) (hp : s.present p = true) :
    exec (.hello p []) s = .next ((s.hello p).done p (helloBody p (s.port p).link (s.hello p))) :=
  request_of_standing (rule := ruleHello p []) hw hp rfl standing_hello rfl

theorem hello_supv (s : State) : s.hello .p0 = s.openPort .p0 := settle_updatePort s .p0 _

theorem hello_crane (s : State) (k : Crane) :
    s.hello (cranePort k) = (s.openPort (cranePort k)).raiseWhen (s.carriesHead k) (cranePort k) CraneNotice.turn.bit := by
  have hopened : settle s ((s.openPort (cranePort k)).unparkFurnace (cranePort k)) = s.openPort (cranePort k) := by
    rw [State.unparkFurnace, portFurnace_cranePort]
    exact settle_updatePort s _ _
  rw [State.hello, hopened, State.greet, portCrane_cranePort]
  rfl

theorem hello_furnace (s : State) (f : Furnace) : s.hello (furnacePort f) =
    let w := settle s ((s.openPort (furnacePort f)).updateFurnace f fun m =>
      { m with hold := { m.hold with portParked := false, portLost := false } })
    w.raiseWhen (w.ready f) (furnacePort f) FurnaceNotice.rowReady.bit := by
  rw [State.hello, State.unparkFurnace, portFurnace_furnacePort, State.greet, portCrane_furnacePort, portFurnace_furnacePort]
  rfl

/-- Settles O37: the state after a HELLO, by role. -/
theorem helloOpensThePort : Obligations.HelloOpensThePort := by
  unfold Obligations.HelloOpensThePort
  intro s p hw hp u body
  refine ⟨fun h => ?_, fun k h => ?_, fun f h => ?_⟩
  · subst h
    rw [hello_exec hw hp, hello_supv]
    rfl
  · subst h
    have hindex : portIndex (cranePort k) = craneNumber k := by rw [portIndex, portCrane_cranePort]
    rw [hello_exec hw hp, hello_crane, helloBody, State.raiseWhen_mode, hindex]
    rfl
  · subst h
    intro w v
    have hindex : portIndex (furnacePort f) = furnaceNumber f := by rw [portIndex, portCrane_furnacePort, portFurnace_furnacePort]
    have hhello : s.hello (furnacePort f) = v := hello_furnace s f
    have hmode : v.mode = s.mode := by rw [State.raiseWhen_mode, settle_mode]; rfl
    rw [hello_exec hw hp, hhello, helloBody, hmode, hindex]

end Hello

/-! ### PARK (R79, R140, R171) -/

section Park

theorem holdsReservation_iff (s : State) (k : Crane) : s.holdsReservation k = true ↔ ∃ id, s.reservation = some ⟨k, id⟩ := by
  rw [State.holdsReservation]
  cases h : s.reservation with
  | none => simp
  | some r =>
    rw [beq_iff_eq]
    exact ⟨fun hk => ⟨r.slab, hk ▸ rfl⟩, fun ⟨id, hid⟩ => by cases hid; rfl⟩

theorem craneHoldsNothing_iff (s : State) (k : Crane) :
    s.craneHoldsNothing k = true ↔ s.permitOf k = none ∧ (s.crane k).custody = none := by
  rw [State.craneHoldsNothing, Bool.and_eq_true, Option.isNone_iff_eq_none, Option.isNone_iff_eq_none]

theorem parkRefusal_crane (s : State) (k : Crane) : s.parkRefusal (cranePort k) =
    if s.craneHoldsNothing k && !s.holdsReservation k then none else some ParkRefusal.custody := by
  rw [State.parkRefusal, portCrane_cranePort]

/-- R79: a crane that has no work in hand. -/
theorem craneIsFree_iff (s : State) (k : Crane) : (s.craneHoldsNothing k && !s.holdsReservation k) = true ↔
    s.permitOf k = none ∧ (s.crane k).custody = none ∧ ∀ id, s.reservation ≠ some ⟨k, id⟩ := by
  rw [Bool.and_eq_true, Bool.not_eq_true', craneHoldsNothing_iff, ← Bool.not_eq_true, holdsReservation_iff, not_exists, and_assoc]

theorem parkRefusal_furnace (s : State) (f : Furnace) :
    s.parkRefusal (furnacePort f) = if (s.furnace f).op.isCharging then some .charging else none := by
  rw [State.parkRefusal, portCrane_furnacePort, portFurnace_furnacePort]

theorem parkPort_crane (s : State) (k : Crane) :
    s.parkPort (cranePort k) = s.updatePort (cranePort k) fun q => { q with link := .parked, silence := none } := by
  rw [State.parkPort, portFurnace_cranePort]

theorem parkPort_furnace (s : State) (f : Furnace) : s.parkPort (furnacePort f) =
    (s.updatePort (furnacePort f) fun q => { q with link := .parked, silence := none }).updateFurnace f
      fun m => { m with hold := { m.hold with portParked := true } } := by
  rw [State.parkPort, portFurnace_furnacePort]
  rfl

variable {s : State} {p : Port}

theorem park_refused {e : ParkRefusal} (h : s.serves p) (he : s.parkRefusal p = some e) :
    exec (.park p []) s = .next (s.done p (u8 0 ++ u8 e.code)) :=
  request_done (rule := rulePark p []) h rfl (by rw [rulePark, he]; rfl)

theorem park_taken (h : s.serves p) (he : s.parkRefusal p = none) :
    exec (.park p []) s = .next ((settle s (s.parkPort p)).done p (u8 1)) :=
  request_taken (rule := rulePark p []) h rfl (body := fun _ => u8 1) (by rw [rulePark, he]; rfl) rfl

/-- Settles O38: the refusals by role, and the port as it is parked. -/
theorem parkStandsThePortDown : Obligations.ParkStandsThePortDown := by
  unfold Obligations.ParkStandsThePortDown
  intro s p hs
  refine ⟨fun h => ?_, fun k h hwork => ?_, fun f h hcharging => ?_, fun k h hpermit hcustody hreserved => ?_, fun f h hidle => ?_⟩
  · subst h
    exact park_refused hs rfl
  · subst h
    refine park_refused hs ((parkRefusal_crane s k).trans (if_neg ?_))
    rw [craneIsFree_iff]
    rintro ⟨hpermit, hcustody, hreserved⟩
    rcases hwork with h | h | ⟨id, h⟩
    · exact h hpermit
    · exact h hcustody
    · exact hreserved id h
  · subst h
    exact park_refused hs ((parkRefusal_furnace s f).trans (if_pos hcharging))
  · subst h
    refine (park_taken hs ((parkRefusal_crane s k).trans (if_pos ((craneIsFree_iff s k).mpr ⟨hpermit, hcustody, hreserved⟩)))).trans ?_
    rw [parkPort_crane, settle_updatePort]
    rfl
  · subst h
    refine (park_taken hs ((parkRefusal_furnace s f).trans (if_neg (by rw [hidle]; decide)))).trans ?_
    rw [parkPort_furnace]
    rfl

end Park

/-! ### The notice requests and STATUS (R174, R184) -/

section Notices

variable {s : State}

variable {p : Port} {kinds : Byte}

/-- R174: a body of one kinds byte fails the check exactly when it names a kind that the role has not. -/
theorem kindsRefused_iff : ([kinds].length ≠ 1 || !kindsInRole p kinds) = true ↔ kinds &&& ~~~(roleKinds (portRole p)) ≠ 0 := by
  simp [kindsInRole]

theorem ruleNoticeClear_taken (h : kinds &&& ~~~(roleKinds (portRole p)) = 0) : ruleNoticeClear p [kinds] s =
    (s.updatePort p fun q => { q with notices := q.notices &&& ~~~kinds }, .done [(s.port p).notices &&& ~~~kinds]) :=
  if_neg fun hrefused => kindsRefused_iff.mp hrefused h

theorem ruleNoticeClear_range (h : kinds &&& ~~~(roleKinds (portRole p)) ≠ 0) : ruleNoticeClear p [kinds] s = refused s .range :=
  if_pos (kindsRefused_iff.mpr h)

theorem ruleNoticeMask_taken (h : kinds &&& ~~~(roleKinds (portRole p)) = 0) : ruleNoticeMask p [kinds] s =
    (s.updatePort p fun q => { q with mask := kinds }, .done [kinds, (s.port p).notices]) :=
  if_neg fun hrefused => kindsRefused_iff.mp hrefused h

theorem ruleNoticeMask_range (h : kinds &&& ~~~(roleKinds (portRole p)) ≠ 0) : ruleNoticeMask p [kinds] s = refused s .range :=
  if_pos (kindsRefused_iff.mpr h)

/-- Settles O39: the three rules, for kinds of the role and for others. -/
theorem noticeRequests : Obligations.NoticeRequests := by
  unfold Obligations.NoticeRequests
  intro s p hw hp hlink hmode
  have hclear {t : State} {r : Response} (kinds : Byte) (h : ruleNoticeClear p [kinds] s = (t, r)) :
      exec (.noticeClear p [kinds]) s = .next (t.respond p r) :=
    request_of_standing (rule := ruleNoticeClear p [kinds]) hw hp rfl (standing_notices (.inr (.inl rfl)) hlink hmode) h
  have hmask {t : State} {r : Response} (kinds : Byte) (h : ruleNoticeMask p [kinds] s = (t, r)) :
      exec (.noticeMask p [kinds]) s = .next (t.respond p r) :=
    request_of_standing (rule := ruleNoticeMask p [kinds]) hw hp rfl (standing_notices (.inr (.inr rfl)) hlink hmode) h
  refine ⟨request_of_standing (rule := ruleNoticeRead p []) hw hp rfl (standing_notices (.inl rfl) hlink hmode) rfl, fun kinds =>
    ⟨fun hrole => ⟨hclear kinds (ruleNoticeClear_taken hrole), hmask kinds (ruleNoticeMask_taken hrole)⟩,
      fun hrole => ⟨hclear kinds (ruleNoticeClear_range hrole), hmask kinds (ruleNoticeMask_range hrole)⟩⟩⟩

/-- Settles O40: STATUS passes its checks and reads its body. -/
theorem statusReadsTheStanding : Obligations.StatusReadsTheStanding := by
  unfold Obligations.StatusReadsTheStanding
  exact fun s p hw hp hlink => request_of_standing (rule := ruleStatus p []) hw hp rfl (standing_status hlink) rfl

end Notices

end Sys2Proof.Proofs

/-!
PROOFS. The judgement of the frame that a port holds, and the row of the table that stands for it (O35).
-/

namespace Sys2Proof.Proofs

open Sys2Proof Sys2Proof.Machine

section Rows

/-- R168: four bytes are written as they were read. -/
theorem u32_beNat (a b c d : Byte) : u32 (beNat [a, b, c, d]) = [a, b, c, d] := by
  have ha := a.isLt
  have hb := b.isLt
  have hc := c.isLt
  have hd := d.isLt
  simp only [u32, beNat, List.foldl]
  congr 1
  · apply BitVec.eq_of_toNat_eq; rw [BitVec.toNat_ofNat]; omega
  congr 1
  · apply BitVec.eq_of_toNat_eq; rw [BitVec.toNat_ofNat]; omega
  congr 1
  · apply BitVec.eq_of_toNat_eq; rw [BitVec.toNat_ofNat]; omega
  congr 1
  · apply BitVec.eq_of_toNat_eq; rw [BitVec.toNat_ofNat]; omega

/-- R145: a SLAB_RESOLVE body with an outcome byte is the body of its slab, that byte and what follows. -/
theorem resolveBody_of_drop {body : List Byte} {outcome : Byte} {extra : List Byte} (h : body.drop 4 = outcome :: extra) :
    resolveBody (BitVec.ofNat 32 (field body 0 4)) outcome extra = body := by
  obtain ⟨a, b, c, d, rest, rfl⟩ : ∃ a b c d rest, body = a :: b :: c :: d :: rest := by
    match body, h with
    | a :: b :: c :: d :: rest, _ => exact ⟨a, b, c, d, rest, rfl⟩
  have hfield : field (a :: b :: c :: d :: rest) 0 4 = beNat [a, b, c, d] := rfl
  have hlt : beNat [a, b, c, d] < 2 ^ 32 := by
    have := a.isLt
    have := b.isLt
    have := c.isLt
    have := d.isLt
    simp only [beNat, List.foldl]
    omega
  rw [resolveBody, hfield, BitVec.toNat_ofNat, Nat.mod_eq_of_lt hlt, u32_beNat, ← h]
  rfl

/-- R176: the row of a request stands for that request. -/
theorem asRequest_of_row {k : Kind} {p : Port} {body : List Byte} {c : Instr} (h : k.row p body = some c) :
    asRequest c = some (p, k, body) := by
  cases k with
  | slabResolve =>
    unfold Kind.row at h
    dsimp only at h
    split at h
    · next hdrop => cases h; exact congrArg (fun b => some (p, Kind.slabResolve, b)) (resolveBody_of_drop hdrop)
    · next hdrop => cases h; exact congrArg (fun b => some (p, Kind.slabResolve, b)) (resolveBody_of_drop hdrop)
    · next hdrop => cases h; exact congrArg (fun b => some (p, Kind.slabResolve, b)) (resolveBody_of_drop hdrop)
    · next hdrop => cases h; exact congrArg (fun b => some (p, Kind.slabResolve, b)) (resolveBody_of_drop hdrop)
    · cases h
  | chargeAbort =>
    unfold Kind.row at h
    dsimp only at h
    split at h <;> cases h <;> rfl
  | _ => cases h; rfl

variable {s : State} {p : Port}

theorem field_byte_of_drop {body extra : List Byte} {x : Byte} {off : Nat} (h : body.drop off = x :: extra) : field body off 1 = x.toNat := by
  rw [field, h]
  simp [beNat]

/-- R145: a SLAB_RESOLVE without an outcome fails its first check. -/
theorem resolveInRange_of_no_row {body : List Byte} (h : Kind.slabResolve.row p body = none) : resolveInRange body = false := by
  cases hdrop : body.drop 4 with
  | nil =>
    have hlen : ¬5 ≤ body.length := by
      have := List.drop_eq_nil_iff.mp hdrop
      omega
    simp [resolveInRange, hlen]
  | cons x extra =>
    have hfield := field_byte_of_drop hdrop
    by_cases hx : x.toNat ≤ 3
    · have hcases : x = 0x00#8 ∨ x = 0x01#8 ∨ x = 0x02#8 ∨ x = 0x03#8 := by
        rcases (by omega : x.toNat = 0 ∨ x.toNat = 1 ∨ x.toNat = 2 ∨ x.toNat = 3) with hx | hx | hx | hx
        · exact .inl (BitVec.eq_of_toNat_eq hx)
        · exact .inr (.inl (BitVec.eq_of_toNat_eq hx))
        · exact .inr (.inr (.inl (BitVec.eq_of_toNat_eq hx)))
        · exact .inr (.inr (.inr (BitVec.eq_of_toNat_eq hx)))
      unfold Kind.row at h
      dsimp only at h
      rw [hdrop] at h
      rcases hcases with rfl | rfl | rfl | rfl <;> cases h
    · simp [resolveInRange, hfield, hx]

/-- R136: a CHARGE_ABORT without an outcome is answered RANGE. -/
theorem ruleChargeAbort_of_no_row {body : List Byte} (h : Kind.chargeAbort.row p body = none) (f : Furnace) :
    ruleChargeAbort body f s = refused s .range := by
  cases body with
  | nil => rfl
  | cons x extra =>
    rw [ruleChargeAbort]
    split
    · rfl
    · have hfield : field (x :: extra) 0 1 = x.toNat := field_byte_of_drop (List.drop_zero ..)
      rw [hfield]
      split
      · next hx =>
        obtain rfl : x = 0x00#8 := BitVec.eq_of_toNat_eq hx
        cases h
      · next hx =>
        obtain rfl : x = 0x01#8 := BitVec.eq_of_toNat_eq hx
        cases h
      · rfl

/-- R145, R136: a request without a row is refused before all else. -/
theorem ruleOf_of_no_row {k : Kind} {body : List Byte} (h : k.row p body = none) (hrole : k.allowedTo (portRole p) = true)
    (hmode : s.mode = .run ∨ p = .p0 ∨ k = .hello ∨ k = .status) :
    ruleOf p body k s = refused s (if s.mode = .config then .state else .range) := by
  have hkind : k = .slabResolve ∨ k = .chargeAbort := by
    cases k with
    | slabResolve => exact .inl rfl
    | chargeAbort => exact .inr rfl
    | _ => cases h
  rcases hkind with rfl | rfl
  · show ruleSlabResolve body s = _
    rw [ruleSlabResolve, resolveInRange_of_no_row h]
    split <;> rfl
  · obtain ⟨f, hf⟩ : ∃ f, portFurnace p = some f := by cases p <;> first | exact ⟨_, rfl⟩ | cases hrole
    have hrun : s.mode = .run := by
      rcases hmode with h | rfl | h | h
      · exact h
      · cases hf
      · cases h
      · cases h
    show forFurnace p (ruleChargeAbort body) s = _
    rw [forFurnace, hf, hrun]
    exact ruleChargeAbort_of_no_row h f

end Rows

section Judgement

variable {s : State} {p : Port} {kept : List Byte} {count : Nat}

theorem exec_processingEnd (hw : s.powered = true) (hp : s.present p = true) (hx : (s.port p).exchange = .processing kept count) :
    exec (.processingEnd p) s = .next (answered p (judgeFrame p kept count s)) := by
  refine (portEvent_of_present p (fun t => match (t.port p).exchange with
    | .processing kept count => answered p (judgeFrame p kept count t)
    | _ => t) hw hp).trans ?_
  rw [hx]

theorem judgeFrame_of_kind {k : Kind} (hgood : goodFrame kept count = true) (hkind : kindOfCode (byteAt kept 0) = some k) :
    judgeFrame p kept count s = judged p k (ruleOf p (frameBody kept) k) s := by
  rw [judgeFrame, hgood, hkind]
  rfl

theorem judged_of_refusal {k : Kind} {rule : State → State × Response} {e : RefuseReason} (hrole : k.allowedTo (portRole p) = true)
    (he : s.standingRefusal p k = some e) : judged p k rule s = refused s e := by
  rw [judged, if_pos hrole, he]

theorem judged_of_standing {k : Kind} {rule : State → State × Response} (hrole : k.allowedTo (portRole p) = true)
    (hstands : s.standingRefusal p k = none) : judged p k rule s = rule s := by
  rw [judged, if_pos hrole, hstands]

/-- R169, tests 4 to 6. -/
theorem standingRefusal_lost {k : Kind} (hlink : (s.port p).link = .lost) (hk : k ≠ .hello) : s.standingRefusal p k = some .lost := by
  rw [State.standingRefusal, hlink]
  simp [Kind.allowedIn, hk]

theorem standingRefusal_offline {k : Kind} (hlink : (s.port p).link = .offline) (hk : ¬(k = .hello ∨ k = .status)) :
    s.standingRefusal p k = some .lost := by
  rw [not_or] at hk
  rw [State.standingRefusal, hlink]
  simp [Kind.allowedIn, hk.1, hk.2]

theorem standingRefusal_parked {k : Kind} (hlink : (s.port p).link = .parked) (hk : ¬(k = .hello ∨ k = .status))
    (hnotices : ¬(k = .noticeRead ∨ k = .noticeClear ∨ k = .noticeMask)) : s.standingRefusal p k = some .parked := by
  rw [not_or] at hk
  rw [not_or, not_or] at hnotices
  rw [State.standingRefusal, hlink]
  simp [Kind.allowedIn, hk.1, hk.2, hnotices.1, hnotices.2.1, hnotices.2.2]

/-- R169: the link state lets a kind pass. -/
theorem allowedIn_of_linked {k : Kind} (h : (s.port p).link = .active ∨ k = .hello ∨ (k = .status ∧ (s.port p).link ≠ .lost) ∨
    ((k = .noticeRead ∨ k = .noticeClear ∨ k = .noticeMask) ∧ (s.port p).link = .parked)) : k.allowedIn (s.port p).link = true := by
  rcases h with h | rfl | ⟨rfl, h⟩ | ⟨h, hlink⟩
  · rw [h]; rfl
  · cases (s.port p).link <;> rfl
  · cases hlink : (s.port p).link with
    | lost => exact absurd hlink h
    | offline | active | parked => rfl
  · rw [hlink]
    rcases h with rfl | rfl | rfl <;> rfl

theorem standingRefusal_config {k : Kind} (hlinked : k.allowedIn (s.port p).link = true) (hmode : s.mode = .config) (hp : p ≠ .p0)
    (hk : ¬(k = .hello ∨ k = .status)) : s.standingRefusal p k = some .notRunning := by
  rw [not_or] at hk
  rw [State.standingRefusal, if_pos hlinked, State.notRunning, hmode]
  simp [hp, hk.1, hk.2]

theorem standing_of_mode {k : Kind} (hlinked : k.allowedIn (s.port p).link = true)
    (hmode : s.mode = .run ∨ p = .p0 ∨ k = .hello ∨ k = .status) : s.standingRefusal p k = none := by
  refine standing_iff.mpr ⟨hlinked, ?_⟩
  rcases hmode with h | h | h | h <;> simp [State.notRunning, h]

/-- Settles O35: the six tests in their order, and the row of the kind. -/
theorem framesAreJudged : Obligations.FramesAreJudged := by
  unfold Obligations.FramesAreJudged
  intro s p kept count hw hp hx ends
  have hexec := exec_processingEnd hw hp hx
  have hends {t : State} {r : Response} (h : judgeFrame p kept count s = (t, r)) : ends t r := hexec.trans (by rw [h]; rfl)
  refine ⟨fun hbad => hends ?_, fun hgood hkind => hends ?_, fun k hgood hkind => ⟨fun c hc => ?_, ?_⟩⟩
  · rw [judgeFrame, hbad]; rfl
  · rw [judgeFrame, hgood, hkind]; rfl
  · rw [hexec, judgeFrame_of_kind hgood hkind, exec_of_asRequest (asRequest_of_row hc), request, hw, hp]
    rfl
  have hjudged := judgeFrame_of_kind (s := s) (p := p) hgood hkind
  refine ⟨fun hrole => hends ?_, fun hrole => ⟨fun hlink hk => hends ?_, fun hlink hk => hends ?_, fun hlink hk hnotices => hends ?_,
    fun hlinked hmode hp0 hk => hends ?_, fun hlinked hmode => ⟨hends ?_, fun hrow => hends ?_⟩⟩⟩
  · rw [hjudged, judged, hrole]; rfl
  · exact hjudged.trans (judged_of_refusal hrole (standingRefusal_lost hlink hk))
  · exact hjudged.trans (judged_of_refusal hrole (standingRefusal_offline hlink hk))
  · exact hjudged.trans (judged_of_refusal hrole (standingRefusal_parked hlink hk hnotices))
  · exact hjudged.trans (judged_of_refusal hrole (standingRefusal_config (allowedIn_of_linked hlinked) hmode hp0 hk))
  · exact hjudged.trans (judged_of_standing hrole (standing_of_mode (allowedIn_of_linked hlinked) hmode))
  · exact (hjudged.trans (judged_of_standing hrole (standing_of_mode (allowedIn_of_linked hlinked) hmode))).trans
      (ruleOf_of_no_row hrow hrole hmode)

end Judgement

end Sys2Proof.Proofs

/-!
PROOFS. A charge that is given up (O32): the slabs of its row become DOUBTFUL and single, and its furnace is in doubt.
-/

namespace Sys2Proof.Proofs

open Sys2Proof Sys2Proof.Machine

/-! ### Records after slabs have become single (R5, R92, R93) -/

section Singled

variable {s t : State} {moved : SlabId → Option Place}

/-- A record that stood alone has become single wherever it goes. -/
theorem becomesSingle_of_alone {r r' : SlabRecord} (halone : r.partner = none) (h : r' = { r with place := r'.place }) :
    r.becomesSingle r' := by
  refine ⟨?_, fun x => ?_⟩
  · rw [h]; simp [halone]
  · rw [h]; simp [halone]

/-- The record of a slab that moves, or whose partner does, becomes single. -/
theorem Singled.becomesSingle (h : Singled moved s t) {x : SlabId} {r : SlabRecord} (hr : s.slab? x = some r)
    (hm : (moved x).isSome = true ∨ ∃ q, r.partner = some q ∧ (moved q.id).isSome = true) :
    ∃ r', t.slab? x = some r' ∧ r.becomesSingle r' := by
  obtain ⟨r', hr', hsingle, hsame⟩ := h.slab x r hr
  refine ⟨r', hr', ?_⟩
  by_cases htouched : SlabRecord.pairTouched moved r
  · exact hsingle htouched
  · refine becomesSingle_of_alone ?_ (hsame htouched)
    cases hq : r.partner with
    | none => rfl
    | some q =>
      refine absurd ⟨q, hq, ?_⟩ htouched
      obtain hx | ⟨q', hq', hm'⟩ := hm
      · exact .inl (State.slab?_id hr ▸ hx)
      · rw [hq] at hq'
        cases hq'
        exact .inr hm'

/-- The record of a slab that stays, as does its partner, is kept. -/
theorem Singled.same (h : Singled moved s t) {x : SlabId} {r : SlabRecord} (hr : s.slab? x = some r) (hx : moved x = none)
    (hq : ∀ q, r.partner = some q → moved q.id = none) : t.slab? x = some r := by
  obtain ⟨r', hr', -, hsame⟩ := h.slab x r hr
  have hplace : r'.place = r.place := by
    have := h.place x
    rw [place?_of_slab? hr', place?_of_slab? hr, hx] at this
    simpa using this
  have hkept := hsame fun ⟨q, hq', hm⟩ => by rw [State.slab?_id hr, hx, hq q hq'] at hm; simp at hm
  rw [hplace] at hkept
  rw [hr', hkept]

end Singled

/-! ### The slabs of a row become DOUBTFUL (R137) -/

section GivenUp

variable (s : State) (f : Furnace) (a : SlabId) (b : Option SlabId)

/-- R6: where the slabs of a row at an entry go. -/
def entryLost (f : Furnace) (a : SlabId) (b : Option SlabId) (x : SlabId) : Option Place :=
  ((slabsWithSides a b).find? fun y => y.1 == x).map fun y => .doubtful (.atEntry f y.2)

theorem entryLost_eq_none_iff (x : SlabId) : entryLost f a b x = none ↔ x ∉ a :: b.toList := by
  rw [entryLost, Option.map_eq_none_iff, List.find?_eq_none, ← ids_of_row, List.mem_map]
  exact ⟨fun h ⟨y, hy, hx⟩ => h y hy (beq_iff_eq.mpr hx), fun h y hy hx => h ⟨y, hy, beq_iff_eq.mp hx⟩⟩

theorem entryLost_of_mem (hb : b ≠ some a) {x : SlabId × Side} (hx : x ∈ slabsWithSides a b) :
    entryLost f a b x.1 = some (.doubtful (.atEntry f x.2)) := by
  cases b with
  | none =>
    obtain rfl : x = (a, .single) := by simpa [slabsWithSides] using hx
    simp [entryLost, slabsWithSides]
  | some c =>
    have hac : a ≠ c := fun h => hb (h ▸ rfl)
    obtain rfl | rfl : x = (a, .left) ∨ x = (c, .right) := by simpa [slabsWithSides] using hx
    · simp [entryLost, slabsWithSides]
    · simp [entryLost, slabsWithSides, hac]

theorem nodup_row (hb : b ≠ some a) : (a :: b.toList).Nodup := by
  cases b with
  | none => simp
  | some c => simpa using fun h : a = c => hb (h ▸ rfl)

theorem giveUpCharge_register (timedOut : Bool) (code : FaultCode) (port : Option Port) :
    (s.giveUpCharge f a b timedOut code port).register =
      ((slabsWithSides a b).foldl (fun t x => t.makeDoubtful x.1 (.atEntry f x.2)) s).register := by
  rw [State.giveUpCharge, State.doubtFurnace_register, State.endOperation, State.updateFurnace_register]

theorem singled_giveUpCharge (hb : b ≠ some a) (timedOut : Bool) (code : FaultCode) (port : Option Port) :
    Singled (entryLost f a b) s (s.giveUpCharge f a b timedOut code port) := by
  refine singled_of_register (singled_congr (singled_foldl (key := Prod.fst) (m := fun y _ => some (.doubtful (.atEntry f y.2)))
    (fun u y => singled_makeDoubtful u y.1 (.atEntry f y.2)) (slabsWithSides a b) ?_ s) fun x => ?_)
    (giveUpCharge_register s f a b timedOut code port)
  · rw [ids_of_row]; exact nodup_row a b hb
  · rw [entryLost, Option.map_eq_bind]; rfl

/-- R108: what the doubt of a furnace leaves of the ports. -/
theorem doubtFurnace_port_p0 (u : State) (code : FaultCode) (slab : Option SlabId) (port : Option Port) :
    (u.doubtFurnace f code slab port).port .p0 =
      { u.port .p0 with notices := ((u.logFurnace f code slab port).port .p0).notices ||| 0x08 } := by
  have hport := logFault_port (u.updateFurnace f fun m => { m with doubt := true }) (furnaceBank f) code slab port .p0
  have hnotices := logFurnace_notices_congr f (u := u) (v := u.updateFurnace f fun m => { m with doubt := true }) (q := .p0) (y := 0)
    rfl (or_no_bit _).symm code slab port
  rw [or_no_bit] at hnotices
  rw [State.doubtFurnace, State.raiseSupv, State.raiseWhen_port, if_pos ⟨rfl, rfl, rfl⟩, ← hnotices]
  rw [State.logFurnace, hport]
  rfl

theorem doubtFurnace_port_other (u : State) (code : FaultCode) (slab : Option SlabId) (port : Option Port) {q : Port} (h : q ≠ .p0) :
    (u.doubtFurnace f code slab port).port q = u.port q := by
  rw [State.doubtFurnace, State.raiseSupv, State.raiseWhen_port, if_neg fun hq => h hq.2.2, logFurnace_port_other f _ _ _ _ h]
  rfl

theorem doubtFurnace_banks (u : State) (code : FaultCode) (slab : Option SlabId) (port : Option Port) :
    (u.doubtFurnace f code slab port).banks = (u.logFurnace f code slab port).banks := by
  rw [State.doubtFurnace, State.raiseSupv_banks]
  exact logFurnace_banks_congr f rfl rfl _ _ _

/-- R137: the state in which the slabs have left the entry, and the record is IDLE. -/
theorem giveUpCharge_books (timedOut : Bool) (code : FaultCode) (port : Option Port) : ∃ register,
    s.giveUpCharge f a b timedOut code port = State.doubtFurnace { s with
      register := register, doubtList := s.doubtList ++ a :: b.toList
      furnaces := s.furnaces.set f { s.furnace f with op := .idle timedOut, chargeTimer := none } } f code (some a) port := by
  obtain ⟨register, hfold⟩ := makeDoubtfuls_eq (fun x => .atEntry f x.2) (slabsWithSides a b) s
  rw [ids_of_row] at hfold
  exact ⟨register, by rw [State.giveUpCharge, hfold]; rfl⟩

/-- R137, R138: the books after the charge has been given up. -/
theorem giveUpCharge_eq (timedOut : Bool) (code : FaultCode) (port : Option Port) :
    let u := s.giveUpCharge f a b timedOut code port
    u = { s with
      register := u.register, doubtList := s.doubtList ++ a :: b.toList, furnaces := u.furnaces
      banks := (s.logFurnace f code (some a) port).banks, ports := u.ports } ∧
    (u.furnace f = { s.furnace f with op := .idle timedOut, chargeTimer := none, doubt := true }) ∧
    (∀ g, g ≠ f → u.furnace g = s.furnace g) ∧
    u.port .p0 = { s.port .p0 with notices := ((s.logFurnace f code (some a) port).port .p0).notices ||| 0x08 } ∧
    ∀ p, p ≠ .p0 → u.port p = s.port p := by
  obtain ⟨register, hbooks⟩ := giveUpCharge_books s f a b timedOut code port
  intro u
  rw [show u = _ from hbooks]
  generalize hv : ({ s with
      register := register, doubtList := s.doubtList ++ a :: b.toList
      furnaces := s.furnaces.set f { s.furnace f with op := .idle timedOut, chargeTimer := none } } : State) = v
  have hbanks : (v.logFurnace f code (some a) port).banks = (s.logFurnace f code (some a) port).banks :=
    logFurnace_banks_congr f (by rw [← hv]) (by rw [← hv]) _ _ _
  have hports (p : Port) : v.port p = s.port p := by rw [← hv]; rfl
  have hfurnace (g : Furnace) : v.furnace g =
      if g = f then { s.furnace f with op := .idle timedOut, chargeTimer := none } else s.furnace g := by
    rw [← hv]; exact ByFurnace.get_set ..
  have hnotices : ((v.logFurnace f code (some a) port).port .p0).notices = ((s.logFurnace f code (some a) port).port .p0).notices := by
    have h := logFurnace_notices_congr f (u := s) (v := v) (q := .p0) (y := 0) (by rw [← hv])
      ((congrArg PortState.notices (hports .p0)).trans (or_no_bit _).symm) code (some a) port
    rwa [or_no_bit] at h
  refine ⟨?_, ?_, fun g hg => ?_, ?_, fun p hp => ?_⟩
  · rw [← hbanks, ← doubtFurnace_banks, ← hv]
    exact State.doubtFurnace_eq _ _ _ _ _
  · rw [doubtFurnace_furnace, if_pos rfl, hfurnace, if_pos rfl]
  · rw [doubtFurnace_furnace, if_neg hg, hfurnace, if_neg hg]
  · rw [doubtFurnace_port_p0, hports, hnotices]
  · rw [doubtFurnace_port_other f v _ _ _ hp, hports]

/-- Settles O32: the slabs of the row become single as they go, and the rest is the furnace's record, its bank and DOUBT. -/
theorem chargeIsGivenUp : Obligations.ChargeIsGivenUp := by
  unfold Obligations.ChargeIsGivenUp
  intro s f a b w soak hop hb ha hc gone
  have hlive : ∀ x ∈ a :: b.toList, s.live x = true := by
    intro x hx
    obtain rfl | hx := List.mem_cons.mp hx
    · exact ha
    · exact hc x (by simpa using hx)
  have hgone (timedOut : Bool) (code : FaultCode) (port : Option Port) :
      gone (s.giveUpCharge f a b timedOut code port) timedOut code port := by
    have hsingled := singled_giveUpCharge s f a b hb timedOut code port
    obtain ⟨hbooks, hfurnace, hothers, hport, hports⟩ := giveUpCharge_eq s f a b timedOut code port
    have hnone (x : SlabId) := entryLost_eq_none_iff f a b x
    have hsome (x : SlabId) (hx : x ∈ a :: b.toList) : (entryLost f a b x).isSome = true :=
      Option.isSome_iff_ne_none.mpr fun h => (hnone x).mp h hx
    refine ⟨hbooks, fun x hx => ?_, fun x hx => ?_, hsingled.ids, fun x r hr => ⟨fun hm => ?_, fun hx hq => ?_⟩, hfurnace, hothers, hport, hports⟩
    · have hmem : x.1 ∈ a :: b.toList := ids_of_row a b ▸ List.mem_map_of_mem hx
      obtain ⟨r, hr⟩ := Option.isSome_iff_exists.mp (hlive x.1 hmem)
      obtain ⟨r', hr', hsingle⟩ := hsingled.becomesSingle hr (.inl (hsome x.1 hmem))
      refine ⟨?_, ?_⟩
      · rw [hsingled.place, place?_of_slab? hr, entryLost_of_mem f a b hb hx]; rfl
      · rw [State.partner?, hr', Option.bind_some, becomesSingle_partner hsingle]
    · rw [hsingled.place, (hnone x).mpr hx]
      cases s.place? x <;> rfl
    · exact hsingled.becomesSingle hr (hm.imp (hsome x) fun ⟨q, hq, hm⟩ => ⟨q, hq, hsome q.id hm⟩)
    · exact hsingled.same hr ((hnone x).mpr hx) fun q hq' => (hnone q.id).mpr (hq q hq')
  refine ⟨fun hw ⟨n, htimer⟩ => ⟨_, ?_, hgone true .chargeTimeout none⟩, fun hs => ⟨_, ?_, hgone false .chargeStuck (some (furnacePort f))⟩⟩
  · refine (event_of_powered (fun t => t.chargeExpiry f) hw).trans ?_
    rw [State.chargeExpiry, htimer, hop]
  · have hrule : ruleChargeAbort [0x01] f s =
        taken s (s.giveUpCharge f a b false .chargeStuck (some (furnacePort f))) fun _ => u8 1 ++ rowIds a b := by
      have hstuck : ruleChargeAbort [0x01] f s = abortStuck f s := rfl
      rw [hstuck, abortStuck, hop]
    exact request_taken (rule := forFurnace (furnacePort f) (ruleChargeAbort [0x01])) hs (by simp [Kind.allowedTo])
      ((forFurnace_furnacePort f _ s).trans hrule) rfl

end GivenUp

end Sys2Proof.Proofs

/-!
PROOFS. The readings of the SUPV port and of a furnace port (O41, O42): each answers the bytes of its rule from the state as it
stands.
-/

namespace Sys2Proof.Proofs

open Sys2Proof Sys2Proof.Machine

section Readings

variable {s : State}

/-! ### Bytes of the readings -/

theorem u8_toNat (x : Byte) : u8 x.toNat = [x] := by simp [u8]

theorem field_of_byte (x : Byte) (rest : List Byte) : field (x :: rest) 0 1 = x.toNat := by simp [field, beNat]

theorem field_of_second_byte (x y : Byte) (rest : List Byte) : field (x :: y :: rest) 1 1 = y.toNat := by simp [field, beNat]

theorem field_of_furnace (f : Furnace) (rest : List Byte) : field (BitVec.ofNat 8 (furnaceNumber f) :: rest) 0 1 = furnaceNumber f := by
  rw [field_of_byte]
  cases f <;> rfl

theorem furnaceOfNumber_furnaceNumber (f : Furnace) : furnaceOfNumber (furnaceNumber f) = some f := by cases f <;> rfl

theorem furnaceNumber_injective : Function.Injective furnaceNumber := fun f g h =>
  Option.some.inj (by rw [← furnaceOfNumber_furnaceNumber f, h, furnaceOfNumber_furnaceNumber g])

/-- R125: the bytes of a row, by the number of its slabs. -/
theorem row_bytes (x : Row) : (match x.slabB with
    | none => [0x01] ++ u32 x.slabA ++ [0x00]
    | some b => [0x02] ++ u32 x.slabA ++ [0x01] ++ u32 b ++ [0x02]) ++
      u16 x.rear ++ u16 x.width ++ u16 x.residence ++ u16 x.soakTarget ++ yesNo x.soakNotified = x.bytes := by
  rw [Row.bytes]
  cases x.slabB <;> rfl

/-- R159: the bytes of a fault record, by whether it is valid. -/
theorem fault_bytes (x : Bank) : (match x.record with
    | none => [0x00, 0x00] ++ u32 0 ++ [0xFF] ++ u32 0
    | some r => u8 r.severity.byte ++ u8 r.code.number ++ u32 (r.slab.getD 0) ++
        u8 ((r.port.map portNumber).getD 255) ++ u32 r.stamp.toNat) = faultFields x.record := by
  cases x.record <;> rfl

/-- R19: the one row of a map that holds a slab. -/
theorem rowOf_eq {f : Furnace} {id : SlabId} {i : Nat} {x : Row} (hx : (s.furnace f).rows[i]? = some x) (hholds : x.holds id = true)
    (honly : ∀ j y, (s.furnace f).rows[j]? = some y → y.holds id = true → j = i) :
    s.rowOf f id = some (x, (s.furnace f).rows.length - 1 - i) := by
  obtain ⟨hi, hget⟩ := List.getElem?_eq_some_iff.mp hx
  have hindex : ((s.furnace f).rows.findIdx fun y => y.holds id) = i := by
    refine (List.findIdx_eq hi).mpr ⟨by rw [hget]; exact hholds, fun j hj => Bool.eq_false_iff.mpr fun hj' => ?_⟩
    exact absurd (honly j _ (List.getElem?_eq_getElem _) hj') (by omega)
  simp only [State.rowOf, List.find?_eq_getElem?_findIdx, hindex, hx, Option.map_some]

/-- R19: the body of SLAB_READ, put together from its fields. -/
theorem slabReadBody_of_fields {r : SlabRecord} {standing sequence lane furnace partner row last : List Byte}
    (hstanding : standing = u8 r.place.code ++ r.place.craneFields) (hsequence : sequence = s.sequenceFields r.id)
    (hlane : lane = s.laneField r.id) (hfurnace : furnace = r.place.furnaceFields) (hpartner : partner = partnerFields r.partner)
    (hrow : row = rowFields (s.rowOfPlace r.id r.place)) (hlast : last = r.place.lastKnownFields) :
    s.slabReadBody r = r.description ++ standing ++ sequence ++ lane ++ furnace ++ partner ++ row ++ last ++ yesNo r.edited := by
  subst hstanding hsequence hlane hfurnace hpartner hrow hlast
  rw [State.slabReadBody, List.append_assoc r.description]

/-! ### The rules -/

theorem ruleSlabRead_done {body : List Byte} {r : SlabRecord} (hlen : body.length = 4) (hvalid : validSlabId (field body 0 4) = true)
    (hr : s.slab? (field body 0 4) = some r) : ruleSlabRead body s = (s, .done (s.slabReadBody r)) := by
  rw [ruleSlabRead, if_neg (by simp [hlen, hvalid]), hr]

theorem ruleSeqRead_done {start : Byte} (h : start.toNat ≤ 63) : ruleSeqRead [start] s =
    (s, .done (u8 s.sequence.length ++ u8 s.listedCount ++ u8 s.fixedSpan ++ [start] ++ idList ((s.sequence.drop start.toNat).take 12))) := by
  have hfield : field [start] 0 1 = start.toNat := field_of_byte ..
  simp only [ruleSeqRead, hfield, u8_toNat, pageOf]
  exact if_neg (by simpa using h)

theorem ruleMapRead_done {p : Port} {body : List Byte} {f : Furnace} (hmay : mayReadMap p body = true) (hlen : body.length = 2)
    (hf : s.configuredFurnace (field body 0 1) = some f) (hstart : field body 1 1 ≤ 47) :
    ruleMapRead p body s = (s, .done (s.mapReadBody f (field body 1 1))) := by
  rw [ruleMapRead, hmay, if_neg (by decide), if_neg (by simp [hlen]), hf]
  exact if_neg (by omega)

theorem ruleDoubtList_done {body : List Byte} (hlen : body.length = 2) (hstart : field body 0 2 ≤ 383) :
    ruleDoubtList body s = (s, .done (u16 s.doubtList.length ++ u16 (field body 0 2) ++
      idList ((s.doubtList.drop (field body 0 2)).take 12))) := if_neg (by simpa [hlen] using hstart)

theorem ruleFaultRead_done {body : List Byte} {b : BankId} (hlen : body.length = 1) (hb : bankOfNumber (field body 0 1) = some b) :
    ruleFaultRead body s = (s, .done ((s.banks.get b).bytes b.number)) := by
  rw [ruleFaultRead, namedBank, if_pos hlen, hb]

theorem ruleParamRead_done {body : List Byte} {q : ParamId} (hlen : body.length = 2) (hq : paramOfNumber (field body 0 2) = some q) :
    ruleParamRead body s =
      (s, .done (u16 (field body 0 2) ++ u32 (s.params.value q) ++ u32 q.limits.1 ++ u32 q.limits.2)) := by
  rw [ruleParamRead, if_neg (by simp [hlen]), hq]

/-- Settles O41: each reading from the bytes of its rule. -/
theorem supvReadingsChangeNothing : Obligations.SupvReadingsChangeNothing := by
  unfold Obligations.SupvReadingsChangeNothing
  intro s body hs entry fault
  have hentry : entry = Row.bytes := funext row_bytes
  refine ⟨fun r hlen hvalid hr => ?_, fun start hstart => ?_, ?_, fun f start hf hlen hstart hle => ?_, fun hlen hstart => ?_,
    fun b hlen hb => ?_, fun q hlen hq => ?_⟩
  · intro read
    have hread (row : List Byte) (hrow : row = rowFields (s.rowOfPlace r.id r.place)) : read row := by
      refine (request_done (rule := ruleSlabRead body) hs rfl (ruleSlabRead_done hlen hvalid hr)).trans
        (congrArg (fun b => Host.Outcome.next (s.done .p0 b)) (slabReadBody_of_fields ?_ rfl rfl ?_ ?_ hrow ?_))
      · cases r.place <;> rfl
      · cases r.place <;> rfl
      · obtain _ | ⟨id, role⟩ := r.partner
        · rfl
        · cases role <;> rfl
      · obtain _ | _ | _ | _ | _ | _ | _ | _ | _ := r.place <;> rfl
    refine ⟨fun hout => hread _ ?_, fun f side i x hplace hx hholds honly => hread _ ?_⟩
    · cases hplace : r.place with
      | inFurnace f side => exact absurd hplace (hout f side)
      | _ => rfl
    · rw [hplace, State.rowOfPlace, rowOf_eq hx hholds honly]
      rfl
  · exact request_done (rule := ruleSeqRead [start]) hs rfl (ruleSeqRead_done hstart)
  · exact request_done (rule := ruleLaneRead []) hs rfl rfl
  · subst hstart
    rw [hentry]
    exact request_done (rule := ruleMapRead .p0 body) hs rfl (ruleMapRead_done rfl hlen hf hle)
  · exact request_done (rule := ruleDoubtList body) hs rfl (ruleDoubtList_done hlen hstart)
  · intro x
    have hfault : fault x = faultFields x.record := fault_bytes x
    rw [hfault]
    exact request_done (rule := ruleFaultRead body) hs rfl (ruleFaultRead_done hlen hb)
  · exact request_done (rule := ruleParamRead body) hs rfl (ruleParamRead_done hlen hq)

/-! ### A furnace port (R118, R125) -/

/-- R118: the answer of DISCHARGE_ASK. -/
theorem dischargeAsk_exec {f : Furnace} (hs : s.serves (furnacePort f)) : exec (.dischargeAsk (furnacePort f) []) s =
    .next (s.done (furnacePort f) (s.dischargeAskBody f)) :=
  request_done (rule := forFurnace (furnacePort f) (ruleDischargeAsk [])) hs (by simp [Kind.allowedTo])
    ((forFurnace_furnacePort f _ s).trans rfl)

/-- R118: the bytes of the front row. -/
theorem dischargeAskBody_front {f : Furnace} {r : Row} (hr : (s.furnace f).rows.getLast? = some r) : s.dischargeAskBody f =
    u8 1 ++ u32 r.slabA ++ u8 (if r.slabB = none then 0 else 1) ++ u32 (r.slabB.getD 0) ++ u16 r.residence ++ u16 r.soakTarget ++
      u8 (if r.soakTarget ≤ r.residence then 0 else 1) ++ u16 (r.soakTarget - r.residence) ++
      yesNo (decide ((s.furnaceParams f).effectiveLength < r.rear + r.width + (s.furnaceParams f).stroke)) ++
      u8 (s.furnace f).rows.length ++ u8 ((s.furnaceParams f).walksAvailable (s.furnace f).rows) ++ u8 (s.furnace f).status.code := by
  simp only [State.dischargeAskBody, hr, FurnaceParams.atStop, Row.far, slabField, List.append_assoc]
  cases r.slabB <;> rfl

/-- Settles O42: the front row, and the two cases of the test of the port. -/
theorem furnaceReadings : Obligations.FurnaceReadings := by
  unfold Obligations.FurnaceReadings
  intro s f hs hf entry
  have hentry : entry = Row.bytes := funext row_bytes
  refine ⟨fun hempty => ?_, fun r hr => ?_, fun start hstart => ?_, fun g start hg => ?_⟩
  · rw [dischargeAsk_exec hs]
    simp only [State.dischargeAskBody, hempty]
    rfl
  · rw [dischargeAsk_exec hs, dischargeAskBody_front hr]
  · have hfurnace := field_of_furnace f [start]
    have hfield := field_of_second_byte (BitVec.ofNat 8 (furnaceNumber f)) start []
    have hmay : mayReadMap (furnacePort f) [BitVec.ofNat 8 (furnaceNumber f), start] = true := by
      rw [mayReadMap, portFurnace_furnacePort, hfurnace]
      simp
    have hrule := ruleMapRead_done hmay rfl (by rw [hfurnace]; exact configuredFurnace_number hf) (hfield.trans_le hstart)
    rw [hfield, State.mapReadBody, u8_toNat] at hrule
    rw [hentry]
    exact request_done (rule := ruleMapRead (furnacePort f) _) hs (by simp [Kind.allowedTo]) hrule
  · have hmay : mayReadMap (furnacePort f) [BitVec.ofNat 8 (furnaceNumber g), start] = false := by
      rw [mayReadMap, portFurnace_furnacePort, field_of_furnace]
      simpa using fun h => hg (furnaceNumber_injective h).symm
    exact request_refused (rule := ruleMapRead (furnacePort f) _) hs (by simp [Kind.allowedTo]) (by rw [ruleMapRead, hmay]; rfl)

end Readings

end Sys2Proof.Proofs

/-!
PROOFS. The register and the sequence: announcements, moves and withdrawals (O43 to O46).
-/

namespace Sys2Proof.Proofs

open Sys2Proof Sys2Proof.Machine

variable {s : State} {body : List Byte}

/-- R177: the configured furnace that a number names. -/
theorem configuredFurnace_iff (n : Nat) (d : Furnace) :
    s.configuredFurnace n = some d ↔ n = furnaceNumber d ∧ n ≤ s.params.furnaceCount := by
  rw [State.configuredFurnace]
  constructor
  · split
    · next hle =>
      refine fun h => ⟨?_, hle⟩
      unfold furnaceOfNumber at h
      split at h <;> cases h <;> rfl
    · exact nofun
  · rintro ⟨rfl, hle⟩
    rw [if_pos hle]
    cases d <;> rfl

/-! ### The checks of an announcement (R10 to R13) -/

section Announcements

variable {a : Announcement}

/-- R11: the fields of an announcement to furnace `d` are within their ranges. -/
def inAnnouncedRange (s : State) (a : Announcement) (d : Furnace) : Prop :=
  (1 ≤ a.id ∧ a.id ≤ 4294967294) ∧ (1500 ≤ a.length ∧ a.length ≤ 5200) ∧
    (900 ≤ a.width ∧ a.width ≤ 2500) ∧ (120 ≤ a.thickness ∧ a.thickness ≤ 450) ∧ a.tempClass ≤ 2 ∧
    (a.destination = furnaceNumber d ∧ a.destination ≤ s.params.furnaceCount) ∧ a.pairable ≤ 1 ∧ a.position ≤ 4294967294

/-- R14: the record of an announcement, LISTED and fresh. -/
def announcedAs (a : Announcement) (t : TempClass) (d : Furnace) : SlabRecord where
  id := a.id
  length := a.length
  width := a.width
  thickness := a.thickness
  heatingClass := a.heatingClass
  tempClass := t
  destination := d
  pairable := a.pairable == 1
  place := .listed
  partner := none
  edited := false
  pairingTested := false
  pairDissolved := false
  requeuedTested := false
  parted := []

theorem tempClassOf_isSome_iff (n : Nat) : (∃ t, tempClassOf n = some t) ↔ n ≤ 2 := by
  match n with
  | 0 | 1 | 2 => simp [tempClassOf]
  | n + 3 => simp [tempClassOf]

theorem validSlabId_iff (id : Nat) : validSlabId id = true ↔ 1 ≤ id ∧ id ≤ 4294967294 := by
  rw [validSlabId, Bool.and_eq_true, decide_eq_true_iff, decide_eq_true_iff]
  exact ⟨fun ⟨h0, h⟩ => ⟨Nat.pos_of_ne_zero h0, Nat.le_of_lt_succ h⟩, fun ⟨h0, h⟩ => ⟨Nat.pos_iff_ne_zero.mp h0, Nat.lt_succ_of_le h⟩⟩

theorem announcedRecord_inRange {d : Furnace} {t : TempClass} (h : inAnnouncedRange s a d) (ht : tempClassOf a.tempClass = some t) :
    s.announcedRecord a = some (announcedAs a t d) := by
  obtain ⟨hid, hlength, hwidth, hthickness, -, hdestination, hpairable, hposition⟩ := h
  have hvalid := (validSlabId_iff a.id).mpr hid
  have hlt : a.position < Config.allOnes := Nat.lt_succ_of_le hposition
  rw [State.announcedRecord, if_pos (by simp [hvalid, hlength, hwidth, hthickness, hpairable, hlt]), ht,
    (configuredFurnace_iff a.destination d).mpr hdestination]
  rfl

theorem announcedRecord_outOfRange (h : ¬∃ d, inAnnouncedRange s a d) : s.announcedRecord a = none := by
  unfold State.announcedRecord
  split
  · next hfields =>
    simp only [Bool.and_eq_true, decide_eq_true_iff, validSlabId_iff] at hfields
    obtain ⟨⟨⟨⟨⟨hid, hlength⟩, hwidth⟩, hthickness⟩, hpairable⟩, hposition⟩ := hfields
    split
    · next t d ht hd =>
      exact absurd ⟨d, hid, hlength, hwidth, hthickness, (tempClassOf_isSome_iff _).mp ⟨t, ht⟩, (configuredFurnace_iff _ d).mp hd,
        hpairable, Nat.le_of_lt_succ hposition⟩ h
    · rfl
  · rfl

theorem sizeFits_iff (fp : FurnaceParams) (length : Nat) :
    fp.sizeFits length = true ↔ length + 2 * fp.sideClearance ≤ fp.hearthWidth := by
  rw [FurnaceParams.sizeFits, decide_eq_true_iff]

/-- R10: the first five checks pass, and the last two are made on the position. -/
theorem announceChecks_index {r : SlabRecord} (hroom : s.register.length < 384) (hlive : s.live a.id = false)
    (hr : s.announcedRecord a = some r) (hsize : (s.furnaceParams r.destination).sizeFits r.length = true)
    (hadmits : (s.furnaceParams r.destination).admits r.heatingClass = true) :
    s.announceChecks a = (s.announceIndex a.position).map fun i => (r, i) := by
  have hfull : ¬Config.maxSlabs ≤ s.liveCount := Nat.not_le_of_lt hroom
  rw [State.announceChecks, if_neg hfull, hlive, if_neg (by decide), hr]
  simp only [hsize, hadmits, Bool.not_true, Bool.false_eq_true, if_false]
  cases s.announceIndex a.position <;> rfl

theorem not_sequence_full (hroom : s.sequence.length < 64) : ¬Config.maxSequence ≤ s.sequence.length := Nat.not_le_of_lt hroom

theorem announceIndex_tail (hroom : s.sequence.length < 64) : s.announceIndex 0 = .ok s.sequence.length := by
  rw [State.announceIndex, if_neg (not_sequence_full hroom), if_pos rfl]

theorem announceIndex_before {position : Nat} (hroom : s.sequence.length < 64) (hpos : position ≠ 0) (hmem : position ∈ s.sequence)
    (hfixed : s.isFixed position = false) : s.announceIndex position = .ok (s.sequence.idxOf position) := by
  rw [State.announceIndex, if_neg (not_sequence_full hroom), if_neg hpos, if_neg (not_not.mpr hmem), hfixed]
  rfl

/-- A SLAB_ANNOUNCE that a check refuses. -/
theorem slabAnnounce_refused {e : RefuseReason} (hs : s.serves .p0) (hmode : s.mode = .run) (hlen : body.length = 18)
    (h : s.announceChecks (announcementOf body) = .error e) :
    exec (.slabAnnounce .p0 body) s = .next (s.respond .p0 (.refuse e [])) :=
  request_refused (rule := ruleSlabAnnounce body) hs rfl
    (by rw [ruleSlabAnnounce, if_neg (by rw [hmode]; decide), if_neg (by simp [hlen]), h])

/-- Settles O44: the checks in their order, each with the checks before it passed. -/
theorem announcementChecksInOrder : Obligations.AnnouncementChecksInOrder := by
  unfold Obligations.AnnouncementChecksInOrder
  intro s body hs a answer inRange
  refine ⟨fun hmode => ?_, fun hmode hlen => ?_, fun hmode hlen => ?_⟩
  · exact request_refused (rule := ruleSlabAnnounce body) hs rfl (if_pos hmode)
  · exact request_refused (rule := ruleSlabAnnounce body) hs rfl (by rw [ruleSlabAnnounce, if_neg (by rw [hmode]; decide), if_pos hlen])
  have hanswer (e : RefuseReason) (h : s.announceChecks a = .error e) : answer e := slabAnnounce_refused hs hmode hlen h
  refine ⟨fun hfull => hanswer _ (if_pos hfull), fun hroom => ?_⟩
  have hnotFull : ¬Config.maxSlabs ≤ s.liveCount := Nat.not_le_of_lt hroom
  refine ⟨fun hlive => hanswer _ ?_, fun hlive hout => hanswer _ ?_, fun d hlive hin => ?_⟩
  · rw [State.announceChecks, if_neg hnotFull, if_pos hlive]
  · rw [State.announceChecks, if_neg hnotFull, hlive, if_neg (by decide), announcedRecord_outOfRange hout]
  obtain ⟨t, ht⟩ := (tempClassOf_isSome_iff a.tempClass).mpr hin.2.2.2.2.1
  have hr : s.announcedRecord a = some (announcedAs a t d) := announcedRecord_inRange hin ht
  refine ⟨fun hlong => hanswer _ ?_, fun hfits => ?_⟩
  · have hsize : (s.furnaceParams d).sizeFits a.length = false :=
      Bool.eq_false_iff.mpr fun h => absurd ((sizeFits_iff _ _).mp h) (Nat.not_le_of_lt hlong)
    rw [State.announceChecks, if_neg hnotFull, hlive, if_neg (by decide), hr]
    exact if_pos (congrArg (!·) hsize)
  have hsize : (s.furnaceParams d).sizeFits a.length = true := (sizeFits_iff _ _).mpr hfits
  refine ⟨fun hadmits => hanswer _ ?_, fun hadmits => ?_⟩
  · rw [State.announceChecks, if_neg hnotFull, hlive, if_neg (by decide), hr]
    exact (if_neg (by simp [announcedAs, hsize])).trans (if_pos (congrArg (!·) hadmits))
  have hchecks := announceChecks_index hroom hlive hr hsize hadmits
  refine ⟨fun hfull => hanswer _ ?_, fun hspace hpos hmem => hanswer _ ?_, fun hspace hpos hmem hfixed => hanswer _ ?_⟩
  · rw [hchecks, State.announceIndex]
    exact congrArg (Except.map _) (if_pos hfull)
  · rw [hchecks, State.announceIndex, if_neg (not_sequence_full hspace), if_neg hpos, if_pos hmem, Except.map]
  · rw [hchecks, State.announceIndex, if_neg (not_sequence_full hspace), if_neg hpos, if_neg (not_not.mpr hmem), if_pos hfixed, Except.map]

/-! ### The record that an announcement creates (R14) -/

/-- R176: the announcement that the description of a record and a position carry. -/
theorem announcementOf_description (r : SlabRecord) (position : Nat) (hid : r.id ≤ 4294967294) (hlength : r.length ≤ 5200)
    (hwidth : r.width ≤ 2500) (hthickness : r.thickness ≤ 450) (hposition : position ≤ 4294967294) :
    announcementOf (r.description ++ u32 position) = ⟨r.id, r.length, r.width, r.thickness, r.heatingClass, r.tempClass.code,
      furnaceNumber r.destination, r.pairable.toNat, position⟩ := by
  have hclass : beNat (u8 r.tempClass.code) = r.tempClass.code := by cases r.tempClass <;> rfl
  have hfurnace : beNat (u8 (furnaceNumber r.destination)) = furnaceNumber r.destination := by cases r.destination <;> rfl
  have hpairable : beNat (yesNo r.pairable) = r.pairable.toNat := by cases r.pairable <;> rfl
  calc announcementOf (r.description ++ u32 position)
      = ⟨beNat (u32 r.id), beNat (u16 r.length), beNat (u16 r.width), beNat (u16 r.thickness), r.heatingClass,
          beNat (u8 r.tempClass.code), beNat (u8 (furnaceNumber r.destination)), beNat (yesNo r.pairable), beNat (u32 position)⟩ := rfl
    _ = _ := by
      rw [beNat_u32 (Nat.lt_of_le_of_lt hid (by decide)), beNat_u16 (by omega), beNat_u16 (by omega), beNat_u16 (by omega), hclass, hfurnace, hpairable,
        beNat_u32 (by omega)]

/-- Settles O43: the announcement read back from its bytes, its checks passed, and the counts of its answer. -/
theorem announcementCreatesTheRecord : Obligations.AnnouncementCreatesTheRecord := by
  unfold Obligations.AnnouncementCreatesTheRecord
  intro s r position i hs hmode hplace hpartner hedited htested hdissolved hrequeued hparted hid hid' hlength hlength' hwidth hwidth'
    hthickness hthickness' hdestination hroom hlive hspace hsize hadmits hposition
  have hpos : position ≤ 4294967294 := by
    obtain ⟨h, -⟩ | ⟨-, h, -⟩ := hposition <;> omega
  have ha := announcementOf_description r position hid' hlength' hwidth' hthickness' hpos
  generalize hbody : announcementOf (r.description ++ u32 position) = a at ha
  have hindex : s.announceIndex position = .ok i := by
    obtain ⟨rfl, rfl⟩ | ⟨hpos, -, hmem, hfixed, rfl⟩ := hposition
    · exact announceIndex_tail hspace
    · exact announceIndex_before hspace (by omega) hmem hfixed
  have hi : i ≤ s.sequence.length := by
    obtain ⟨-, rfl⟩ | ⟨-, -, -, -, rfl⟩ := hposition
    · exact le_rfl
    · exact List.idxOf_le_length
  have hclass : tempClassOf r.tempClass.code = some r.tempClass := by cases r.tempClass <;> rfl
  have hrange : inAnnouncedRange s a r.destination := by
    subst ha
    exact ⟨⟨hid, hid'⟩, ⟨hlength, hlength'⟩, ⟨hwidth, hwidth'⟩, ⟨hthickness, hthickness'⟩, (tempClassOf_isSome_iff _).mp ⟨_, hclass⟩,
      ⟨rfl, hdestination⟩, Bool.toNat_le _, hpos⟩
  have hrecord : announcedAs a r.tempClass r.destination = r := by
    subst ha
    obtain ⟨id, length, width, thickness, heatingClass, tempClass, destination, pairable, place, partner, edited, pairingTested,
      pairDissolved, requeuedTested, parted⟩ := r
    cases hplace; cases hpartner; cases hedited; cases htested; cases hdissolved; cases hrequeued; cases hparted
    cases pairable <;> rfl
  have hannounced : s.announcedRecord a = some r := hrecord ▸ announcedRecord_inRange hrange (by subst ha; exact hclass)
  have hchecks : s.announceChecks a = .ok (r, i) := by
    rw [announceChecks_index hroom (by subst ha; exact hlive) hannounced ((sizeFits_iff _ _).mpr hsize) hadmits,
      show a.position = position by subst ha; rfl, hindex]
    rfl
  have hcount : (s.createSlab r i).sequence.length = s.sequence.length + 1 := by
    simp only [State.createSlab, State.joinSequence, List.length_append, List.length_take, List.length_cons, List.length_drop]
    omega
  have hrule : ruleSlabAnnounce (r.description ++ u32 position) s =
      taken s (s.createSlab r i) fun t => u32 r.id ++ u8 i ++ u8 t.sequence.length ++ u16 t.liveCount := by
    have hlen : (r.description ++ u32 position).length = 18 := rfl
    rw [ruleSlabAnnounce, if_neg (by rw [hmode]; decide), if_neg (not_not.mpr hlen), hbody, hchecks]
  have hcounts : u32 r.id ++ u8 i ++ u8 (settle s (s.createSlab r i)).sequence.length ++ u16 (settle s (s.createSlab r i)).liveCount =
      u32 r.id ++ u8 i ++ u8 (s.sequence.length + 1) ++ u16 (s.register.length + 1) := by
    rw [State.liveCount, settle_sequence, settle_register, hcount, State.createSlab, insertRecord_length]
  exact request_taken (rule := ruleSlabAnnounce _) hs rfl hrule hcounts

end Announcements

/-! ### SEQ_MOVE (R28 to R30) -/

section Moves

variable {id position : Nat}

/-- R29: the checks 2 to 6 of a move, the first of them passed. -/
theorem moveRefusal_live (h : s.live id = true) : s.moveRefusal id position =
    if id ∉ s.sequence then some .state
    else if s.isFixed id then some .orderFixed
    else if position = 0 then none
    else if position ∉ s.sequence then some .unknownSlab
    else if s.isFixed position then some .orderFixed
    else none := by
  rw [State.moveRefusal, h]
  exact if_neg (by decide)

/-- R29: what the last checks of a move of an unfixed entry say of the position. -/
theorem moveRefusal_unfixed (h : s.live id = true) (hmem : id ∈ s.sequence) (hfixed : s.isFixed id = false) :
    s.moveRefusal id position = if position = 0 then none else if position ∉ s.sequence then some .unknownSlab
      else if s.isFixed position then some .orderFixed else none := by
  rw [moveRefusal_live h, if_neg (not_not.mpr hmem), hfixed]
  exact if_neg (by decide)

/-- An entry that is taken out and put back where it stood. -/
theorem reinserted_self {l : List SlabId} (honce : l.Nodup) (hmem : id ∈ l) :
    (l.filter fun x => x != id).take (l.idxOf id) ++ id :: (l.filter fun x => x != id).drop (l.idxOf id) = l := by
  induction l with
  | nil => cases hmem
  | cons x l ih =>
    rw [List.nodup_cons] at honce
    by_cases hx : x = id
    · subst hx
      have hrest : (l.filter fun y => y != x) = l := List.filter_eq_self.mpr fun y hy => bne_iff_ne.mpr fun h => honce.1 (h ▸ hy)
      rw [List.idxOf_cons_self, List.filter_cons_of_neg (by simp), hrest]
      rfl
    · have hmem' : id ∈ l := (List.mem_cons.mp hmem).resolve_left fun h => hx h.symm
      rw [List.idxOf_cons_ne _ hx, List.filter_cons_of_pos (by simpa using hx), List.take_succ_cons, List.drop_succ_cons,
        List.cons_append, ih honce.2 hmem']

/-- R30: the order after a move that passes its checks, with the index it answers. -/
theorem movedOrder_eq {i : Nat} (honce : s.sequence.Nodup) (hmem : id ∈ s.sequence)
    (htail : position = 0 → i = (s.sequence.filter fun x => x != id).length)
    (hbefore : position ≠ 0 → position ≠ id → i = (s.sequence.filter fun x => x != id).idxOf position)
    (hself : position = id → i = s.sequence.idxOf id) : movedOrder s.sequence id position =
      (s.sequence.filter fun x => x != id).take i ++ id :: (s.sequence.filter fun x => x != id).drop i := by
  rw [movedOrder]
  by_cases hpos : position = id
  · rw [if_pos hpos, hself hpos, reinserted_self honce hmem]
  · rw [if_neg hpos]
    by_cases hzero : position = 0
    · rw [htail hzero]; simp [hzero]
    · rw [hbefore hzero hpos]; simp [hzero]

/-- An entry that joins at an index within a list without it stands at that index. -/
theorem idxOf_inserted {l : List SlabId} {i : Nat} (hnot : id ∉ l) (hi : i ≤ l.length) : (l.take i ++ id :: l.drop i).idxOf id = i := by
  rw [List.idxOf_append_of_notMem fun h => hnot (List.mem_of_mem_take h), List.idxOf_cons_self, List.length_take, Nat.min_eq_left hi,
    Nat.add_zero]

/-- Settles O45: the checks in their order, and the order that the move leaves. -/
theorem moveReordersTheSequence : Obligations.MoveReordersTheSequence := by
  unfold Obligations.MoveReordersTheSequence
  intro s body hs hmode id position answer
  have hrun : ¬s.mode = .config := by rw [hmode]; decide
  refine ⟨fun hbad => ?_, fun hlen hvalid hpos => ?_⟩
  · refine request_refused (rule := ruleSeqMove body) hs rfl ((if_neg hrun).trans (if_pos ?_))
    have hvalid := validSlabId_iff id
    have hinvalid : body.length ≠ 8 ∨ validSlabId id = false ∨ position = 4294967295 := by
      refine hbad.imp_right fun h => ?_
      rcases h with h | h | h
      · exact .inl (by rw [h]; rfl)
      · exact .inl (by rw [h]; rfl)
      · exact .inr h
    rw [Bool.or_eq_true, Bool.or_eq_true, decide_eq_true_iff, Bool.not_eq_true', or_assoc, beq_iff_eq]
    exact hinvalid
  have hpass : ¬(body.length ≠ 8 || !validSlabId id || position == Config.allOnes) = true := by
    simp [hlen, hvalid, Config.allOnes, hpos]
  have hrefused (e : RefuseReason) (h : s.moveRefusal id position = some e) : answer e := by
    refine request_refused (rule := ruleSeqMove body) hs rfl ((if_neg hrun).trans ((if_neg hpass).trans ?_))
    rw [show s.moveRefusal (field body 0 4) (field body 4 4) = some e from h]
  refine ⟨fun hlive => hrefused _ ?_, fun hlive => ⟨fun hmem => hrefused _ ?_, fun hmem hfixed => hrefused _ ?_, fun hmem hfixed => ?_⟩⟩
  · rw [State.moveRefusal, hlive]; rfl
  · rw [moveRefusal_live hlive, if_pos hmem]
  · rw [moveRefusal_live hlive, if_neg (not_not.mpr hmem), if_pos hfixed]
  have hlast := moveRefusal_unfixed (position := position) hlive hmem hfixed
  refine ⟨fun hzero hout => hrefused _ ?_, fun hzero hin hfixed' => hrefused _ ?_, fun i honce hposition => ?_⟩
  · rw [hlast, if_neg hzero, if_pos hout]
  · rw [hlast, if_neg hzero, if_neg (not_not.mpr hin), if_pos hfixed']
  intro rest htail hbefore hself
  have hnone : s.moveRefusal id position = none := by
    rw [hlast]
    obtain hzero | ⟨hin, hfixed'⟩ := hposition
    · exact if_pos hzero
    · rw [if_neg (not_not.mpr hin), hfixed']; exact ite_self _
  have horder := movedOrder_eq honce hmem htail hbefore hself
  have hrule : ruleSeqMove body s = taken s { s with sequence := movedOrder s.sequence id position } fun t =>
      u32 id ++ u8 (t.sequence.idxOf id) ++ u8 t.sequence.length := by
    refine (if_neg hrun).trans ((if_neg hpass).trans ?_)
    rw [show s.moveRefusal (field body 0 4) (field body 4 4) = none from hnone]
  have hi : i ≤ rest.length := by
    by_cases hzero : position = 0
    · exact (htail hzero).le
    · by_cases hpos : position = id
      · rw [hself hpos]
        have hlength := congrArg List.length (reinserted_self honce hmem)
        have := List.idxOf_lt_length_of_mem hmem
        simp only [List.length_append, List.length_cons, List.length_take, List.length_drop] at hlength
        show s.sequence.idxOf id ≤ (s.sequence.filter fun x => x != id).length
        omega
      · rw [hbefore hzero hpos]; exact List.idxOf_le_length
  have hnot : id ∉ rest := fun h => by simpa using (List.mem_filter.mp h).2
  rw [horder] at hrule
  have hcount : (rest.take i ++ id :: rest.drop i).length = s.sequence.length := by
    rw [← (movedOrder_perm position hmem honce).length_eq, horder]
  refine request_taken (rule := ruleSeqMove body) hs rfl hrule ?_
  rw [settle_sequence, idxOf_inserted hnot hi, hcount]

end Moves

/-! ### SEQ_WITHDRAW (R32 to R34) -/

section Withdrawals

theorem settle_listedCount (s t : State) : (settle s t).listedCount = t.listedCount := by
  have hlisted : (settle s t).isListed = t.isListed := funext fun x => by simp only [State.isListed, settle_place]
  rw [State.listedCount, State.listedCount, settle_sequence, hlisted]

/-- R33: the answer of a withdrawal, from the state that it leaves. -/
theorem withdrawBody_settle (r : SlabRecord) (crane : Nat) (t : State) : withdrawBody r crane (settle s t) =
    u32 r.id ++ u8 r.place.code ++ u8 crane ++ u32 ((r.partner.map fun q => q.id).getD 0) ++
      (u8 t.sequence.length ++ u8 t.listedCount ++ u16 t.register.length) := by
  simp only [withdrawBody, settle_sequence, settle_listedCount, State.liveCount, settle_register, slabField, List.append_assoc]

/-- Settles O46: the withdrawal by the state of the slab. -/
theorem withdrawalFreesTheSlab : Obligations.WithdrawalFreesTheSlab := by
  unfold Obligations.WithdrawalFreesTheSlab
  intro s body r hs hmode hlen hvalid hr former withdrawn counts
  have hrun : ¬s.mode = .config := by rw [hmode]; decide
  have hpass : ¬(body.length ≠ 4 || !validSlabId (field body 0 4)) = true := by simp [hlen, hvalid]
  refine ⟨fun hplace => ?_, fun k hplace => ?_, fun k o hplace => ?_, fun hplace => ?_⟩
  · have hrule : ruleSeqWithdraw body s = taken s (s.withdrawListed r.id) (withdrawBody r 0) := by
      rw [ruleSeqWithdraw, if_neg hrun, if_neg hpass, hr]
      dsimp only
      rw [hplace]
    have hbody := withdrawBody_settle (s := s) r 0 (s.withdrawListed r.id)
    rw [hplace] at hbody
    exact request_taken (rule := ruleSeqWithdraw body) hs rfl hrule hbody
  · have hrule : ruleSeqWithdraw body s = taken s (s.withdrawPermitted r.id k) (withdrawBody r (craneNumber k)) := by
      rw [ruleSeqWithdraw, if_neg hrun, if_neg hpass, hr]
      dsimp only
      rw [hplace]
    have hbody := withdrawBody_settle (s := s) r (craneNumber k) (s.withdrawPermitted r.id k)
    rw [hplace] at hbody
    exact request_taken (rule := ruleSeqWithdraw body) hs rfl hrule hbody
  · refine request_refused (rule := ruleSeqWithdraw body) hs rfl ?_
    rw [ruleSeqWithdraw, if_neg hrun, if_neg hpass, hr]
    dsimp only
    rw [hplace]
  · refine request_refused (rule := ruleSeqWithdraw body) hs rfl ?_
    rw [ruleSeqWithdraw, if_neg hrun, if_neg hpass, hr]
    dsimp only
    cases hr' : r.place with
    | onLane | atEntry | inFurnace | doubtful => rfl
    | listed | permitted | lifted => exact absurd hplace (by rw [hr']; simp [Place.isInSequence])

end Withdrawals

end Sys2Proof.Proofs

/-!
PROOFS. Permits and lifts (O47, O48), and how a request of a crane or a furnace port answers.
-/

namespace Sys2Proof.Proofs

open Sys2Proof Sys2Proof.Machine

variable {s t : State}

/-! ### Requests of a crane port and of a furnace port (R169) -/

section RolePorts

variable {kind : Kind} {answer : List Byte}

section

variable {k : Crane} {rule : Crane → State → State × Response}

theorem craneRequest_answer {r : Response} (h : s.serves (cranePort k)) (hk : kind.allowedTo .crane = true) (hrule : rule k s = (t, r)) :
    request (cranePort k) kind (forCrane (cranePort k) rule) s = .next (t.respond (cranePort k) r) :=
  request_answer h (by rw [portRole_cranePort]; exact hk) ((forCrane_cranePort k rule s).trans hrule)

theorem craneRequest_refused {e : RefuseReason} (h : s.serves (cranePort k)) (hk : kind.allowedTo .crane = true)
    (hrule : rule k s = refused t e) :
    request (cranePort k) kind (forCrane (cranePort k) rule) s = .next (t.respond (cranePort k) (.refuse e [])) :=
  craneRequest_answer h hk hrule

theorem craneRequest_waits {w : WaitReason} {detail : List Byte} (h : s.serves (cranePort k)) (hk : kind.allowedTo .crane = true)
    (hrule : rule k s = waits t w detail) :
    request (cranePort k) kind (forCrane (cranePort k) rule) s = .next (t.respond (cranePort k) (.wait w detail)) :=
  craneRequest_answer h hk hrule

theorem craneRequest_taken {body : State → List Byte} (h : s.serves (cranePort k)) (hk : kind.allowedTo .crane = true)
    (hrule : rule k s = taken s t body) (hbody : body (settle s t) = answer) :
    request (cranePort k) kind (forCrane (cranePort k) rule) s = .next ((settle s t).done (cranePort k) answer) :=
  request_taken h (by rw [portRole_cranePort]; exact hk) ((forCrane_cranePort k rule s).trans hrule) hbody

end

variable {f : Furnace} {rule : Furnace → State → State × Response}

theorem furnaceRequest_answer {r : Response} (h : s.serves (furnacePort f)) (hk : kind.allowedTo .furnace = true)
    (hrule : rule f s = (t, r)) :
    request (furnacePort f) kind (forFurnace (furnacePort f) rule) s = .next (t.respond (furnacePort f) r) :=
  request_answer h (by rw [portRole_furnacePort]; exact hk) ((forFurnace_furnacePort f rule s).trans hrule)

theorem furnaceRequest_refused {e : RefuseReason} (h : s.serves (furnacePort f)) (hk : kind.allowedTo .furnace = true)
    (hrule : rule f s = refused t e) :
    request (furnacePort f) kind (forFurnace (furnacePort f) rule) s = .next (t.respond (furnacePort f) (.refuse e [])) :=
  furnaceRequest_answer h hk hrule

theorem furnaceRequest_waits {w : WaitReason} {detail : List Byte} (h : s.serves (furnacePort f)) (hk : kind.allowedTo .furnace = true)
    (hrule : rule f s = waits t w detail) :
    request (furnacePort f) kind (forFurnace (furnacePort f) rule) s = .next (t.respond (furnacePort f) (.wait w detail)) :=
  furnaceRequest_answer h hk hrule

theorem furnaceRequest_taken {body : State → List Byte} (h : s.serves (furnacePort f)) (hk : kind.allowedTo .furnace = true)
    (hrule : rule f s = taken s t body) (hbody : body (settle s t) = answer) :
    request (furnacePort f) kind (forFurnace (furnacePort f) rule) s = .next ((settle s t).done (furnacePort f) answer) :=
  request_taken h (by rw [portRole_furnacePort]; exact hk) ((forFurnace_furnacePort f rule s).trans hrule) hbody

end RolePorts

/-! ### Permits (R46 to R51) -/

section Permits

variable {k : Crane} {r : SlabRecord}

/-- R47: the state in which the slab is PERMITTED, before its pairing test. -/
def permitted (s : State) (k : Crane) (id : SlabId) : State := (s.setPlace id (.permitted k)).startPermitTimer k

theorem permitted_place? (hr : s.slab? r.id = some r) : (permitted s k r.id).place? r.id = some (.permitted k) := by
  rw [permitted, place?_startPermitTimer, State.setPlace_place?, if_pos rfl, place?_of_slab? hr]
  rfl

theorem permitted_partner? (id x : SlabId) : (permitted s k id).partner? x = s.partner? x := by
  rw [permitted, State.startPermitTimer, State.updateCrane_partner, State.setPlace_partner?]

theorem markTested_place? (u : State) (id x : SlabId) : (u.markTested id).place? x = u.place? x :=
  place?_updateSlab_same u id x (fun r => { r with pairingTested := true }) fun _ => ⟨rfl, rfl⟩

theorem markTested_partner? (u : State) (id x : SlabId) : (u.markTested id).partner? x = u.partner? x := by
  have h := u.updateSlab_slab? id x (fun r => { r with pairingTested := true }) fun _ => rfl
  rw [State.partner?, State.partner?, State.markTested, h]
  split
  · rw [Option.bind_map]; rfl
  · rfl

/-- R46: a PERMIT_ASK of a crane that holds no slab, for the first LISTED entry. -/
theorem rulePermitAsk_first (hholds : s.craneHoldsSlab k = false) (hfirst : s.firstListed = some r.id) (hr : s.slab? r.id = some r) :
    rulePermitAsk [] k s = if s.creditsFree = 0 then waits s .noCredit []
      else if !(s.furnaceParams r.destination).admits r.heatingClass then
        waits (s.logFault .sequence .admissionStall (some r.id) (some (cranePort k))) .admission (u32 r.id)
      else taken s (s.grantPermit k r.id) (grantBody r ((permitted s k r.id).pairingPartner r.id)) := by
  have hbind : s.firstListed.bind s.slab? = some r := by rw [hfirst]; exact hr
  rw [rulePermitAsk, if_neg (by simp), hholds, if_neg (by decide), hbind]
  rfl

/-- R48: the answer of a grant whose test formed a pair. -/
theorem grantBody_pair {b : SlabId} (hr : s.slab? r.id = some r) (hb : (permitted s k r.id).pairingPartner r.id = some b) :
    grantBody r (some b) (settle s (((permitted s k r.id).markTested r.id).formPair r.id b)) = r.description ++ u32 b ++ [0x01] := by
  have hself := permitted_place? (k := k) hr
  have hlisted := (pairingPartner_some hb).2.1
  have hne : r.id ≠ b := fun h => by rw [← h, hself] at hlisted; cases hlisted
  rw [grantBody, settle_partner, partner?_formPair (by rw [markTested_place?, hself]; nofun) (by rw [markTested_place?, hlisted]; nofun) hne,
    if_neg hne, if_pos rfl]
  rfl

theorem grantBody_single (hr : s.slab? r.id = some r) :
    grantBody r none (settle s ((permitted s k r.id).markTested r.id)) = r.description ++ u32 0 ++ u8 (roleCode r.partner) := by
  rw [grantBody, settle_partner, markTested_partner?, permitted_partner?, State.partner?, hr]
  rfl

/-- R50: a PERMIT_RETURN of a crane without a permit. -/
theorem rulePermitReturn_none {body : List Byte} (hlen : body.length = 4) (hvalid : validSlabId (field body 0 4) = true)
    (hcustody : (s.crane k).custody = none) (hpermit : s.permitOf k = none) : rulePermitReturn body k s = refused s .state := by
  rw [rulePermitReturn, if_neg (by simp [hlen, hvalid]), if_neg (by rw [hcustody]; nofun), hpermit]

/-- R50, R51: a PERMIT_RETURN of a crane with a permit. -/
theorem rulePermitReturn_held {body : List Byte} {id : SlabId} (hlen : body.length = 4) (hvalid : validSlabId (field body 0 4) = true)
    (hcustody : (s.crane k).custody = none) (hpermit : s.permitOf k = some id) : rulePermitReturn body k s =
      if field body 0 4 ≠ id then refused s .mismatch
      else taken s ((s.undoPermit k id).logFault .sequence .permitReturned (some id) (some (cranePort k)))
        fun t => u32 id ++ u8 t.creditsFree := by
  rw [rulePermitReturn, if_neg (by simp [hlen, hvalid]), if_neg (by rw [hcustody]; nofun), hpermit]

/-- Settles O47: the checks in their order, and the two outcomes of the pairing test of a grant. -/
theorem permitsComeAndGo : Obligations.PermitsComeAndGo := by
  unfold Obligations.PermitsComeAndGo
  intro s k hs ask
  refine ⟨fun hholds => ?_, fun hholds hfirst => ?_, fun r hholds hfirst hr => ?_, fun body hlen hvalid => ?_⟩
  · exact craneRequest_waits (rule := rulePermitAsk []) hs rfl (by rw [rulePermitAsk, if_neg (by simp), if_pos hholds])
  · refine craneRequest_waits (rule := rulePermitAsk []) hs rfl ?_
    rw [rulePermitAsk, if_neg (by simp), hholds, if_neg (by decide), hfirst]
    rfl
  · have hrule := rulePermitAsk_first hholds hfirst hr
    refine ⟨fun hcredits => ?_, fun hcredits hadmits => ?_, fun hcredits hadmits => ?_⟩
    · exact craneRequest_waits (rule := rulePermitAsk []) hs rfl (hrule.trans (if_pos hcredits))
    · exact craneRequest_waits (rule := rulePermitAsk []) hs rfl (hrule.trans ((if_neg hcredits).trans (if_pos (by rw [hadmits]; rfl))))
    · intro u tested
      replace hrule := hrule.trans ((if_neg hcredits).trans (if_neg (by rw [hadmits]; decide)))
      refine ⟨fun b hb => ?_, fun hb => ?_⟩
      · have hpartner : (permitted s k r.id).pairingPartner r.id = some b := hb
        have hgrant : s.grantPermit k r.id = ((permitted s k r.id).markTested r.id).formPair r.id b := by
          rw [State.grantPermit, ← permitted, State.pairingTest, hpartner]
        rw [hgrant, hpartner] at hrule
        exact craneRequest_taken (rule := rulePermitAsk []) hs rfl hrule (grantBody_pair hr hpartner)
      · have hpartner : (permitted s k r.id).pairingPartner r.id = none := hb
        have hgrant : s.grantPermit k r.id = (permitted s k r.id).markTested r.id := by
          rw [State.grantPermit, ← permitted, State.pairingTest, hpartner]
        rw [hgrant, hpartner] at hrule
        exact craneRequest_taken (rule := rulePermitAsk []) hs rfl hrule (grantBody_single hr)
  · intro answer
    refine ⟨fun hcustody => ?_, fun hcustody hpermit => ?_, fun id hcustody hpermit => ⟨fun hother => ?_, fun hid => ?_⟩⟩
    · refine craneRequest_refused (rule := rulePermitReturn body) hs rfl ?_
      rw [rulePermitReturn, if_neg (by simp [hlen, hvalid]), if_pos (Option.isSome_iff_ne_none.mpr hcustody)]
    · exact craneRequest_refused (rule := rulePermitReturn body) hs rfl (rulePermitReturn_none hlen hvalid hcustody hpermit)
    · exact craneRequest_refused (rule := rulePermitReturn body) hs rfl
        ((rulePermitReturn_held hlen hvalid hcustody hpermit).trans (if_pos hother))
    · exact craneRequest_taken (rule := rulePermitReturn body) hs rfl
        ((rulePermitReturn_held hlen hvalid hcustody hpermit).trans (if_neg (not_not.mpr hid)))
        (congrArg (fun n => u32 id ++ u8 n) (settle_creditsFree ..))

end Permits

/-! ### Lifts (R65 to R69) -/

section Lifts

variable {k : Crane} {id : SlabId} {body : List Byte}

/-- R26: whose the head is depends on the sequence and on where slabs stand. -/
theorem carriesHead_congr (hsequence : t.sequence = s.sequence) (hplace : ∀ x, t.place? x = s.place? x) (k : Crane) :
    t.carriesHead k = s.carriesHead k := by
  have hplaces : t.place? = s.place? := funext hplace
  simp only [State.carriesHead, hsequence, hplaces]

theorem takeLift_sequence (k : Crane) (id : SlabId) : (s.takeLift k id).sequence = s.sequence := rfl

theorem takeLift_partner? (k : Crane) (id x : SlabId) : (s.takeLift k id).partner? x = s.partner? x := by
  rw [State.takeLift, State.beginCustody_partner, State.setPlace_partner?, State.stopPermitTimer, State.updateCrane_partner]

/-- R66: the answer of a lift, from a state that keeps its sequence, its partners and its places. -/
theorem liftBody_eq (result : Nat) (hsequence : t.sequence = (s.takeLift k id).sequence)
    (hpartner : t.partner? id = (s.takeLift k id).partner? id) (hplace : ∀ x, t.place? x = (s.takeLift k id).place? x) :
    liftBody result k id (settle s t) = u8 result ++ u32 id ++ u8 (s.sequence.idxOf id) ++ u8 (roleCode (s.partner? id)) ++
      slabField ((s.partner? id).map fun q => q.id) ++ yesNo ((s.takeLift k id).carriesHead k) := by
  have hhead : (settle s t).carriesHead k = (s.takeLift k id).carriesHead k :=
    carriesHead_congr ((settle_sequence ..).trans hsequence) (fun x => (settle_place ..).trans (hplace x)) k
  rw [liftBody, hhead, settle_sequence, settle_partner, hsequence, hpartner, takeLift_partner?, takeLift_sequence]

/-- R65: a LIFT_REPORT of a crane without custody. -/
theorem ruleLiftReport_permit {other : SlabId} (hlen : body.length = 4) (hvalid : validSlabId (field body 0 4) = true)
    (hcustody : (s.crane k).custody = none) (hpermit : s.permitOf k = some other) : ruleLiftReport body k s =
      if field body 0 4 ≠ other then refused s .mismatch else taken s (s.takeLift k other) (liftBody 0 k other) := by
  rw [ruleLiftReport, if_neg (by simp [hlen, hvalid]), if_neg (by rw [hcustody]; nofun), hpermit]

theorem ruleLiftReport_late (hlen : body.length = 4) (hvalid : validSlabId (field body 0 4) = true)
    (hcustody : (s.crane k).custody = none) (hpermit : s.permitOf k = none) :
    ruleLiftReport body k s = lateReport k (field body 0 4) s := by
  rw [ruleLiftReport, if_neg (by simp [hlen, hvalid]), if_neg (by rw [hcustody]; nofun), hpermit]

/-- Settles O48: a lift with a permit, and one without by the state of the slab. -/
theorem liftsAreTaken : Obligations.LiftsAreTaken := by
  unfold Obligations.LiftsAreTaken
  intro s k body id hs hlen hid hvalid p report answer lifted accepted
  subst hid
  refine ⟨fun hcustody => ?_, fun hcustody => ⟨fun other hpermit hother => ?_, fun hpermit => ?_, fun hpermit => ?_⟩⟩
  · refine craneRequest_refused (rule := ruleLiftReport body) hs rfl ?_
    rw [ruleLiftReport, if_neg (by simp [hlen, hvalid]), if_pos (Option.isSome_iff_ne_none.mpr hcustody)]
  · exact craneRequest_refused (rule := ruleLiftReport body) hs rfl
      ((ruleLiftReport_permit hlen hvalid hcustody hpermit).trans (if_pos fun h => hother h.symm))
  · exact craneRequest_taken (rule := ruleLiftReport body) hs rfl
      ((ruleLiftReport_permit hlen hvalid hcustody hpermit).trans (if_neg (not_not.mpr rfl))) (liftBody_eq 0 rfl rfl fun _ => rfl)
  have hlate := ruleLiftReport_late hlen hvalid hcustody hpermit
  have hrefused (u : State) (e : RefuseReason) (h : lateReport k (field body 0 4) s = refused u e) :
      report = .next (u.respond p (.refuse e [])) := craneRequest_refused (rule := ruleLiftReport body) hs rfl (hlate.trans h)
  refine ⟨fun hplace => hrefused _ _ ?_, fun hplace hfirst hcredits => ?_, fun hplace hnot => hrefused _ _ ?_, fun ⟨j, hheld⟩ => ?_,
    fun pl hplace hout => hrefused _ _ ?_⟩
  · rw [lateReport, hplace]
  · have hrule : lateReport k (field body 0 4) s = taken s (s.lateLift k (field body 0 4)) (liftBody 1 k (field body 0 4)) := by
      rw [lateReport, hplace]
      exact if_pos ⟨hfirst, hcredits⟩
    exact craneRequest_taken (rule := ruleLiftReport body) hs rfl (hlate.trans hrule)
      (liftBody_eq 1 (State.logFault_sequence ..) (State.logFault_partner ..) fun x => State.logFault_place ..)
  · rw [lateReport, hplace]
    exact if_neg fun ⟨hfirst, hcredits⟩ => hnot.elim (fun h => h hfirst) hcredits
  · obtain hplace | ⟨o, hplace⟩ := hheld
    · exact hrefused _ _ (by rw [lateReport, hplace])
    · exact hrefused _ _ (by rw [lateReport, hplace])
  · rw [lateReport, hplace]
    cases pl with
    | onLane | atEntry | inFurnace | doubtful => rfl
    | listed | permitted | lifted => simp [Place.isInSequence] at hout

end Lifts

end Sys2Proof.Proofs

/-!
PROOFS. The end of a custody (O49): the pair check of a join of the lane (R57), and the set-down, the deposit and the set-aside.
-/

namespace Sys2Proof.Proofs

open Sys2Proof Sys2Proof.Machine

variable {s t : State}

/-! ### The pair check (R57) -/

section PairCheck

/-- R57: the pair check of one lane slab. -/
def checkOnePair (v : State) (x : SlabId) : State := if v.checkPairOf x then v else v.dissolvePair x

theorem checkOnePair_eq (v : State) (x : SlabId) : checkOnePair v x = { v with register := (checkOnePair v x).register } := by
  unfold checkOnePair
  split <;> rfl

theorem pairStands_congr {v : State} (hlane : v.lane = s.lane) (hsequence : v.sequence = s.sequence) (a b : SlabId) :
    v.pairStands a b = s.pairStands a b := by
  rw [State.pairStands, State.pairStands, hlane, hsequence]

theorem pairStands_checkOnePair (v : State) (x a b : SlabId) : (checkOnePair v x).pairStands a b = v.pairStands a b := by
  rw [checkOnePair_eq]; rfl

/-- R57: a record that neither the slab checked nor its pair concerns. -/
theorem checkOnePair_same {v : State} {x y : SlabId} {r : SlabRecord} (hr : v.slab? y = some r)
    (h : ∀ q, r.partner = some q → x ≠ y ∧ x ≠ q.id) : (checkOnePair v x).slab? y = some r := by
  obtain rfl := State.slab?_id hr
  unfold checkOnePair
  split
  · exact hr
  · rw [State.dissolvePair_slab?, hr, Option.map_some]
    cases hq : r.partner with
    | none => rw [(singled_record r x).1 hq]
    | some q =>
      obtain ⟨hself, hpartner⟩ := h q hq
      rw [(singled_record r x).2 q hq, if_neg (not_or.mpr ⟨hself.symm, hpartner.symm⟩)]

theorem checkPairs_same {y : SlabId} {r : SlabRecord} (l : List SlabId) {v : State} (hr : v.slab? y = some r)
    (h : ∀ q, r.partner = some q → y ∉ l ∧ q.id ∉ l) : (l.foldl checkOnePair v).slab? y = some r := by
  induction l generalizing v with
  | nil => exact hr
  | cons x l ih =>
    refine ih (checkOnePair_same hr fun q hq => ?_) fun q hq => ?_
    · obtain ⟨hy, hq'⟩ := h q hq
      exact ⟨fun hx => hy (hx ▸ List.mem_cons_self), fun hx => hq' (hx ▸ List.mem_cons_self)⟩
    · exact ⟨fun hx => (h q hq).1 (List.mem_cons_of_mem _ hx), fun hx => (h q hq).2 (List.mem_cons_of_mem _ hx)⟩

/-- R5: the two records name each other, the one as FIRST. -/
structure PairIn (v : State) (a b : SlabRecord) : Prop where
  first : v.slab? a.id = some a
  second : v.slab? b.id = some b
  firstPartner : a.partner = some ⟨b.id, .first⟩
  secondPartner : b.partner = some ⟨a.id, .second⟩

variable {a b : SlabRecord}

/-- R57: the check of either member asks whether the pair stands. -/
theorem PairIn.check {v : State} (h : PairIn v a b) {x : SlabId} (hx : x = a.id ∨ x = b.id) :
    v.checkPairOf x = v.pairStands a.id b.id := by
  rcases hx with rfl | rfl
  · have hpartner : v.partner? a.id = some ⟨b.id, .first⟩ := by rw [State.partner?, h.first]; exact h.firstPartner
    rw [State.checkPairOf, hpartner]
  · have hpartner : v.partner? b.id = some ⟨a.id, .second⟩ := by rw [State.partner?, h.second]; exact h.secondPartner
    rw [State.checkPairOf, hpartner]

/-- R57: the check of another slab leaves a pair as it is. -/
theorem PairIn.other {v : State} (h : PairIn v a b) {x : SlabId} (ha : x ≠ a.id) (hb : x ≠ b.id) : PairIn (checkOnePair v x) a b where
  first := checkOnePair_same h.first fun q hq => by rw [h.firstPartner] at hq; cases hq; exact ⟨ha, hb⟩
  second := checkOnePair_same h.second fun q hq => by rw [h.secondPartner] at hq; cases hq; exact ⟨hb, ha⟩
  firstPartner := h.firstPartner
  secondPartner := h.secondPartner

/-- R57: a pair that stands is kept. -/
theorem PairIn.kept (l : List SlabId) {v : State} (h : PairIn v a b) (hstands : v.pairStands a.id b.id = true) :
    PairIn (l.foldl checkOnePair v) a b := by
  induction l generalizing v with
  | nil => exact h
  | cons x l ih =>
    refine ih ?_ ((pairStands_checkOnePair v x _ _).trans hstands)
    by_cases hx : x = a.id ∨ x = b.id
    · rwa [checkOnePair, if_pos ((h.check hx).trans hstands)]
    · exact h.other (fun hx' => hx (.inl hx')) fun hx' => hx (.inr hx')

/-- R5: both members of a pair that dissolves. -/
theorem PairIn.dissolved {v : State} (h : PairIn v a b) {x : SlabId} (hx : x = a.id ∨ x = b.id) :
    (v.dissolvePair x).slab? a.id = some a.unpaired ∧ (v.dissolvePair x).slab? b.id = some b.unpaired := by
  refine ⟨?_, ?_⟩
  · rw [State.dissolvePair_slab?, h.first, Option.map_some, (singled_record a x).2 _ h.firstPartner,
      if_pos (hx.imp Eq.symm Eq.symm)]
  · rw [State.dissolvePair_slab?, h.second, Option.map_some, (singled_record b x).2 _ h.secondPartner,
      if_pos (hx.symm.imp Eq.symm Eq.symm)]

/-- R57: a pair that touches the list and does not stand dissolves. -/
theorem PairIn.ends (l : List SlabId) {v : State} (h : PairIn v a b) (hstands : v.pairStands a.id b.id = false)
    (htouches : a.id ∈ l ∨ b.id ∈ l) :
    (l.foldl checkOnePair v).slab? a.id = some a.unpaired ∧ (l.foldl checkOnePair v).slab? b.id = some b.unpaired := by
  induction l generalizing v with
  | nil => simp at htouches
  | cons x l ih =>
    by_cases hx : x = a.id ∨ x = b.id
    · have hstep : checkOnePair v x = v.dissolvePair x := if_neg (by rw [h.check hx, hstands]; decide)
      rw [List.foldl_cons, hstep]
      obtain ⟨ha, hb⟩ := h.dissolved hx
      exact ⟨checkPairs_same l ha nofun, checkPairs_same l hb nofun⟩
    · have ha : x ≠ a.id := fun hx' => hx (.inl hx')
      have hb : x ≠ b.id := fun hx' => hx (.inr hx')
      exact ih (h.other ha hb) ((pairStands_checkOnePair v x _ _).trans hstands)
        (htouches.imp (fun h => (List.mem_cons.mp h).resolve_left ha.symm) fun h => (List.mem_cons.mp h).resolve_left hb.symm)

/-- R26: the successor of an element of a list without repeats. -/
theorem successorIn_eq_some_iff {l : List SlabId} (honce : l.Nodup) (x y : SlabId) :
    successorIn x l = some y ↔ ∃ i : Nat, l[i]? = some x ∧ l[i + 1]? = some y := by
  induction l with
  | nil => simp [successorIn]
  | cons c l ih =>
    rw [List.nodup_cons] at honce
    cases l with
    | nil => simp [successorIn]
    | cons d l =>
      rw [successorIn]
      by_cases hc : c = x
      · subst hc
        rw [if_pos rfl]
        refine ⟨fun h => ⟨0, rfl, h⟩, fun ⟨i, hi, hnext⟩ => ?_⟩
        cases i with
        | zero => exact hnext
        | succ i => exact absurd (List.mem_of_getElem? (l := d :: l) (i := i) hi) honce.1
      · rw [if_neg hc, ih honce.2]
        refine ⟨fun ⟨i, hi⟩ => ⟨i + 1, hi⟩, fun ⟨i, hi, hnext⟩ => ?_⟩
        cases i with
        | zero => exact absurd (Option.some.inj hi) hc
        | succ i => exact ⟨i, hi, hnext⟩

theorem pairStands_iff (honce : s.lane.Nodup) (x y : SlabId) : s.pairStands x y = true ↔
    (s.lane.getLast? = some x ∧ s.sequence.head? = some y) ∨ ∃ i : Nat, s.lane[i]? = some x ∧ s.lane[i + 1]? = some y := by
  rw [State.pairStands, Bool.or_eq_true, Bool.and_eq_true, beq_iff_eq, beq_iff_eq, beq_iff_eq, successorIn_eq_some_iff honce]

/-- R57: the pairs that touch the lane after a join. -/
theorem pairs_of_join (s : State) (id : SlabId) (honce : (s.lane ++ [id]).Nodup) :
    let t := s.joinLaneTail id
    let touches := fun x => x ∈ s.lane ++ [id]
    t = { s with lane := s.lane ++ [id], register := t.register } ∧
    (∀ a b : SlabRecord, s.slab? a.id = some a → s.slab? b.id = some b → a.partner = some ⟨b.id, .first⟩ →
      b.partner = some ⟨a.id, .second⟩ → touches a.id ∨ touches b.id →
      let stands := (t.lane.getLast? = some a.id ∧ t.sequence.head? = some b.id) ∨
        ∃ i : Nat, t.lane[i]? = some a.id ∧ t.lane[i + 1]? = some b.id
      (stands → t.slab? a.id = some a ∧ t.slab? b.id = some b) ∧
      (¬stands → ∃ a' b', t.slab? a.id = some a' ∧ t.slab? b.id = some b' ∧ a.becomesSingle a' ∧ b.becomesSingle b' ∧
        a'.place = a.place ∧ b'.place = b.place)) ∧
    (∀ r : SlabRecord, s.slab? r.id = some r → (∀ q, r.partner = some q → ¬touches r.id ∧ ¬touches q.id) → t.slab? r.id = some r) := by
  intro t touches
  have hbooks : t = { s with lane := s.lane ++ [id], register := t.register } := State.joinLaneTail_eq s id
  refine ⟨hbooks, fun a b ha hb hfirst hsecond htouches => ?_, fun r hr hout => ?_⟩
  · intro stands
    have hpair : PairIn { s with lane := s.lane ++ [id] } a b := ⟨ha, hb, hfirst, hsecond⟩
    have hstands : State.pairStands { s with lane := s.lane ++ [id] } a.id b.id = true ↔ stands := by
      have hlane : t.lane = s.lane ++ [id] := State.joinLaneTail_lane s id
      have hsequence : t.sequence = s.sequence := by rw [hbooks]
      rw [← pairStands_congr (s := { s with lane := s.lane ++ [id] }) hlane hsequence]
      exact pairStands_iff (by rw [hlane]; exact honce) _ _
    refine ⟨fun h => ?_, fun h => ?_⟩
    · have hkept := PairIn.kept (s.lane ++ [id]) hpair (hstands.mpr h)
      exact ⟨hkept.first, hkept.second⟩
    · obtain ⟨ha', hb'⟩ := PairIn.ends (s.lane ++ [id]) hpair (Bool.eq_false_iff.mpr (mt hstands.mp h)) htouches
      exact ⟨_, _, ha', hb', a.unpaired_becomesSingle, b.unpaired_becomesSingle, rfl, rfl⟩
  · exact checkPairs_same (s.lane ++ [id]) (v := { s with lane := s.lane ++ [id] }) hr hout

end PairCheck

/-! ### Set-down, deposit and set-aside (R73 to R78) -/

section CustodyEnds

variable {k : Crane} {id : SlabId} {body : List Byte}

/-- R73: the checks of SETDOWN_ASK after the first. -/
theorem ruleSetdownAsk_valid (hlen : body.length = 4) (hvalid : validSlabId (field body 0 4) = true) : ruleSetdownAsk body k s =
    if (s.crane k).custody ≠ some (field body 0 4) then refused s .state
    else if s.laneDoubt then waits s .laneDoubtful []
    else if s.sequence.head? ≠ some (field body 0 4) then waits s .turn []
    else ({ s with reservation := some ⟨k, field body 0 4⟩ },
      .done (u8 0 ++ u32 (field body 0 4) ++ u8 s.lane.length ++ u8 (s.lane.length + 1))) :=
  if_neg (by simp [hlen, hvalid])

/-- R75: the shared checks of a deposit and a set-aside. -/
theorem depositRefusal_none (hlen : body.length = 4) (hvalid : validSlabId (field body 0 4) = true)
    (hcustody : (s.crane k).custody = none) : s.depositRefusal k body = some .state := by
  rw [State.depositRefusal, if_neg (by simp [hlen, hvalid]), hcustody]

theorem depositRefusal_held (hlen : body.length = 4) (hvalid : validSlabId (field body 0 4) = true)
    (hcustody : (s.crane k).custody = some id) :
    s.depositRefusal k body = if field body 0 4 = id then none else some .mismatch := by
  rw [State.depositRefusal, if_neg (by simp [hlen, hvalid]), hcustody]

theorem ruleDepositReport_refused {e : RefuseReason} (h : s.depositRefusal k body = some e) :
    ruleDepositReport body k s = refused s e := by
  rw [ruleDepositReport, h]

theorem ruleSetAsideReport_refused {e : RefuseReason} (h : s.depositRefusal k body = some e) :
    ruleSetAsideReport body k s = refused s e := by
  rw [ruleSetAsideReport, h]

/-- R76, R77: the answer of a deposit, from the state that it leaves. -/
theorem depositBody_settle (result : Nat) (id : SlabId) (t : State) : depositBody result id (settle s t) =
    u8 result ++ u8 (t.lane.idxOf id + 1) ++ u8 t.creditsFree ++ u8 t.headRow.code := by
  rw [depositBody, settle_lane, settle_creditsFree, settle_headRow]

theorem ruleDepositReport_inTurn (h : s.depositRefusal k body = none) (hhead : s.sequence.head? = some (field body 0 4)) :
    ruleDepositReport body k s = taken s (s.depositInTurn k (field body 0 4)) (depositBody 0 (field body 0 4)) := by
  rw [ruleDepositReport, h]
  exact if_pos hhead

theorem ruleDepositReport_outOfTurn (h : s.depositRefusal k body = none) (hhead : s.sequence.head? ≠ some (field body 0 4)) :
    ruleDepositReport body k s = taken s (s.depositOutOfTurn k (field body 0 4)) (depositBody 1 (field body 0 4)) := by
  rw [ruleDepositReport, h]
  exact if_neg hhead

theorem reservedFor_iff (k : Crane) (id : SlabId) : s.reservedFor k id = true ↔ s.reservation = some ⟨k, id⟩ := beq_iff_eq

/-- Settles O49: the pair check, and each report by the custody, the sequence head and the reservation. -/
theorem custodyEnds : Obligations.CustodyEnds := by
  unfold Obligations.CustodyEnds
  refine ⟨fun s id honce => pairs_of_join s id honce, ?_⟩
  intro s k body id hs hlen hid hvalid p free released onLane deposited
  subst hid
  have hask := ruleSetdownAsk_valid (s := s) (k := k) hlen hvalid
  have hrefused {e : RefuseReason} (h : s.depositRefusal k body = some e) :
      exec (.depositReport p body) s = .next (s.respond p (.refuse e [])) ∧
        exec (.setAsideReport p body) s = .next (s.respond p (.refuse e [])) :=
    ⟨craneRequest_refused (rule := ruleDepositReport body) hs rfl (ruleDepositReport_refused h),
      craneRequest_refused (rule := ruleSetAsideReport body) hs rfl (ruleSetAsideReport_refused h)⟩
  refine ⟨fun hcustody c hc => ?_, fun other hcustody hother => ?_, fun hcustody => ?_⟩
  · have hboth := hrefused (depositRefusal_none hlen hvalid hcustody)
    simp only [List.mem_cons, List.not_mem_nil, or_false] at hc
    obtain rfl | rfl | rfl := hc
    · exact craneRequest_refused (rule := ruleSetdownAsk body) hs rfl (hask.trans (if_pos (by rw [hcustody]; nofun)))
    · exact hboth.1
    · exact hboth.2
  · refine ⟨?_, hrefused ((depositRefusal_held hlen hvalid hcustody).trans (if_neg hother.symm))⟩
    exact craneRequest_refused (rule := ruleSetdownAsk body) hs rfl
      (hask.trans (if_pos (by rw [hcustody]; exact fun h => hother (Option.some.inj h))))
  have hpass : s.depositRefusal k body = none := (depositRefusal_held hlen hvalid hcustody).trans (if_pos rfl)
  replace hask := hask.trans (if_neg (not_not.mpr hcustody))
  refine ⟨fun hdoubt => ?_, fun hdoubt hhead => ?_, fun hdoubt hhead => ?_, fun hhead hreserved => ?_, fun hhead hreserved => ?_,
    fun h hhead hother => ?_, ?_⟩
  · exact craneRequest_waits (rule := ruleSetdownAsk body) hs rfl (hask.trans (if_pos hdoubt))
  · exact craneRequest_waits (rule := ruleSetdownAsk body) hs rfl
      (hask.trans ((if_neg (by rw [hdoubt]; decide)).trans (if_pos hhead)))
  · exact craneRequest_answer (rule := ruleSetdownAsk body) hs rfl
      (hask.trans ((if_neg (by rw [hdoubt]; decide)).trans (if_neg (not_not.mpr hhead))))
  · have hturn : s.depositInTurn k (field body 0 4) = onLane released := by
      rw [State.depositInTurn, (reservedFor_iff k _).mpr hreserved]
      rfl
    have hrule := ruleDepositReport_inTurn hpass hhead
    rw [hturn] at hrule
    exact craneRequest_taken (rule := ruleDepositReport body) hs rfl hrule (depositBody_settle 0 _ _)
  · have hturn : s.depositInTurn k (field body 0 4) = onLane (free.logFault .lane .depositUncleared (some (field body 0 4)) (some p)) := by
      rw [State.depositInTurn, if_neg (mt (reservedFor_iff k _).mp hreserved)]
      rfl
    have hrule := ruleDepositReport_inTurn hpass hhead
    rw [hturn] at hrule
    exact craneRequest_taken (rule := ruleDepositReport body) hs rfl hrule (depositBody_settle 0 _ _)
  · have hpair : ((s.endCustody k).dissolvePair (field body 0 4)).dissolveHeadPair = (free.dissolvePair (field body 0 4)).dissolvePair h := by
      rw [State.dissolveHeadPair, show ((s.endCustody k).dissolvePair (field body 0 4)).sequence.head? = some h from hhead]
      rfl
    have hturn : s.depositOutOfTurn k (field body 0 4) = State.raiseSupv (State.logFault
        { onLane ((free.dissolvePair (field body 0 4)).dissolvePair h) with laneDoubt := true } .lane .outOfTurn (some (field body 0 4))
        (some p)) .doubt := by
      rw [State.depositOutOfTurn, hpair]
    have hrule := ruleDepositReport_outOfTurn hpass (by rw [hhead]; exact fun he => hother (Option.some.inj he))
    rw [hturn] at hrule
    exact craneRequest_taken (rule := ruleDepositReport body) hs rfl hrule (depositBody_settle 1 _ _)
  · have hrule : ruleSetAsideReport body k s = taken s (s.setAside k (field body 0 4))
        fun t => u32 (field body 0 4) ++ u8 (t.sequence.idxOf (field body 0 4)) ++ u8 t.creditsFree := by
      rw [ruleSetAsideReport, hpass]
    have hbody : u32 (field body 0 4) ++ u8 ((settle s (s.setAside k (field body 0 4))).sequence.idxOf (field body 0 4)) ++
        u8 (settle s (s.setAside k (field body 0 4))).creditsFree = u32 (field body 0 4) ++ u8 (s.sequence.idxOf (field body 0 4)) ++
          u8 (s.setAside k (field body 0 4)).creditsFree := by
      rw [settle_creditsFree, settle_sequence]
      rfl
    exact craneRequest_taken (rule := ruleSetAsideReport body) hs rfl hrule hbody

end CustodyEnds

end Sys2Proof.Proofs

/-!
PROOFS. Holds of SUPV, and the confirmation of a furnace and of the lane (O50).
-/

namespace Sys2Proof.Proofs

open Sys2Proof Sys2Proof.Machine

section Confirmations

variable {s : State} {f : Furnace} {body : List Byte}

/-- R105: a map overlaps exactly when two adjacent rows of it do. -/
theorem anyOverlap_iff (l : List Row) : anyOverlap l = true ↔ ∃ i, overlapsAt l i := by
  induction l with
  | nil => exact ⟨nofun, fun ⟨i, hi⟩ => absurd hi (not_overlapsAt_short (l := []) (Nat.zero_le 1) i)⟩
  | cons a l ih =>
    cases l with
    | nil => exact ⟨nofun, fun ⟨i, hi⟩ => absurd hi (not_overlapsAt_short (l := [a]) (Nat.le_refl 1) i)⟩
    | cons b l =>
      rw [anyOverlap, Bool.or_eq_true, ← overlapsAt_zero a b l, ih]
      constructor
      · rintro (h | ⟨i, h⟩)
        · exact ⟨0, h⟩
        · exact ⟨i + 1, (overlapsAt_succ a _ i).mpr h⟩
      · rintro ⟨_ | i, h⟩
        · exact .inl h
        · exact .inr ⟨i, (overlapsAt_succ a _ i).mp h⟩

/-- R105: no two adjacent rows of a map overlap. -/
theorem anyOverlap_eq_false_iff (l : List Row) : anyOverlap l = false ↔
    ∀ (i : Nat) (a b : Row), l[i]? = some a → l[i + 1]? = some b → a.rear + a.width ≤ b.rear := by
  rw [← Bool.not_eq_true, anyOverlap_iff]
  refine ⟨fun h i a b ha hb => Nat.le_of_not_lt fun hlt => h ⟨i, a, b, ha, hb, hlt⟩, fun h ⟨i, a, b, ha, hb, hlt⟩ => ?_⟩
  exact absurd (h i a b ha hb) (Nat.not_le_of_lt hlt)

/-- R153: what a confirmation of a furnace asks. -/
theorem confirmable_iff : s.confirmable f = true ↔ (s.furnace f).op.isCharging = false ∧
    (∀ (i : Nat) (a b : Row), (s.furnace f).rows[i]? = some a → (s.furnace f).rows[i + 1]? = some b → a.rear + a.width ≤ b.rear) ∧
    ∀ r, (s.furnace f).rows.getLast? = some r → r.rear + r.width ≤ (s.furnaceParams f).effectiveLength := by
  rw [State.confirmable, Bool.and_eq_true, Bool.and_eq_true, Bool.not_eq_true', Bool.not_eq_true', anyOverlap_eq_false_iff, and_assoc]
  refine and_congr_right fun _ => and_congr_right fun _ => ?_
  cases (s.furnace f).rows.getLast? with
  | none => simp
  | some r => exact ⟨fun h r' hr => by cases hr; exact of_decide_eq_true h, fun h => decide_eq_true (h r rfl)⟩

/-- R110: a hold of SUPV that is set or released. -/
theorem holdRequest_taken (on : Bool) (hmode : s.mode = .run) (hlen : body.length = 1)
    (hf : s.configuredFurnace (field body 0 1) = some f) :
    holdRequest on body s = taken s (s.changeHold f fun h => { h with supv := on }) (holdBody f) := by
  rw [holdRequest, if_neg (not_not.mpr hlen), hf]
  exact if_neg (by rw [hmode]; decide)

theorem holdBody_settle (t : State) : holdBody f (settle s t) =
    u8 (furnaceNumber f) ++ (t.furnace f).hold.byte ++ u8 (t.furnace f).status.code := by
  rw [holdBody, settle_furnace]

/-- R153: a CONFIRM_FURNACE after its first checks. -/
theorem ruleConfirmFurnace_eq (hmode : s.mode = .run) (hlen : body.length = 1) (hf : s.configuredFurnace (field body 0 1) = some f) :
    ruleConfirmFurnace body s = if !s.confirmable f then refused s .state
      else taken s (s.updateFurnace f fun m => { m with doubt := false }) fun t =>
        u8 (furnaceNumber f) ++ u8 (t.furnace f).status.code ++ (t.furnace f).hold.byte := by
  rw [ruleConfirmFurnace, if_neg (by rw [hmode]; decide), if_neg (not_not.mpr hlen), hf]

/-- Settles O50: each request with its checks passed, and a furnace that may not be confirmed. -/
theorem holdsAndConfirmations : Obligations.HoldsAndConfirmations := by
  unfold Obligations.HoldsAndConfirmations
  intro s f body hs hmode hlen hf hold sure agrees
  have hconfirm := ruleConfirmFurnace_eq hmode hlen hf
  refine ⟨fun on => ?_, fun h => ?_, fun h => ?_, ?_⟩
  · have hrule := holdRequest_taken on hmode hlen hf
    cases on with
    | true => exact request_taken (rule := ruleHoldSet body) hs rfl hrule (holdBody_settle _)
    | false => exact request_taken (rule := ruleHoldRelease body) hs rfl hrule (holdBody_settle _)
  · have hhold : (sure.furnace f).hold = (s.furnace f).hold := by
      rw [show sure.furnace f = _ from State.updateFurnace_furnace .., if_pos rfl]
    have hbody : u8 (furnaceNumber f) ++ u8 ((settle s sure).furnace f).status.code ++ ((settle s sure).furnace f).hold.byte =
        u8 (furnaceNumber f) ++ u8 (sure.furnace f).status.code ++ (s.furnace f).hold.byte := by
      rw [settle_furnace, hhold]
    exact request_taken (rule := ruleConfirmFurnace body) hs rfl
      (hconfirm.trans (if_neg (by rw [confirmable_iff.mpr h]; decide))) hbody
  · exact request_refused (rule := ruleConfirmFurnace body) hs rfl
      (hconfirm.trans (if_pos (by rw [Bool.eq_false_iff.mpr (mt confirmable_iff.mp h)]; rfl)))
  · have hrule : ruleConfirmLane [] s = taken s { s with laneDoubt := false } fun t =>
        u8 t.lane.length ++ u8 t.headRow.code ++ u8 t.creditsFree := by
      rw [ruleConfirmLane, if_neg (by rw [hmode]; decide)]
      exact if_neg (by simp)
    refine request_taken (rule := ruleConfirmLane []) hs rfl hrule ?_
    rw [settle_lane, settle_headRow, settle_creditsFree]
    rfl

end Confirmations

end Sys2Proof.Proofs

/-!
PROOFS. The head row, and the begin of a charge (O53).
-/

namespace Sys2Proof.Proofs

open Sys2Proof Sys2Proof.Machine

variable {s : State} {f : Furnace} {body : List Byte}

/-! ### The head row (R58) -/

section HeadRow

theorem headRow_eq_empty_iff : s.headRow = .empty ↔ s.lane = [] := by
  rw [State.headRow]
  cases s.lane with
  | nil => simp
  | cons a rest =>
    refine ⟨fun h => ?_, nofun⟩
    dsimp only at h
    split at h
    · split at h
      · split at h <;> cases h
      · cases h
    · cases h

theorem headRow_of_lane {a : SlabId} {rest : List SlabId} (hlane : s.lane = a :: rest) :
    s.headFurnace = (s.slab? a).map (fun r => r.destination) ∧ (s.partner? a = none → s.headRow = .single a) ∧
    ∀ b, s.partner? a = some ⟨b, .first⟩ →
      (rest.head? = some b → s.headRow = .pair a b) ∧ (rest.head? ≠ some b → s.headRow = .incomplete a) := by
  refine ⟨?_, fun hpartner => ?_, fun b hpartner => ⟨fun hnext => ?_, fun hnext => ?_⟩⟩
  · rw [State.headFurnace, hlane]
  · rw [State.headRow, hlane]
    dsimp only
    rw [hpartner]
  · rw [State.headRow, hlane]
    dsimp only
    rw [hpartner]
    exact (if_pos rfl).trans (if_pos hnext)
  · rw [State.headRow, hlane]
    dsimp only
    rw [hpartner]
    exact (if_pos rfl).trans (if_neg hnext)

end HeadRow

/-! ### The checks of a charge (R129, R132) -/

section Checks

/-- R129: what a check that fails answers to an ask. -/
theorem ruleChargeAsk_error {w : Response} (h : s.chargeChecks f = .error w) : ruleChargeAsk [] f s = (s, w) := by
  rw [ruleChargeAsk, if_neg (by simp), h]

/-- R132: what a check that fails answers to a begin whose body is in range. -/
theorem ruleChargeBegin_error {w : Response} (hpass : (body.length ≠ 8 || !validSlabId (field body 0 4) || field body 4 4 == Config.allOnes) = false)
    (h : s.chargeChecks f = .error w) : ruleChargeBegin body f s = (s, w) := by
  rw [ruleChargeBegin, hpass, if_neg (by decide), h]

/-- R129, checks 1 to 4: the furnace is OPEN and IDLE, the lane is not in doubt, and a row stands at its head. -/
structure MayCharge (s : State) (f : Furnace) : Prop where
  opened : (s.furnace f).status = .opened
  laneSure : s.laneDoubt = false
  idle : (s.furnace f).op.isCharging = false
  row : s.headRow ≠ .empty

theorem chargeChecks_elsewhere {g : Furnace} (h : MayCharge s f) (hhead : s.headFurnace = some g) (hg : g ≠ f) :
    s.chargeChecks f = .error (.wait .headElsewhere (u8 (furnaceNumber g))) := by
  have helsewhere : s.headElsewhere f = some g := by rw [State.headElsewhere, hhead]; exact if_neg hg
  rw [State.chargeChecks, if_neg (by rw [h.opened]; decide), if_neg (by rw [h.opened]; decide), if_neg (by rw [h.laneSure]; decide),
    if_neg (by rw [h.idle]; decide), if_neg h.row, helsewhere]

theorem headElsewhere_none (hhead : s.headFurnace = some f) : s.headElsewhere f = none := by
  rw [State.headElsewhere, hhead]
  exact if_pos rfl

theorem chargeChecks_incomplete (h : MayCharge s f) (hhead : s.headFurnace = some f) (hplan : s.headPlan f = none) :
    s.chargeChecks f = .error (.wait .pairIncomplete []) := by
  rw [State.chargeChecks, if_neg (by rw [h.opened]; decide), if_neg (by rw [h.opened]; decide), if_neg (by rw [h.laneSure]; decide),
    if_neg (by rw [h.idle]; decide), if_neg h.row, headElsewhere_none hhead, hplan]

theorem chargeChecks_plan {q : Plan} (h : MayCharge s f) (hhead : s.headFurnace = some f) (hplan : s.headPlan f = some q) :
    s.chargeChecks f = .ok q := by
  rw [State.chargeChecks, if_neg (by rw [h.opened]; decide), if_neg (by rw [h.opened]; decide), if_neg (by rw [h.laneSure]; decide),
    if_neg (by rw [h.idle]; decide), if_neg h.row, headElsewhere_none hhead, hplan]

end Checks

/-! ### The plan (R102, R176) -/

section Plans

variable {a : SlabId} {b : Option SlabId}

/-- R102: the plan of a row of which the width and the soak target are known. -/
theorem planFor_eq {records : List SlabRecord} (h : s.rowRecords a b = records) :
    s.planFor f a b = ⟨a, b, (s.furnaceParams f).walkCount (s.furnace f).rows (rowWidth records), rowWidth records,
      (s.furnaceParams f).soakTarget records, (s.furnaceParams f).walksAvailable (s.furnace f).rows,
      (s.furnaceParams f).fit (s.furnace f).rows (rowWidth records)
        ((s.furnaceParams f).walkCount (s.furnace f).rows (rowWidth records))⟩ := by
  subst h; rfl

theorem rowRecords_single {r : SlabRecord} (h : s.slab? a = some r) : s.rowRecords a none = [r] := by
  simp [State.rowRecords, h]

theorem rowRecords_pair {c : SlabId} {r o : SlabRecord} (hr : s.slab? a = some r) (ho : s.slab? c = some o) :
    s.rowRecords a (some c) = [r, o] := by
  simp [State.rowRecords, hr, ho]

theorem rowWidth_single (r : SlabRecord) : rowWidth [r] = r.width := greatest_one _

theorem rowWidth_pair (r o : SlabRecord) : rowWidth [r, o] = max r.width o.width := greatest_two _ _

theorem plan_bytes (q : Plan) : q.bytes = u32 q.slabA ++ u32 (q.slabB.getD 0) ++ [if q.slabB = none then 0x00 else 0x01] ++
    u8 q.walks ++ u16 q.width ++ u16 q.soakTarget ++ u8 q.walksAvailable := by
  rw [Plan.bytes]
  cases q.slabB <;> rfl

theorem headPlan_of_row (h : (s.headRow = .single a ∧ b = none) ∨ ∃ c, s.headRow = .pair a c ∧ b = some c) :
    s.headPlan f = some (s.planFor f a b) := by
  obtain ⟨hrow, rfl⟩ | ⟨c, hrow, rfl⟩ := h
  · rw [State.headPlan, hrow]
  · rw [State.headPlan, hrow]

theorem names_iff (q : Plan) (x y : Nat) : q.names x y = true ↔ x = q.slabA ∧ y = q.slabB.getD 0 := by
  rw [Plan.names, Bool.and_eq_true, beq_iff_eq, beq_iff_eq]
  exact and_congr eq_comm eq_comm

theorem fitWait_eq (q : Plan) : (q.fit = .fits → q.fitWait = none) ∧ (q.fit = .fullRows → q.fitWait = some (.wait .fullRows [])) ∧
    (q.fit = .fullLength → q.fitWait = some (.wait .fullLength (u8 q.walksAvailable))) := by
  refine ⟨fun h => ?_, fun h => ?_, fun h => ?_⟩ <;> rw [Plan.fitWait, h]

end Plans

/-! ### CHARGE_ASK and CHARGE_BEGIN with the checks passed -/

section Begins

variable {q : Plan}

theorem ruleChargeAsk_wait {w : Response} (h : s.chargeChecks f = .ok q) (hfit : q.fitWait = some w) : ruleChargeAsk [] f s = (s, w) := by
  rw [ruleChargeAsk, if_neg (by simp), h]
  dsimp only
  rw [hfit]

theorem ruleChargeAsk_done (h : s.chargeChecks f = .ok q) (hfit : q.fitWait = none) : ruleChargeAsk [] f s = (s, .done q.bytes) := by
  rw [ruleChargeAsk, if_neg (by simp), h]
  dsimp only
  rw [hfit]

variable (hpass : (body.length ≠ 8 || !validSlabId (field body 0 4) || field body 4 4 == Config.allOnes) = false)
  (h : s.chargeChecks f = .ok q)

include hpass h

theorem ruleChargeBegin_mismatch (hnames : q.names (field body 0 4) (field body 4 4) = false) :
    ruleChargeBegin body f s = refused s .mismatch := by
  rw [ruleChargeBegin, hpass, if_neg (by decide), h]
  dsimp only
  rw [hnames]
  rfl

variable (hnames : q.names (field body 0 4) (field body 4 4) = true)

include hnames

theorem ruleChargeBegin_wait {w : Response} (hfit : q.fitWait = some w) : ruleChargeBegin body f s = (s, w) := by
  rw [ruleChargeBegin, hpass, if_neg (by decide), h]
  dsimp only
  rw [hnames, if_neg (by decide), hfit]

theorem ruleChargeBegin_walks (hfit : q.fitWait = none) (hwalks : q.walks ≠ 0) :
    ruleChargeBegin body f s = waits s .walksNeeded (u8 q.walks) := by
  rw [ruleChargeBegin, hpass, if_neg (by decide), h]
  dsimp only
  rw [hnames, if_neg (by decide), hfit]
  exact if_pos hwalks

theorem ruleChargeBegin_taken (hfit : q.fitWait = none) (hwalks : q.walks = 0) :
    ruleChargeBegin body f s = taken s (s.beginCharge f q) fun _ => q.bytes ++ u16 s.params.chargePeriod := by
  rw [ruleChargeBegin, hpass, if_neg (by decide), h]
  dsimp only
  rw [hnames, if_neg (by decide), hfit]
  exact if_neg (not_not.mpr hwalks)

end Begins

/-- R133: the state in which the head row is at the entry. -/
def begun (s : State) (f : Furnace) (a : SlabId) (b : Option SlabId) (width soak : Nat) : State :=
  State.updateFurnace ((slabsWithSides a b).foldl (fun (u : State) x => u.setPlace x.1 (.atEntry f x.2))
    { s with lane := s.lane.drop (slabsWithSides a b).length }) f fun m =>
      { m with op := .charging a b width soak, chargeTimer := some (10 * s.params.chargePeriod) }

theorem beginCharge_eq (q : Plan) : s.beginCharge f q = begun s f q.slabA q.slabB q.width q.soakTarget := rfl

/-- R131 to R133: the answers of both requests to a plan. -/
theorem charge_of_plan {q : Plan} (hs : s.serves (furnacePort f))
    (hpass : (body.length ≠ 8 || !validSlabId (field body 0 4) || field body 4 4 == Config.allOnes) = false)
    (hchecks : s.chargeChecks f = .ok q) :
    let p := furnacePort f
    (q.fit = .fits → exec (.chargeAsk p []) s = .next (s.done p q.bytes)) ∧
    (q.fit = .fullRows → exec (.chargeAsk p []) s = .next (s.respond p (.wait .fullRows []))) ∧
    (q.fit = .fullLength → exec (.chargeAsk p []) s = .next (s.respond p (.wait .fullLength (u8 q.walksAvailable)))) ∧
    (field body 0 4 ≠ q.slabA ∨ field body 4 4 ≠ q.slabB.getD 0 →
      exec (.chargeBegin p body) s = .next (s.respond p (.refuse .mismatch []))) ∧
    (field body 0 4 = q.slabA → field body 4 4 = q.slabB.getD 0 →
      (q.fit = .fullRows → exec (.chargeBegin p body) s = .next (s.respond p (.wait .fullRows []))) ∧
      (q.fit = .fullLength → exec (.chargeBegin p body) s = .next (s.respond p (.wait .fullLength (u8 q.walksAvailable)))) ∧
      (q.fit = .fits → q.walks ≠ 0 → exec (.chargeBegin p body) s = .next (s.respond p (.wait .walksNeeded (u8 q.walks)))) ∧
      (q.fit = .fits → q.walks = 0 → exec (.chargeBegin p body) s = .next (State.done
        (settle s (begun s f q.slabA q.slabB q.width q.soakTarget)) p (q.bytes ++ u16 s.params.chargePeriod)))) := by
  intro p
  obtain ⟨hfits, hrows, hlength⟩ := fitWait_eq q
  refine ⟨fun hfit => ?_, fun hfit => ?_, fun hfit => ?_, fun hother => ?_, fun ha hb => ?_⟩
  · exact furnaceRequest_answer (rule := ruleChargeAsk []) hs rfl (ruleChargeAsk_done hchecks (hfits hfit))
  · exact furnaceRequest_answer (rule := ruleChargeAsk []) hs rfl (ruleChargeAsk_wait hchecks (hrows hfit))
  · exact furnaceRequest_answer (rule := ruleChargeAsk []) hs rfl (ruleChargeAsk_wait hchecks (hlength hfit))
  · have hnames : q.names (field body 0 4) (field body 4 4) = false := Bool.eq_false_iff.mpr fun h => by
      obtain ⟨hfirst, hsecond⟩ := (names_iff q _ _).mp h
      exact hother.elim (fun h => h hfirst) fun h => h hsecond
    exact furnaceRequest_refused (rule := ruleChargeBegin body) hs rfl (ruleChargeBegin_mismatch hpass hchecks hnames)
  · have hnames : q.names (field body 0 4) (field body 4 4) = true := (names_iff q _ _).mpr ⟨ha, hb⟩
    refine ⟨fun hfit => ?_, fun hfit => ?_, fun hfit hwalks => ?_, fun hfit hwalks => ?_⟩
    · exact furnaceRequest_answer (rule := ruleChargeBegin body) hs rfl (ruleChargeBegin_wait hpass hchecks hnames (hrows hfit))
    · exact furnaceRequest_answer (rule := ruleChargeBegin body) hs rfl (ruleChargeBegin_wait hpass hchecks hnames (hlength hfit))
    · exact furnaceRequest_waits (rule := ruleChargeBegin body) hs rfl (ruleChargeBegin_walks hpass hchecks hnames (hfits hfit) hwalks)
    · have hrule := ruleChargeBegin_taken hpass hchecks hnames (hfits hfit) hwalks
      rw [beginCharge_eq] at hrule
      exact furnaceRequest_taken (rule := ruleChargeBegin body) hs rfl hrule rfl

/-- Settles O53: the head row, then check by check, and the plan that both requests read. -/
theorem chargesBegin : Obligations.ChargesBegin := by
  unfold Obligations.ChargesBegin
  refine ⟨fun s => ⟨fun hlane => ⟨headRow_eq_empty_iff.mpr hlane, by rw [State.headFurnace, hlane]⟩,
    fun a rest hlane => headRow_of_lane hlane⟩, ?_⟩
  intro s f body hs hlen hvalid hb p both
  have hpass : (body.length ≠ 8 || !validSlabId (field body 0 4) || field body 4 4 == Config.allOnes) = false := by
    simp [hlen, hvalid, Config.allOnes, hb]
  have hboth {w : WaitReason} {detail : List Byte} (h : s.chargeChecks f = .error (.wait w detail)) : both w detail :=
    ⟨furnaceRequest_answer (rule := ruleChargeAsk []) hs rfl (ruleChargeAsk_error h),
      furnaceRequest_answer (rule := ruleChargeBegin body) hs rfl (ruleChargeBegin_error hpass h)⟩
  refine ⟨fun hstatus => hboth (if_pos hstatus), fun hstatus => hboth ?_, fun hstatus => ?_⟩
  · exact (if_neg (by rw [hstatus]; decide)).trans (if_pos hstatus)
  have hopen : s.chargeChecks f = _ := (if_neg (by rw [hstatus]; decide)).trans (if_neg (by rw [hstatus]; decide))
  refine ⟨fun hdoubt => hboth (hopen.trans (if_pos hdoubt)), fun hdoubt => ?_⟩
  replace hopen := hopen.trans (if_neg (by rw [hdoubt]; decide))
  refine ⟨fun hcharging => hboth (hopen.trans (if_pos hcharging)), fun hidle => ?_⟩
  replace hopen := hopen.trans (if_neg (by rw [hidle]; decide))
  have hmay (hrow : s.headRow ≠ .empty) : MayCharge s f := ⟨hstatus, hdoubt, hidle, hrow⟩
  refine ⟨fun hrow => hboth (hopen.trans (if_pos hrow)), fun g hrow hhead hg => hboth (chargeChecks_elsewhere (hmay hrow) hhead hg),
    fun a hrow hhead => hboth (chargeChecks_incomplete (hmay (by rw [hrow]; nofun)) hhead (by rw [State.headPlan, hrow])),
    fun a b hrow hhead => ?_⟩
  have hplan := headPlan_of_row (f := f) hrow
  have hchecks : s.chargeChecks f = .ok (s.planFor f a b) := chargeChecks_plan (hmay ?_) hhead hplan
  · intro plan fp rows carries
    refine ⟨fun ra ha hsingle => ?_, fun c ra rc ha hpair hc => ?_, plan_bytes plan, charge_of_plan hs hpass hchecks⟩
    · subst hsingle
      have h := planFor_eq (f := f) (rowRecords_single ha)
      rwa [rowWidth_single] at h
    · subst hpair
      have h := planFor_eq (f := f) (rowRecords_pair ha hc)
      rwa [rowWidth_pair] at h
  · obtain ⟨h, -⟩ | ⟨c, h, -⟩ := hrow <;> rw [h] <;> nofun

end Sys2Proof.Proofs

/-!
PROOFS. The soak check, and the end of a charge (O54).
-/

namespace Sys2Proof.Proofs

open Sys2Proof Sys2Proof.Machine

variable {s : State} {f : Furnace}

/-! ### The soak check (R117) -/

section SoakCheck

theorem markFront_eq {l : List Row} {x : Row} (h : l.getLast? = some x) :
    markFront l = l.dropLast ++ [{ x with soakNotified := true }] := by
  induction l with
  | nil => cases h
  | cons a l ih =>
    cases l with
    | nil => cases h; rfl
    | cons b l =>
      rw [List.getLast?_cons_cons] at h
      rw [markFront, ih h, List.dropLast_cons_cons, List.cons_append]

theorem updateFurnace_self (s : State) (f : Furnace) : (s.updateFurnace f fun m => m) = s := by cases f <;> rfl

theorem soakCheck_due {x : Row} (hfront : (s.furnace f).rows.getLast? = some x) (hsoaked : x.soakTarget ≤ x.residence)
    (hquiet : x.soakNotified = false) : s.soakCheck f =
      State.raiseFurnace (s.updateFurnace f fun m => { m with rows := m.rows.dropLast ++ [{ x with soakNotified := true }] }) f .soak := by
  have hdue : s.soakDue f = true := by rw [State.soakDue, hfront]; simp [hsoaked, hquiet]
  have hmap : (s.updateFurnace f fun m => { m with rows := markFront m.rows }) =
      s.updateFurnace f fun m => { m with rows := m.rows.dropLast ++ [{ x with soakNotified := true }] } := by
    have hrows : markFront (s.furnaces.get f).rows = (s.furnaces.get f).rows.dropLast ++ [{ x with soakNotified := true }] :=
      markFront_eq hfront
    rw [State.updateFurnace, State.updateFurnace, hrows]
  rw [State.soakCheck, hdue]
  exact congrArg (fun u => State.raiseFurnace u f .soak) hmap

theorem soakCheck_quiet (h : ∀ x, (s.furnace f).rows.getLast? = some x → x.residence < x.soakTarget ∨ x.soakNotified = true) :
    s.soakCheck f = s := by
  have hdue : s.soakDue f = false := by
    rw [State.soakDue]
    cases hfront : (s.furnace f).rows.getLast? with
    | none => rfl
    | some x =>
      obtain hlow | hnotified := h x hfront
      · simp [Nat.not_le_of_lt hlow]
      · simp [hnotified]
  rw [State.soakCheck, hdue, State.raiseWhen_false]
  exact updateFurnace_self s f

end SoakCheck

/-! ### The end of a charge (R134, R135) -/

section Ends

variable {a : SlabId} {b : Option SlabId} {width planned : Nat}

/-- R135: the state in which the slabs have left the entry and the row stands in the map. -/
def inserted (s : State) (f : Furnace) (a : SlabId) (b : Option SlabId) (row : Row) : State :=
  ((slabsWithSides a b).foldl (fun (u : State) x => u.setPlace x.1 (.inFurnace f x.2))
    (s.updateFurnace f fun m => { m with op := .idle false, chargeTimer := none })).updateFurnace
    f fun m => { m with rows := row :: m.rows }

theorem foldl_setPlace_furnaces {α : Type} (l : List α) (id : α → SlabId) (pl : α → Place) (u : State) :
    (l.foldl (fun (v : State) x => v.setPlace (id x) (pl x)) u).furnaces = u.furnaces := by
  induction l generalizing u with
  | nil => rfl
  | cons x l ih => exact (ih _).trans rfl

theorem inserted_rows (row : Row) : ((inserted s f a b row).furnace f).rows = row :: (s.furnace f).rows := by
  rw [inserted, State.updateFurnace_furnace, if_pos rfl]
  have hmap := congrArg (fun v => (ByFurnace.get v f).rows) (foldl_setPlace_furnaces (slabsWithSides a b) Prod.fst
    (fun x => Place.inFurnace f x.2) (s.updateFurnace f fun m => { m with op := .idle false, chargeTimer := none }))
  have hold : (ByFurnace.get (s.updateFurnace f fun m => { m with op := .idle false, chargeTimer := none }).furnaces f).rows =
      (s.furnace f).rows := by
    have hself := State.updateFurnace_furnace s f f fun m => { m with op := .idle false, chargeTimer := none }
    rw [if_pos rfl] at hself
    exact (congrArg FurnaceState.rows hself :)
  exact congrArg (row :: ·) (hmap.trans hold)

/-- R135: the state after a charge has ended, by the rows of the map before. -/
theorem endCharge_eq : s.endCharge f a b width =
    (if (s.furnace f).rows.isEmpty then (inserted s f a b (s.chargedRow f a b width)).soakCheck f
      else inserted s f a b (s.chargedRow f a b width)).entryOverlap f (s.chargedRow f a b width) (s.furnace f).rows.head? := rfl

theorem rowsOverlap_charged (older : Row) : rowsOverlap (s.chargedRow f a b width) older = decide (older.rear < width) := by
  rw [rowsOverlap, Row.far, State.chargedRow, Nat.zero_add]

theorem endCharge_empty (h : (s.furnace f).rows = []) :
    s.endCharge f a b width = (inserted s f a b (s.chargedRow f a b width)).soakCheck f := by
  rw [endCharge_eq, h]; rfl

theorem rows_not_empty {older : Row} (h : (s.furnace f).rows.head? = some older) : (s.furnace f).rows.isEmpty = false := by
  obtain ⟨rest, hrows⟩ : ∃ rest, (s.furnace f).rows = older :: rest := List.head?_eq_some_iff.mp h
  rw [hrows]; rfl

theorem endCharge_clear {older : Row} (h : (s.furnace f).rows.head? = some older) (hclear : width ≤ older.rear) :
    s.endCharge f a b width = inserted s f a b (s.chargedRow f a b width) := by
  rw [endCharge_eq, h, rows_not_empty h, State.entryOverlap, rowsOverlap_charged, if_neg (by simpa using hclear)]
  rfl

theorem endCharge_overlap {older : Row} (h : (s.furnace f).rows.head? = some older) (hover : older.rear < width) :
    s.endCharge f a b width = (inserted s f a b (s.chargedRow f a b width)).doubtFurnace f .overlap (some older.slabA)
      (some (furnacePort f)) := by
  rw [endCharge_eq, h, rows_not_empty h, State.entryOverlap, rowsOverlap_charged, if_pos (by simpa using hover)]
  rfl

/-- R135: the answer of CHARGE_END, from a state in which the row stands in the map. -/
theorem chargeEndBody_settle {t : State} (row : Row) (hrows : (t.furnace f).rows.length = (s.furnace f).rows.length + 1) :
    chargeEndBody f row planned (settle s t) = rowSlabs row.slabA row.slabB ++ u16 row.soakTarget ++ u16 planned ++
      u8 ((s.furnace f).rows.length + 1) ++ u8 t.creditsFree ++ u8 (t.furnace f).status.code := by
  rw [chargeEndBody, settle_furnace, settle_creditsFree, hrows]

end Ends

/-! ### Ends and aborts found IDLE (R134, R136) -/

section Idle

variable {timedOut : Bool}

theorem rules_idle (h : (s.furnace f).op = .idle timedOut) : ruleChargeEnd [] f s = lateEnd f timedOut s ∧
    ruleChargeAbort [0x00] f s = lateEnd f timedOut s ∧ ruleChargeAbort [0x01] f s = lateEnd f timedOut s := by
  refine ⟨?_, ?_, ?_⟩
  · rw [ruleChargeEnd, if_neg (by simp), h]
  · have hreturned : ruleChargeAbort [0x00] f s = abortReturned f s := rfl
    rw [hreturned, abortReturned, h]
  · have hstuck : ruleChargeAbort [0x01] f s = abortStuck f s := rfl
    rw [hstuck, abortStuck, h]

/-- R134, R136: a request that finds the record IDLE. -/
theorem exec_idle (hs : s.serves (furnacePort f)) (h : (s.furnace f).op = .idle timedOut) {c : Instr}
    (hc : c ∈ [Instr.chargeEnd (furnacePort f) [], .chargeAbortReturned (furnacePort f) [], .chargeAbortStuck (furnacePort f) []]) :
    exec c s = .next ((lateEnd f timedOut s).1.respond (furnacePort f) (lateEnd f timedOut s).2) := by
  obtain ⟨hend, hreturned, hstuck⟩ := rules_idle h
  simp only [List.mem_cons, List.not_mem_nil, or_false] at hc
  obtain rfl | rfl | rfl := hc
  · exact furnaceRequest_answer (rule := ruleChargeEnd []) hs rfl hend
  · exact furnaceRequest_answer (rule := ruleChargeAbort [0x00]) hs rfl hreturned
  · exact furnaceRequest_answer (rule := ruleChargeAbort [0x01]) hs rfl hstuck

end Idle

section Returned

variable {a : SlabId} {b : Option SlabId} {width planned : Nat}

theorem foldl_setPlace_lane {α : Type} (l : List α) (id : α → SlabId) (pl : α → Place) (u : State) :
    (l.foldl (fun (v : State) x => v.setPlace (id x) (pl x)) u).lane = u.lane := by
  induction l generalizing u with
  | nil => rfl
  | cons x l ih => exact (ih _).trans rfl

/-- R136: the state and the answer of a charge that is returned. -/
theorem ruleChargeAbort_returned (h : (s.furnace f).op = .charging a b width planned) : ruleChargeAbort [0x00] f s =
    ((a :: b.toList).foldl (fun (u : State) id => u.setPlace id .onLane)
      { s.updateFurnace f fun m => { m with op := .idle false, chargeTimer := none } with lane := a :: b.toList ++ s.lane },
      .done ([0x00] ++ idList (a :: b.toList) ++ u8 (s.lane.length + (a :: b.toList).length))) := by
  have hlane : (s.returnCharge f a b).lane = a :: b.toList ++ s.lane := foldl_setPlace_lane (a :: b.toList) id (fun _ => .onLane) _
  have hreturned : ruleChargeAbort [0x00] f s = abortReturned f s := rfl
  rw [hreturned, abortReturned, h]
  dsimp only
  rw [hlane, List.length_append, Nat.add_comm (a :: b.toList).length]
  rfl

end Returned

/-- Settles O54: the soak check, a record found IDLE, and the end of a charge by the rows of its map. -/
theorem chargesEnd : Obligations.ChargesEnd := by
  unfold Obligations.ChargesEnd
  refine ⟨fun s f => ⟨fun x hfront hsoaked hquiet => soakCheck_due hfront hsoaked hquiet, fun h => soakCheck_quiet h⟩, ?_⟩
  intro s f hs p idle
  refine ⟨fun c hc => ⟨fun h => exec_idle hs h hc, fun h => exec_idle hs h hc⟩, fun a b width planned h => ?_⟩
  intro row inside ended
  have hrule : ruleChargeEnd [] f s = taken s (s.endCharge f a b width) (chargeEndBody f row planned) := by
    rw [ruleChargeEnd, if_neg (by simp), h]
    rfl
  have hended (t : State) (ht : s.endCharge f a b width = t) (hrows : (t.furnace f).rows.length = (s.furnace f).rows.length + 1) :
      ended t := by
    rw [ht] at hrule
    exact furnaceRequest_taken (rule := ruleChargeEnd []) hs rfl hrule (chargeEndBody_settle row hrows)
  have hinside : (inside.furnace f).rows.length = (s.furnace f).rows.length + 1 := congrArg List.length (inserted_rows row)
  refine ⟨fun hempty => hended _ (endCharge_empty hempty) ?_, fun older hhead hclear => hended _ (endCharge_clear hhead hclear) hinside,
    fun older hhead hover => hended _ (endCharge_overlap hhead hover) ?_, ?_⟩
  · rw [soakCheck_furnace, if_pos rfl]
    dsimp only
    rw [soakedRows]
    split
    · rw [markFront_length]; exact hinside
    · exact hinside
  · rw [doubtFurnace_furnace, if_pos rfl]
    exact hinside
  · exact furnaceRequest_answer (rule := ruleChargeAbort [0x00]) hs rfl (ruleChargeAbort_returned h)

end Sys2Proof.Proofs

/-!
PROOFS. The requests of a fault bank (O58), and the outcomes of SLAB_RESOLVE that leave the furnaces alone (O55).
-/

namespace Sys2Proof.Proofs

open Sys2Proof Sys2Proof.Machine

variable {s : State}

/-! ### Fault banks (R157 to R160) -/

section Banks

variable {body : List Byte} {b : BankId}

theorem ruleFaultClear_done (hlen : body.length = 1) (hb : bankOfNumber (field body 0 1) = some b) :
    ruleFaultClear body s = (s.updateBank b Bank.cleared, .done ((s.banks.get b).bytes b.number)) := by
  rw [ruleFaultClear, namedBank, if_pos hlen, hb]

theorem ruleThresholdSet_done {start setting : Nat} (hlen : body.length = 4) (hb : bankOfNumber (field body 0 1) = some b)
    (hstart : field body 1 2 = start) (hsetting : field body 3 1 = setting) (hstart' : start ≤ 4095) (hsetting' : setting ≤ 1) :
    ruleThresholdSet body s = (s.updateBank b fun x => { x with counter := start, counting := decide (setting = 1), thresholdFlag := false },
      .done (u8 b.number ++ u16 start ++ u8 setting)) := by
  subst hstart hsetting
  have hpass : (body.length ≠ 4 || decide (Config.maxCounter < field body 1 2) || decide (1 < field body 3 1)) = false := by
    have hcount : ¬Config.maxCounter < field body 1 2 := Nat.not_lt_of_le hstart'
    simp [hlen, hcount, hsetting']
  rw [ruleThresholdSet, hpass, if_neg (by decide), hb]
  rfl

theorem ruleThresholdSet_range (h : 4095 < field body 1 2 ∨ 1 < field body 3 1) : ruleThresholdSet body s = refused s .range := by
  refine if_pos ?_
  rw [Bool.or_eq_true, Bool.or_eq_true, decide_eq_true_iff, decide_eq_true_iff, decide_eq_true_iff, or_assoc]
  exact .inr h

theorem ruleAdvisoryEnable_done {setting : Nat} (hlen : body.length = 2) (hb : bankOfNumber (field body 0 1) = some b)
    (hsetting : field body 1 1 = setting) (hsetting' : setting ≤ 1) : ruleAdvisoryEnable body s =
      (s.updateBank b fun x => { x with advisoryEnable := decide (setting = 1) }, .done (u8 b.number ++ u8 setting)) := by
  subst hsetting
  have hpass : (body.length ≠ 2 || decide (1 < field body 1 1)) = false := by simpa [hlen] using hsetting'
  rw [ruleAdvisoryEnable, hpass, if_neg (by decide), hb]
  rfl

theorem ruleAdvisoryEnable_range (h : 1 < field body 1 1) : ruleAdvisoryEnable body s = refused s .range := by
  refine if_pos ?_
  rw [Bool.or_eq_true, decide_eq_true_iff, decide_eq_true_iff]
  exact .inr h

/-- Settles O58: each request of the bank that it names. -/
theorem bankRequests : Obligations.BankRequests := by
  unfold Obligations.BankRequests
  intro s body b hs hb held fault
  refine ⟨fun hlen => ?_, fun start setting hlen hstart hsetting => ⟨fun hstart' hsetting' => ?_, fun h => ?_⟩,
    fun setting hlen hsetting => ⟨fun hsetting' => ?_, fun h => ?_⟩⟩
  · have hfault : fault = faultFields held.record := fault_bytes held
    rw [hfault]
    exact request_done (rule := ruleFaultClear body) hs rfl (ruleFaultClear_done hlen hb)
  · exact request_done (rule := ruleThresholdSet body) hs rfl (ruleThresholdSet_done hlen hb hstart hsetting hstart' hsetting')
  · exact request_refused (rule := ruleThresholdSet body) hs rfl (ruleThresholdSet_range (by rw [hstart, hsetting]; exact h))
  · exact request_done (rule := ruleAdvisoryEnable body) hs rfl (ruleAdvisoryEnable_done hlen hb hsetting hsetting')
  · exact request_refused (rule := ruleAdvisoryEnable body) hs rfl (ruleAdvisoryEnable_range (by rw [hsetting]; exact h))

end Banks

/-! ### Doubt and the end of a record (R6, R16, R17, R142) -/

section Records

variable {id : SlabId} {r : SlabRecord}

theorem place_of_singled {t : State} {moved : SlabId → Option Place} (h : Singled moved s t) {x : SlabId} {o o' : SlabRecord}
    (ho : s.slab? x = some o) (ho' : t.slab? x = some o') : o'.place = (moved x).getD o.place := by
  have hplace := h.place x
  rw [place?_of_slab? ho, place?_of_slab? ho'] at hplace
  exact Option.some.inj hplace

theorem makeDoubtful_records (hr : s.slab? id = some r) (last : LastKnown) :
    let t := s.makeDoubtful id last
    t = { s with register := t.register, doubtList := s.doubtList ++ [id] } ∧
    (∃ r', t.slab? id = some r' ∧ r.becomesSingle r' ∧ r'.place = .doubtful last) ∧
    ∀ x o, x ≠ id → s.slab? x = some o →
      ((∃ q, o.partner = some q ∧ q.id = id) → ∃ o', t.slab? x = some o' ∧ o.becomesSingle o' ∧ o'.place = o.place) ∧
      ((∀ q, o.partner = some q → q.id ≠ id) → t.slab? x = some o) := by
  intro t
  have hsingled := singled_makeDoubtful s id last
  refine ⟨rfl, ?_, fun x o hx ho => ⟨fun ⟨q, hq, hqid⟩ => ?_, fun hout => hsingled.same ho (if_neg hx) fun q hq => if_neg (hout q hq)⟩⟩
  · obtain ⟨r', hr', hsingle⟩ := hsingled.becomesSingle hr (.inl (by rw [if_pos rfl]; rfl))
    exact ⟨r', hr', hsingle, (place_of_singled hsingled hr hr').trans (by rw [if_pos rfl]; rfl)⟩
  · obtain ⟨o', ho', hsingle⟩ := hsingled.becomesSingle ho (.inr ⟨q, hq, by rw [if_pos hqid]; rfl⟩)
    exact ⟨o', ho', hsingle, (place_of_singled hsingled ho ho').trans (by rw [if_neg hx]; rfl)⟩

theorem forget_eq (o : SlabRecord) (id : SlabId) : o.forget id =
    { o with partner := o.partner.filter fun q => q.id != id, parted := o.parted.filter fun d => d != id } := by
  have hpartner : (if o.paired id = true then none else o.partner) = o.partner.filter fun q => q.id != id := by
    rw [SlabRecord.paired]
    cases o.partner with
    | none => rfl
    | some q => by_cases hq : q.id = id <;> simp [hq, Option.filter]
  rw [SlabRecord.forget, hpartner]

theorem freeSlab_records (s : State) (id : SlabId) :
    let t := s.freeSlab id
    t = { s with register := t.register, doubtList := s.doubtList.filter fun d => d != id } ∧
    (t.register.map fun o => o.id) = (s.register.map fun o => o.id).filter (fun x => x != id) ∧
    ∀ x, x ≠ id → t.slab? x = (s.slab? x).map fun o =>
      { o with partner := o.partner.filter fun q => q.id != id, parted := o.parted.filter fun d => d != id } := by
  intro t
  refine ⟨rfl, ?_, fun x hx => ?_⟩
  · rw [List.filter_map]
    exact List.map_map
  · rw [show t.slab? x = _ from State.freeSlab_slab? s id x, if_neg hx]
    exact congrArg (fun g => (s.slab? x).map g) (funext fun o => forget_eq o id)

end Records

/-! ### SLAB_RESOLVE (R145 to R147) -/

section Resolves

variable {slab : Word32} {outcome : Byte} {extra : List Byte}

theorem field_resolveBody_slab : field (resolveBody slab outcome extra) 0 4 = slab.toNat :=
  (rfl : field (resolveBody slab outcome extra) 0 4 = beNat (u32 slab.toNat)).trans (beNat_u32 slab.isLt)

theorem field_resolveBody_outcome : field (resolveBody slab outcome extra) 4 1 = outcome.toNat := field_byte_of_drop rfl

/-- R145: the first checks of an outcome that carries nothing more. -/
theorem resolveInRange_short (hvalid : validSlabId slab.toNat = true) (houtcome : outcome.toNat ≤ 2) :
    resolveInRange (resolveBody slab outcome []) = true := by
  have hlen : (resolveBody slab outcome []).length = 5 := rfl
  rw [resolveInRange, field_resolveBody_outcome, field_resolveBody_slab, hvalid, hlen, if_neg (by omega),
    decide_eq_true (show outcome.toNat ≤ 3 by omega)]
  rfl

variable (hmode : s.mode = .run) (hrange : resolveInRange (resolveBody slab outcome extra) = true)

include hmode hrange

theorem ruleSlabResolve_unknown (hlive : s.place? slab.toNat = none) :
    ruleSlabResolve (resolveBody slab outcome extra) s = refused s .unknownSlab := by
  rw [ruleSlabResolve, if_neg (by rw [hmode]; decide), hrange, if_neg (by decide), field_resolveBody_slab, hlive]

theorem ruleSlabResolve_state {pl : Place} (hplace : s.place? slab.toNat = some pl) (hdoubtful : pl.isDoubtful = false) :
    ruleSlabResolve (resolveBody slab outcome extra) s = refused s .state := by
  rw [ruleSlabResolve, if_neg (by rw [hmode]; decide), hrange, if_neg (by decide), field_resolveBody_slab, hplace]
  exact if_pos (by rw [hdoubtful]; rfl)

/-- R145: the outcome of a slab that is DOUBTFUL. -/
theorem ruleSlabResolve_outcome {last : LastKnown} (hplace : s.place? slab.toNat = some (.doubtful last)) :
    (outcome = 0 → ruleSlabResolve (resolveBody slab outcome extra) s = resolveRequeue slab.toNat s) ∧
    (outcome = 1 → ruleSlabResolve (resolveBody slab outcome extra) s = resolveToLaneTail slab.toNat s) ∧
    (outcome = 2 → ruleSlabResolve (resolveBody slab outcome extra) s = resolveRemove slab.toNat s) ∧
    (outcome = 3 → ruleSlabResolve (resolveBody slab outcome extra) s =
      resolvePlace (resolveBody slab outcome extra) slab.toNat s) := by
  refine ⟨fun h => ?_, fun h => ?_, fun h => ?_, fun h => ?_⟩ <;>
  · rw [ruleSlabResolve, if_neg (by rw [hmode]; decide), hrange, if_neg (by decide), field_resolveBody_slab, hplace,
      field_resolveBody_outcome, h]
    rfl

end Resolves

section Outcomes

variable {slab : Word32}

/-- R146: what a requeue does. -/
theorem resolveRequeue_taken {id : SlabId} (hroom : s.sequence.length < 64) : resolveRequeue id s =
    taken s (s.requeue id) fun t => u32 id ++ u8 0 ++ u8 s.fixedSpan ++ u8 t.sequence.length := if_neg (not_sequence_full hroom)

theorem requeueBody_settle (id : SlabId) : u32 id ++ u8 0 ++ u8 s.fixedSpan ++ u8 (settle s (s.requeue id)).sequence.length =
    u32 id ++ [0x00] ++ u8 s.fixedSpan ++ u8 (s.sequence.length + 1) := by
  have hcount : (s.requeue id).sequence.length = s.sequence.length + 1 := by
    rw [State.requeue_eq]
    simp only [List.length_append, List.length_take, List.length_cons, List.length_drop]
    omega
  rw [settle_sequence, hcount]
  rfl

/-- R147: the answer of a slab that joins the lane. -/
theorem laneTailBody_settle {id : SlabId} (hnot : id ∉ s.lane) :
    let t := (s.resolveTo id .onLane).joinLaneTail id
    u32 id ++ u8 1 ++ u8 ((settle s t).lane.idxOf id + 1) ++ u8 (settle s t).creditsFree ++ u8 (settle s t).headRow.code =
      u32 id ++ [0x01] ++ u8 (s.lane.length + 1) ++ u8 t.creditsFree ++ u8 t.headRow.code := by
  intro t
  have hindex : t.lane.idxOf id = s.lane.length := by
    rw [show t.lane = s.lane ++ [id] from State.joinLaneTail_lane .., List.idxOf_append_of_notMem hnot, List.idxOf_cons_self, Nat.add_zero]
  rw [settle_lane, settle_creditsFree, settle_headRow, hindex]
  rfl

theorem removeBody_settle (id : SlabId) (t : State) :
    removeBody id (settle s t) = u32 id ++ [0x02] ++ u16 t.register.length ++ u16 t.doubtList.length := by
  rw [removeBody, State.liveCount, State.doubtfulCount, settle_register, settle_doubtList]
  rfl

/-- Settles O55: the records that these operations leave, and each outcome with its checks. -/
theorem doubtIsResolved : Obligations.DoubtIsResolved := by
  unfold Obligations.DoubtIsResolved
  refine ⟨fun s id r hr => ⟨fun last => makeDoubtful_records hr last, freeSlab_records s id, fun pl => rfl⟩, ?_⟩
  intro s slab hs hmode hvalid id answer resolved
  have hrange (outcome : Byte) (h : outcome.toNat ≤ 2) := resolveInRange_short (outcome := outcome) hvalid h
  refine ⟨fun c hc => ?_, fun last hplace => ?_⟩
  · obtain ⟨outcome, houtcome, hexec⟩ : ∃ outcome : Byte, outcome.toNat ≤ 2 ∧
        ∀ v, exec c v = request .p0 .slabResolve (ruleSlabResolve (resolveBody slab outcome [])) v := by
      simp only [List.mem_cons, List.not_mem_nil, or_false] at hc
      obtain rfl | rfl | rfl := hc
      · exact ⟨0, by decide, fun _ => rfl⟩
      · exact ⟨1, by decide, fun _ => rfl⟩
      · exact ⟨2, by decide, fun _ => rfl⟩
    refine ⟨fun hlive => ?_, fun pl hplace hdoubtful => ?_⟩
    · have hplace : s.place? slab.toNat = none := by
        rw [State.place?, Option.map_eq_none_iff]
        exact Option.isSome_eq_false_iff.mp hlive |> Option.isNone_iff_eq_none.mp
      exact (hexec s).trans (request_refused hs rfl (ruleSlabResolve_unknown hmode (hrange outcome houtcome) hplace))
    · exact (hexec s).trans (request_refused hs rfl (ruleSlabResolve_state hmode (hrange outcome houtcome) hplace hdoubtful))
  · have hrequeue := (ruleSlabResolve_outcome hmode (hrange 0 (by decide)) hplace).1 rfl
    have htail := (ruleSlabResolve_outcome hmode (hrange 1 (by decide)) hplace).2.1 rfl
    have hremove := (ruleSlabResolve_outcome hmode (hrange 2 (by decide)) hplace).2.2.1 rfl
    refine ⟨fun hfull => ?_, fun hroom => ?_, fun hcredits => ?_, fun hcredits hnot => ?_, ?_⟩
    · exact request_refused (rule := ruleSlabResolve (resolveBody slab 0 [])) hs rfl (hrequeue.trans (if_pos hfull))
    · have hrule := hrequeue.trans (resolveRequeue_taken hroom)
      exact request_taken (rule := ruleSlabResolve (resolveBody slab 0 [])) hs rfl hrule (requeueBody_settle id)
    · exact request_refused (rule := ruleSlabResolve (resolveBody slab 1 [])) hs rfl (htail.trans (if_pos hcredits))
    · have hrule : ruleSlabResolve (resolveBody slab 1 []) s = taken s ((s.resolveTo slab.toNat .onLane).joinLaneTail slab.toNat) fun t =>
          u32 slab.toNat ++ u8 1 ++ u8 (t.lane.idxOf slab.toNat + 1) ++ u8 t.creditsFree ++ u8 t.headRow.code :=
        htail.trans (if_neg hcredits)
      exact request_taken (rule := ruleSlabResolve (resolveBody slab 1 [])) hs rfl hrule (laneTailBody_settle hnot)
    · exact request_taken (rule := ruleSlabResolve (resolveBody slab 2 [])) hs rfl hremove (removeBody_settle slab.toNat _)

end Outcomes

end Sys2Proof.Proofs

/-!
PROOFS. ROW_REMOVE and ROW_SHIFT (O57).
-/

namespace Sys2Proof.Proofs

open Sys2Proof Sys2Proof.Machine

variable {s : State} {f : Furnace} {id : SlabId}

/-! ### The one element of a list that has a property -/

section Only

variable {α : Type} {p : α → Bool} {l : List α} {i : Nat} {x : α}

/-- The element at an index of a list is the only one with the property. -/
structure OnlyAt (p : α → Bool) (l : List α) (i : Nat) (x : α) : Prop where
  get : l[i]? = some x
  holds : p x = true
  only : ∀ j y, l[j]? = some y → p y = true → j = i

theorem OnlyAt.findIdx_eq (h : OnlyAt p l i x) : l.findIdx p = i := by
  obtain ⟨hi, hget⟩ := List.getElem?_eq_some_iff.mp h.get
  refine (List.findIdx_eq hi).mpr ⟨by rw [hget]; exact h.holds, fun j hj => Bool.eq_false_iff.mpr fun hj' => ?_⟩
  exact absurd (h.only j _ (List.getElem?_eq_getElem _) hj') (by omega)

theorem OnlyAt.find?_eq (h : OnlyAt p l i x) : l.find? p = some x := by
  rw [List.find?_eq_getElem?_findIdx, h.findIdx_eq, h.get]

theorem OnlyAt.filter_not_eq (h : OnlyAt p l i x) : (l.filter fun y => !p y) = l.take i ++ l.drop (i + 1) := by
  obtain ⟨hi, hget⟩ := List.getElem?_eq_some_iff.mp h.get
  have hkept {m : List α} (hm : ∀ y ∈ m, p y = false) : (m.filter fun y => !p y) = m :=
    List.filter_eq_self.mpr fun y hy => by rw [hm y hy]; rfl
  have hbefore : ∀ y ∈ l.take i, p y = false := fun y hy => by
    obtain ⟨j, hj, hjy⟩ := List.mem_take_iff_getElem.mp hy
    exact Bool.eq_false_iff.mpr fun hy' => absurd (h.only j y (List.getElem?_eq_some_iff.mpr ⟨by omega, hjy⟩) hy') (by omega)
  have hafter : ∀ y ∈ l.drop (i + 1), p y = false := fun y hy => by
    obtain ⟨j, hj⟩ := List.getElem?_of_mem hy
    rw [List.getElem?_drop] at hj
    exact Bool.eq_false_iff.mpr fun hy' => absurd (h.only _ y hj hy') (by omega)
  calc (l.filter fun y => !p y) = (l.take i ++ x :: l.drop (i + 1)).filter fun y => !p y := by
        rw [← hget, ← List.drop_eq_getElem_cons hi, List.take_append_drop]
    _ = l.take i ++ l.drop (i + 1) := by
        rw [List.filter_append, List.filter_cons_of_neg (by rw [h.holds]; decide), hkept hbefore, hkept hafter]

theorem OnlyAt.map_if_eq (h : OnlyAt p l i x) (g : α → α) : (l.map fun y => if p y = true then g y else y) = l.set i (g x) := by
  refine List.ext_getElem? fun j => ?_
  rw [List.getElem?_map, List.getElem?_set]
  by_cases hj : i = j
  · subst hj
    rw [h.get, if_pos rfl, if_pos (List.getElem?_eq_some_iff.mp h.get).1, Option.map_some, if_pos h.holds]
  · rw [if_neg hj]
    cases hy : l[j]? with
    | none => rfl
    | some y => rw [Option.map_some, if_neg fun hp => hj (h.only j y hy hp).symm]

end Only

/-! ### The row of a slab (R150, R152) -/

section Rows

variable {row : Row} {i : Nat}

theorem rowInFurnace_elsewhere {pl : Place} (hplace : s.place? id = some pl) (hout : ∀ side, pl ≠ .inFurnace f side) :
    s.rowInFurnace f id = .error .state := by
  rw [State.rowInFurnace, hplace]
  cases pl with
  | inFurnace g side => exact if_neg fun hg => hout side (by rw [hg])
  | _ => rfl

theorem rowInFurnace_only {side : Side} (hplace : s.place? id = some (.inFurnace f side))
    (h : OnlyAt (fun r => r.holds id) (s.furnace f).rows i row) : s.rowInFurnace f id = .ok row := by
  rw [State.rowInFurnace, hplace]
  dsimp only
  rw [if_pos rfl, h.find?_eq]

/-- R150: the row is the front row of its map. -/
theorem frontSlab_eq_iff (h : OnlyAt (fun r => r.holds row.slabA) (s.furnace f).rows i row) :
    frontSlab (s.furnace f).rows = some row.slabA ↔ i + 1 = (s.furnace f).rows.length := by
  have hi := (List.getElem?_eq_some_iff.mp h.get).1
  rw [frontSlab, List.getLast?_eq_getElem?]
  constructor
  · intro hfront
    obtain ⟨last, hlast, hslab⟩ := Option.map_eq_some_iff.mp hfront
    have hindex := h.only _ last hlast (by rw [Row.holds, hslab]; simp)
    omega
  · intro hlength
    rw [show (s.furnace f).rows.length - 1 = i by omega, h.get]
    rfl

/-- R150: the map that is left when the row goes. -/
def rowOff (s : State) (f : Furnace) (i : Nat) : State :=
  s.updateFurnace f fun m => { m with rows := (s.furnace f).rows.take i ++ (s.furnace f).rows.drop (i + 1) }

/-- R150: the slabs of the row become DOUBTFUL. -/
def rowDoubted (u : State) (f : Furnace) (row : Row) : State :=
  (slabsWithSides row.slabA row.slabB).foldl (fun (v : State) x => v.makeDoubtful x.1 (.inFurnace f x.2)) u

theorem rowDoubted_furnace (u : State) (g : Furnace) : (rowDoubted u f row).furnace g = u.furnace g := by
  obtain ⟨register, hfold⟩ := makeDoubtfuls_eq (fun x => .inFurnace f x.2) (slabsWithSides row.slabA row.slabB) u
  rw [rowDoubted, hfold]
  rfl

variable (h : OnlyAt (fun r => r.holds row.slabA) (s.furnace f).rows i row)

include h

theorem removeRow_eq : s.removeRow f row = (if i + 1 = (s.furnace f).rows.length then (rowDoubted (rowOff s f i) f row).soakCheck f
    else rowDoubted (rowOff s f i) f row).raiseSupv .doubt := by
  have hrows : ((s.furnace f).rows.filter fun r => !r.holds row.slabA) = (s.furnace f).rows.take i ++ (s.furnace f).rows.drop (i + 1) :=
    h.filter_not_eq
  have hiff := frontSlab_eq_iff h
  rw [State.removeRow, hrows]
  by_cases hlength : i + 1 = (s.furnace f).rows.length
  · rw [if_pos (hiff.mpr hlength), if_pos hlength]
    rfl
  · rw [if_neg (mt hiff.mp hlength), if_neg hlength]
    rfl

theorem rowOff_rows_length : ((rowOff s f i).furnace f).rows.length = (s.furnace f).rows.length - 1 := by
  have hi := (List.getElem?_eq_some_iff.mp h.get).1
  rw [rowOff, State.updateFurnace_furnace, if_pos rfl, List.length_append, List.length_take, List.length_drop]
  omega

theorem removeRow_rows_length : ((s.removeRow f row).furnace f).rows.length = (s.furnace f).rows.length - 1 := by
  rw [removeRow_eq h, State.raiseSupv_furnace, ← rowOff_rows_length h]
  split
  · rw [soakCheck_furnace, if_pos rfl, rowDoubted_furnace, soakedRows]
    split
    · rw [markFront_length]
    · rfl
  · rw [rowDoubted_furnace]

end Rows

/-! ### ROW_REMOVE and ROW_SHIFT -/

section Rules

variable {body : List Byte} {e : RefuseReason}

/-- R150, R152: the refusals that both requests share. -/
theorem ruleRowRemove_range (hmode : s.mode = .run)
    (h : validSlabId (field body 1 4) = false ∨ s.configuredFurnace (field body 0 1) = none) : ruleRowRemove body s = refused s .range := by
  rw [ruleRowRemove, if_neg (by rw [hmode]; decide)]
  split
  · rfl
  · next hpass =>
    have hnone := h.resolve_left fun hinvalid => hpass (by rw [hinvalid]; simp)
    rw [hnone]

theorem ruleRowShift_range (hmode : s.mode = .run)
    (h : validSlabId (field body 1 4) = false ∨ s.configuredFurnace (field body 0 1) = none) : ruleRowShift body s = refused s .range := by
  rw [ruleRowShift, if_neg (by rw [hmode]; decide)]
  split
  · rfl
  · next hpass =>
    have hnone := h.resolve_left fun hinvalid => hpass (by rw [hinvalid]; simp)
    rw [hnone]

variable (hmode : s.mode = .run) (hvalid : validSlabId (field body 1 4) = true)
  (hf : s.configuredFurnace (field body 0 1) = some f)

include hmode hvalid hf

theorem ruleRowRemove_refused (hlen : body.length = 5) (h : s.rowInFurnace f (field body 1 4) = .error e) :
    ruleRowRemove body s = refused s e := by
  rw [ruleRowRemove, if_neg (by rw [hmode]; decide), if_neg (by simp [hlen, hvalid]), hf]
  dsimp only
  rw [h]

theorem ruleRowRemove_ok {row : Row} (hlen : body.length = 5) (h : s.rowInFurnace f (field body 1 4) = .ok row) :
    ruleRowRemove body s = if (s.furnace f).op.isCharging then refused s .state
      else taken s (s.removeRow f row) (rowRemoveBody f row) := by
  rw [ruleRowRemove, if_neg (by rw [hmode]; decide), if_neg (by simp [hlen, hvalid]), hf]
  dsimp only
  rw [h]

theorem ruleRowShift_refused (hlen : body.length = 7) (h : s.rowInFurnace f (field body 1 4) = .error e) :
    ruleRowShift body s = refused s e := by
  rw [ruleRowShift, if_neg (by rw [hmode]; decide), if_neg (by simp [hlen, hvalid]), hf]
  dsimp only
  rw [h]

theorem ruleRowShift_ok {row : Row} (hlen : body.length = 7) (h : s.rowInFurnace f (field body 1 4) = .ok row) :
    ruleRowShift body s =
      if !shiftIsClear (s.furnace f).rows (field body 1 4) (field body 5 2) row.width then refused s .range
      else if decide ((s.furnaceParams f).effectiveLength < field body 5 2 + row.width) && !(s.furnace f).doubt then refused s .range
      else (s.shiftRow f (field body 1 4) (field body 5 2), .done (u32 (field body 1 4) ++ u16 row.rear ++ u16 (field body 5 2) ++
        u8 ((s.furnaceParams f).walksAvailable ((s.shiftRow f (field body 1 4) (field body 5 2)).furnace f).rows))) := by
  rw [ruleRowShift, if_neg (by rw [hmode]; decide), if_neg (by simp [hlen, hvalid]), hf]
  dsimp only
  rw [h]

end Rules

section Shift

variable {row : Row} {i : Nat}

/-- R148, check 7, R152, check 4: what stands clear of the row before and the row behind. -/
theorem clearOfNeighbours_iff (newer older : Option Row) (rear far : Nat) : clearOfNeighbours newer older rear far = true ↔
    (∀ n, newer = some n → n.rear + n.width ≤ rear) ∧ ∀ o, older = some o → far ≤ o.rear := by
  unfold clearOfNeighbours
  rw [Bool.and_eq_true]
  refine and_congr ?_ ?_
  · cases newer with
    | none => simp
    | some n => exact ⟨fun h m hm => by cases hm; exact of_decide_eq_true h, fun h => decide_eq_true (h n rfl)⟩
  · cases older with
    | none => simp
    | some o => exact ⟨fun h m hm => by cases hm; exact of_decide_eq_true h, fun h => decide_eq_true (h o rfl)⟩

/-- The row before an index, where there is one. -/
theorem newerAt_iff (rows : List Row) (i : Nat) (P : Row → Prop) :
    (∀ n, (if i = 0 then none else rows[i - 1]?) = some n → P n) ↔ ∀ n, 0 < i → rows[i - 1]? = some n → P n := by
  by_cases hi : i = 0
  · simp [hi]
  · rw [if_neg hi]
    exact ⟨fun h n _ hn => h n hn, fun h n hn => h n (Nat.pos_of_ne_zero hi) hn⟩

theorem shiftIsClear_iff {rows : List Row} (h : OnlyAt (fun r => r.holds id) rows i row) (rear width : Nat) :
    shiftIsClear rows id rear width = true ↔ rear + width ≤ 65535 ∧
      (∀ newer, 0 < i → rows[i - 1]? = some newer → newer.rear + newer.width ≤ rear) ∧
      (∀ older, rows[i + 1]? = some older → rear + width ≤ older.rear) := by
  rw [shiftIsClear, Bool.and_eq_true, decide_eq_true_iff, clearOfNeighbours_iff, h.findIdx_eq, newerAt_iff]

theorem shiftRow_eq (h : OnlyAt (fun r => r.holds id) (s.furnace f).rows i row) (rear : Nat) :
    s.shiftRow f id rear = s.updateFurnace f fun m => { m with rows := (s.furnace f).rows.set i { row with rear := rear } } := by
  have hrows : ((s.furnaces.get f).rows.map fun r => if r.holds id then { r with rear := rear } else r) =
      (s.furnace f).rows.set i { row with rear := rear } := h.map_if_eq fun r => { r with rear := rear }
  rw [State.shiftRow, State.updateFurnace, State.updateFurnace, hrows]

end Shift

/-- Settles O57: the refusals that both requests share, and each of them for a slab that stands in one row. -/
theorem mapsAreMended : Obligations.MapsAreMended := by
  unfold Obligations.MapsAreMended
  intro s body id hs hmode hid refuses
  subst hid
  have hboth {e : RefuseReason} (hremove : body.length = 5 → ruleRowRemove body s = refused s e)
      (hshift : body.length = 7 → ruleRowShift body s = refused s e) : refuses e :=
    ⟨fun hlen => request_refused (rule := ruleRowRemove body) hs rfl (hremove hlen),
      fun hlen => request_refused (rule := ruleRowShift body) hs rfl (hshift hlen)⟩
  refine ⟨fun hbad => ?_, fun f hvalid hf => ⟨fun hplace => ?_, fun pl hplace hout => ?_, fun row i side hplace => ?_⟩⟩
  · have hrange : validSlabId (field body 1 4) = false ∨ s.configuredFurnace (field body 0 1) = none := by
      rcases hbad with h | h | h
      · exact .inl (by rw [h]; rfl)
      · exact .inl (by rw [h]; rfl)
      · exact .inr h
    exact hboth (fun _ => ruleRowRemove_range hmode hrange) fun _ => ruleRowShift_range hmode hrange
  · have hrow : s.rowInFurnace f (field body 1 4) = .error .unknownSlab := by rw [State.rowInFurnace, hplace]
    exact hboth (fun hlen => ruleRowRemove_refused hmode hvalid hf hlen hrow) fun hlen => ruleRowShift_refused hmode hvalid hf hlen hrow
  · have hrow := rowInFurnace_elsewhere hplace hout
    exact hboth (fun hlen => ruleRowRemove_refused hmode hvalid hf hlen hrow) fun hlen => ruleRowShift_refused hmode hvalid hf hlen hrow
  · intro rows hget hholds honly hfirst off doubted
    have hself : OnlyAt (fun r => r.holds (field body 1 4)) rows i row := ⟨hget, hholds, honly⟩
    have hslabA : OnlyAt (fun r => r.holds row.slabA) rows i row := ⟨hget, by simp [Row.holds], hfirst⟩
    have hrow := rowInFurnace_only hplace hself
    refine ⟨fun hlen hcharging => ?_, fun hlen hidle => ?_, fun hlen => ?_⟩
    · exact request_refused (rule := ruleRowRemove body) hs rfl
        ((ruleRowRemove_ok hmode hvalid hf hlen hrow).trans (if_pos hcharging))
    · have hrule := (ruleRowRemove_ok hmode hvalid hf hlen hrow).trans (if_neg (by rw [hidle]; decide))
      have hbody : rowRemoveBody f row (settle s (s.removeRow f row)) = rowSlabs row.slabA row.slabB ++ u16 row.rear ++ u16 row.width ++
          u16 row.residence ++ u16 row.soakTarget ++ yesNo row.soakNotified ++ u8 (rows.length - 1) := by
        rw [rowRemoveBody, settle_furnace, removeRow_rows_length hslabA]
      rw [removeRow_eq hslabA] at hrule hbody
      exact request_taken (rule := ruleRowRemove body) hs rfl hrule hbody
    · intro rear clear shifted
      have hrule := ruleRowShift_ok hmode hvalid hf hlen hrow
      have hclear := shiftIsClear_iff hself rear row.width
      refine ⟨fun ⟨hfar, hnewer, holder, hlength⟩ => ?_, fun hnot => ?_⟩
      · replace hrule := hrule.trans (if_neg (by rw [hclear.mpr ⟨hfar, hnewer, holder⟩]; decide))
        have hlong : (decide ((s.furnaceParams f).effectiveLength < rear + row.width) && !(s.furnace f).doubt) = false := by
          obtain hle | hdoubt := hlength
          · simp [Nat.not_lt_of_le hle]
          · simp [hdoubt]
        replace hrule := hrule.trans (if_neg (by rw [hlong]; decide))
        rw [shiftRow_eq hself, State.updateFurnace_furnace, if_pos rfl] at hrule
        exact request_done (rule := ruleRowShift body) hs rfl hrule
      · refine request_refused (rule := ruleRowShift body) hs rfl (hrule.trans ?_)
        by_cases hfree : shiftIsClear rows (field body 1 4) rear row.width = true
        · obtain ⟨hfar, hnewer, holder⟩ := hclear.mp hfree
          have hlong : (decide ((s.furnaceParams f).effectiveLength < rear + row.width) && !(s.furnace f).doubt) = true := by
            rw [Bool.and_eq_true, decide_eq_true_iff, Bool.not_eq_true']
            exact ⟨Nat.lt_of_not_le fun hle => hnot ⟨hfar, hnewer, holder, .inl hle⟩,
              Bool.eq_false_iff.mpr fun hdoubt => hnot ⟨hfar, hnewer, holder, .inr hdoubt⟩⟩
          exact (if_neg (by rw [hfree]; decide)).trans (if_pos hlong)
        · exact if_pos (by rw [Bool.eq_false_iff.mpr hfree]; rfl)

end Sys2Proof.Proofs

/-!
PROOFS. A SLAB_RESOLVE that places a row in a furnace (O56).
-/

namespace Sys2Proof.Proofs

open Sys2Proof Sys2Proof.Machine

variable {s : State} {f : Furnace} {id : SlabId} {q : Placing}

/-! ### The placing that a body carries (R148) -/

section Bodies

variable {slab : Word32} {extra : List Byte}

theorem placingOf_resolveBody : placingOf (resolveBody slab 0x03 extra) =
    ⟨field extra 0 1, field extra 1 2, field extra 3 2, field extra 5 4, field extra 9 1⟩ := rfl

/-- R145: the first checks of a PLACE. -/
theorem resolveInRange_place (hvalid : validSlabId slab.toNat = true) (hlen : extra.length = 10) :
    resolveInRange (resolveBody slab 0x03 extra) = true := by
  have hlength : (resolveBody slab 0x03 extra).length = 15 := by
    rw [show (resolveBody slab 0x03 extra).length = extra.length + 5 from rfl, hlen]
  have houtcome : field (resolveBody slab 0x03 extra) 4 1 = 3 := field_resolveBody_outcome
  rw [resolveInRange, houtcome, field_resolveBody_slab, hvalid, hlength]
  rfl

end Bodies

/-! ### The checks of a placing (R148) -/

section Checks

/-- R148, check 1: the fields of a placing are in range. -/
theorem placing_inRange_iff : q.inRange id = true ↔
    q.side ≤ 2 ∧ q.second ≠ 4294967295 ∧ q.second ≠ id ∧ (q.side = 0 ↔ q.second = 0) := by
  have hshape : ((q.side == 0) == (q.second == 0)) = true ↔ (q.side = 0 ↔ q.second = 0) := by
    rw [beq_iff_eq, Bool.eq_iff_iff, beq_iff_eq, beq_iff_eq]
  rw [Placing.inRange, Bool.and_eq_true, Bool.and_eq_true, Bool.and_eq_true, decide_eq_true_iff, bne_iff_ne, bne_iff_ne, hshape,
    and_assoc, and_assoc]
  rfl

theorem secondRefusal_unknown {x : SlabId} (hx : x ≠ 0) (h : s.place? x = none) : s.secondRefusal x = some .unknownSlab := by
  rw [State.secondRefusal, if_neg hx, h]

theorem secondRefusal_state {x : SlabId} {pl : Place} (hx : x ≠ 0) (h : s.place? x = some pl) (hpl : pl.isDoubtful = false) :
    s.secondRefusal x = some .state := by
  rw [State.secondRefusal, if_neg hx, h]
  exact if_neg (by rw [hpl]; decide)

theorem secondRefusal_none {x : SlabId} (h : x = 0 ∨ ∃ lb, s.place? x = some (.doubtful lb)) : s.secondRefusal x = none := by
  rw [State.secondRefusal]
  by_cases hx : x = 0
  · exact if_pos hx
  · obtain ⟨lb, hlb⟩ := h.resolve_left hx
    rw [if_neg hx, hlb]
    rfl

/-- R148, checks 6 and 7: a row of that width stands within the length and clear of its neighbours. -/
def placeClear (s : State) (f : Furnace) (rear width : Nat) : Prop :=
  rear + width ≤ (s.furnaceParams f).effectiveLength ∧
    (∀ newer, 0 < placeIndex (s.furnace f).rows rear → (s.furnace f).rows[placeIndex (s.furnace f).rows rear - 1]? = some newer →
      newer.rear + newer.width ≤ rear) ∧
    (∀ older, (s.furnace f).rows[placeIndex (s.furnace f).rows rear]? = some older → rear + width ≤ older.rear)

theorem placeIsClear_iff (rows : List Row) (rear far : Nat) : placeIsClear rows rear far = true ↔
    (∀ newer, 0 < placeIndex rows rear → rows[placeIndex rows rear - 1]? = some newer → newer.rear + newer.width ≤ rear) ∧
    (∀ older, rows[placeIndex rows rear]? = some older → far ≤ older.rear) := by
  rw [placeIsClear, clearOfNeighbours_iff, newerAt_iff]

theorem pairFits_iff (fp : FurnaceParams) (m n : Nat) :
    fp.pairFits m n = true ↔ m + n + fp.centreClearance + 2 * fp.sideClearance ≤ fp.hearthWidth := by
  rw [FurnaceParams.pairFits, decide_eq_true_iff]

theorem rowFits_single (fp : FurnaceParams) (r : SlabRecord) :
    fp.rowFits [r] = true ↔ r.length + 2 * fp.sideClearance ≤ fp.hearthWidth := sizeFits_iff fp r.length

theorem rowFits_pair (fp : FurnaceParams) (r o : SlabRecord) : fp.rowFits [r, o] = true ↔
    fp.doubleRow = true ∧ r.length + o.length + fp.centreClearance + 2 * fp.sideClearance ≤ fp.hearthWidth := by
  rw [FurnaceParams.rowFits, Bool.and_eq_true, pairFits_iff]

theorem placeChecks_none (h : s.configuredFurnace q.furnace = none) : s.placeChecks id q = .error .range := by
  rw [State.placeChecks, h]

variable (hf : s.configuredFurnace q.furnace = some f)

include hf

theorem placeChecks_shape (h : q.inRange id = false) : s.placeChecks id q = .error .range := by
  rw [State.placeChecks, hf]
  exact if_pos (by rw [h]; rfl)

variable (hin : q.inRange id = true)

include hin

theorem placeChecks_second {e : RefuseReason} (h : s.secondRefusal q.second = some e) : s.placeChecks id q = .error e := by
  rw [State.placeChecks, hf]
  dsimp only
  rw [hin, if_neg (by decide), h]

variable (hsecond : s.secondRefusal q.second = none)

include hsecond

theorem placeChecks_full (h : 48 ≤ (s.furnace f).rowsHeld) : s.placeChecks id q = .error .full := by
  rw [State.placeChecks, hf]
  dsimp only
  rw [hin, if_neg (by decide), hsecond]
  exact if_pos h

variable (hroom : (s.furnace f).rowsHeld < 48) {rs : List SlabRecord} (hrs : s.rowRecords (q.slabs id).1 (q.slabs id).2 = rs)

include hroom hrs

/-- R148, checks 5 to 7. -/
theorem placeChecks_last : s.placeChecks id q =
    if !(s.furnaceParams f).rowFits rs then .error .range
    else if (s.furnaceParams f).effectiveLength < q.rear + rowWidth rs then .error .range
    else if !placeIsClear (s.furnace f).rows q.rear (q.rear + rowWidth rs) then .error .range
    else .ok f := by
  subst hrs
  have hnotFull : ¬Config.maxRows ≤ (s.furnace f).rowsHeld := Nat.not_le_of_lt hroom
  rw [State.placeChecks, hf]
  dsimp only
  rw [hin, if_neg (by decide), hsecond]
  exact if_neg hnotFull

theorem placeChecks_ok_of_clear (hfits : (s.furnaceParams f).rowFits rs = true) (hclear : placeClear s f q.rear (rowWidth rs)) :
    s.placeChecks id q = .ok f := by
  obtain ⟨hlength, hneighbours⟩ := hclear
  rw [placeChecks_last hf hin hsecond hroom hrs, hfits, if_neg (by decide), if_neg (Nat.not_lt_of_le hlength),
    (placeIsClear_iff _ _ _).mpr hneighbours]
  rfl

theorem placeChecks_range (h : (s.furnaceParams f).rowFits rs = false ∨ ¬placeClear s f q.rear (rowWidth rs)) :
    s.placeChecks id q = .error .range := by
  rw [placeChecks_last hf hin hsecond hroom hrs]
  by_cases hfits : (s.furnaceParams f).rowFits rs = true
  · have hnot := h.resolve_left (by rw [hfits]; decide)
    rw [if_neg (by rw [hfits]; decide)]
    by_cases hlong : (s.furnaceParams f).effectiveLength < q.rear + rowWidth rs
    · exact if_pos hlong
    · have hclear : placeIsClear (s.furnace f).rows q.rear (q.rear + rowWidth rs) = false :=
        Bool.eq_false_iff.mpr fun hc => hnot ⟨Nat.le_of_not_lt hlong, (placeIsClear_iff _ _ _).mp hc⟩
      rw [if_neg hlong, hclear]
      rfl
  · exact if_pos (by rw [Bool.eq_false_iff.mpr hfits]; rfl)

end Checks

/-! ### The row that is laid (R149) -/

section Laid

/-- R149: the map with the row in its place. -/
def rowLaid (s : State) (f : Furnace) (row : Row) : State := s.updateFurnace f fun m =>
  { m with rows := m.rows.take (placeIndex (s.furnace f).rows row.rear) ++ row :: m.rows.drop (placeIndex (s.furnace f).rows row.rear) }

/-- R149, step 4: the soak check where the row is now the front row. -/
def soakIfFront (s : State) (f : Furnace) (rear : Nat) (u : State) : State :=
  if placeIndex (s.furnace f).rows rear = (s.furnace f).rows.length then u.soakCheck f else u

theorem placeRow_single (a : SlabId) : s.placeRow f a none q =
    soakIfFront s f q.rear ((rowLaid s f (s.placedRow f a none q)).resolveTo a (.inFurnace f .single)) := rfl

theorem placeRow_pair (a b : SlabId) : s.placeRow f a (some b) q = soakIfFront s f q.rear
    ((((rowLaid s f (s.placedRow f a (some b) q)).resolveTo a (.inFurnace f .left)).resolveTo b (.inFurnace f .right)).formPair a b) := rfl

theorem rowLaid_rows_length (row : Row) : ((rowLaid s f row).furnace f).rows.length = (s.furnace f).rows.length + 1 := by
  rw [rowLaid, State.updateFurnace_furnace, if_pos rfl, List.length_append, List.length_take, List.length_cons, List.length_drop]
  omega

theorem soakIfFront_rows_length (rear : Nat) (u : State) :
    ((soakIfFront s f rear u).furnace f).rows.length = (u.furnace f).rows.length := by
  unfold soakIfFront
  split
  · rw [soakCheck_furnace, if_pos rfl, soakedRows]
    split
    · rw [markFront_length]
    · rfl
  · rfl

/-- R149: the answer of a PLACE, from a state whose map has gained the row. -/
theorem placeBody_settle {t : State} (row : Row) (i : Nat) (h : (t.furnace f).rows.length = (s.furnace f).rows.length + 1) :
    placeBody f row i (settle s t) =
      rowSlabs row.slabA row.slabB ++ u8 i ++ u8 ((s.furnace f).rows.length + 1) ++ u16 row.soakTarget := by
  rw [placeBody, settle_furnace, h]

theorem resolveTo_furnace (u : State) (x : SlabId) (pl : Place) (g : Furnace) : (u.resolveTo x pl).furnace g = u.furnace g := rfl

theorem formPair_furnace (u : State) (a b : SlabId) (g : Furnace) : (u.formPair a b).furnace g = u.furnace g := rfl

theorem placeRow_rows_length (a : SlabId) (b : Option SlabId) :
    ((s.placeRow f a b q).furnace f).rows.length = (s.furnace f).rows.length + 1 := by
  cases b with
  | none => rw [placeRow_single, soakIfFront_rows_length, resolveTo_furnace, rowLaid_rows_length]
  | some c =>
    rw [placeRow_pair, soakIfFront_rows_length, formPair_furnace, resolveTo_furnace, resolveTo_furnace, rowLaid_rows_length]

end Laid

/-! ### SLAB_RESOLVE with outcome PLACE -/

section Place

variable {slab : Word32} {extra : List Byte}

theorem resolvePlace_taken (h : s.placeChecks slab.toNat (placingOf (resolveBody slab 0x03 extra)) = .ok f) :
    resolvePlace (resolveBody slab 0x03 extra) slab.toNat s =
      taken s (s.placeRow f ((placingOf (resolveBody slab 0x03 extra)).slabs slab.toNat).1
          ((placingOf (resolveBody slab 0x03 extra)).slabs slab.toNat).2 (placingOf (resolveBody slab 0x03 extra)))
        (placeBody f (s.placedRow f ((placingOf (resolveBody slab 0x03 extra)).slabs slab.toNat).1
            ((placingOf (resolveBody slab 0x03 extra)).slabs slab.toNat).2 (placingOf (resolveBody slab 0x03 extra)))
          (placeIndex (s.furnace f).rows (placingOf (resolveBody slab 0x03 extra)).rear)) := by
  rw [resolvePlace, h]

theorem resolvePlace_refused {e : RefuseReason} (h : s.placeChecks slab.toNat (placingOf (resolveBody slab 0x03 extra)) = .error e) :
    resolvePlace (resolveBody slab 0x03 extra) slab.toNat s = refused s e := by
  rw [resolvePlace, h]

/-- R148, R149: the answer to a placing of which the slabs and the records are known. -/
theorem place_exec {a : SlabId} {b : Option SlabId} {rs : List SlabRecord} {row : Row} {t : State}
    (hs : s.serves .p0) (hrule : ruleSlabResolve (resolveBody slab 0x03 extra) s =
      resolvePlace (resolveBody slab 0x03 extra) slab.toNat s)
    (hchecks : s.placeChecks slab.toNat (placingOf (resolveBody slab 0x03 extra)) = .ok f)
    (hslabs : (placingOf (resolveBody slab 0x03 extra)).slabs slab.toNat = (a, b)) (hrs : s.rowRecords a b = rs)
    (hrow : row = ⟨a, b, field extra 1 2, rowWidth rs, field extra 3 2, (s.furnaceParams f).soakTarget rs, false⟩)
    (ht : s.placeRow f a b (placingOf (resolveBody slab 0x03 extra)) = t) :
    exec (.slabResolvePlace .p0 slab extra) s = .next (State.done (settle s t) .p0 (rowSlabs row.slabA row.slabB ++
      u8 (placeIndex (s.furnace f).rows (field extra 1 2)) ++ u8 ((s.furnace f).rows.length + 1) ++ u16 row.soakTarget)) := by
  subst hrs
  have htaken := resolvePlace_taken hchecks
  rw [hslabs] at htaken
  have hplaced : s.placedRow f a b (placingOf (resolveBody slab 0x03 extra)) = row := by rw [hrow]; rfl
  have hlength := placeRow_rows_length (s := s) (f := f) (q := placingOf (resolveBody slab 0x03 extra)) a b
  dsimp only at htaken
  rw [hplaced, ht] at htaken
  rw [ht] at hlength
  exact request_taken (rule := ruleSlabResolve (resolveBody slab 0x03 extra)) hs rfl (hrule.trans htaken) (placeBody_settle row _ hlength)

end Place

/-- Settles O56: the checks in their order, and the row laid as a single one or as a pair. -/
theorem rowsArePlaced : Obligations.RowsArePlaced := by
  unfold Obligations.RowsArePlaced
  intro s slab extra last hs hmode hvalid hlen hplace rear second side answer
  have hrule := (ruleSlabResolve_outcome hmode (resolveInRange_place hvalid hlen) hplace).2.2.2 rfl
  generalize hq : placingOf (resolveBody slab 0x03 extra) = q
  have hq' := placingOf_resolveBody (slab := slab) (extra := extra)
  rw [hq] at hq'
  have hrefused {e : RefuseReason} (h : s.placeChecks slab.toNat q = .error e) : answer e :=
    request_refused (rule := ruleSlabResolve (resolveBody slab 0x03 extra)) hs rfl
      (hrule.trans (resolvePlace_refused (by rw [hq]; exact h)))
  have hfurnace : q.furnace = field extra 0 1 := by rw [hq']
  have hsecond : q.second = second := by rw [hq']
  have hside : q.side = side := by rw [hq']
  have hrear : q.rear = rear := by rw [hq']
  refine ⟨fun hf => hrefused (placeChecks_none (by rw [hfurnace]; exact hf)), fun f hf => ?_⟩
  replace hf : s.configuredFurnace q.furnace = some f := by rw [hfurnace]; exact hf
  intro fp rows shaped i clear settled laid placed
  have hin : q.inRange slab.toNat = true ↔ shaped := by rw [placing_inRange_iff, hside, hsecond]
  refine ⟨fun hbad => hrefused (placeChecks_shape hf (Bool.eq_false_iff.mpr (mt hin.mp hbad))),
    fun hshape hne hnone => hrefused (placeChecks_second hf (hin.mpr hshape) (by rw [hsecond]; exact secondRefusal_unknown hne hnone)),
    fun pl hshape hne hpl hdoubtful => hrefused (placeChecks_second hf (hin.mpr hshape)
      (by rw [hsecond]; exact secondRefusal_state hne hpl hdoubtful)), fun hshape hpass => ?_⟩
  have hnone : s.secondRefusal q.second = none := by rw [hsecond]; exact secondRefusal_none hpass
  refine ⟨fun hfull => hrefused (placeChecks_full hf (hin.mpr hshape) hnone hfull), fun hroom => ⟨fun ra hsingle ha => ?_,
    fun a b ra rb hdouble ha hb hsides => ?_⟩⟩
  · have hslabs : q.slabs slab.toNat = (slab.toNat, none) := if_pos (hsecond.trans hsingle)
    have hrs : s.rowRecords (q.slabs slab.toNat).1 (q.slabs slab.toNat).2 = [ra] := by rw [hslabs]; exact rowRecords_single ha
    have hwidth : placeClear s f q.rear (rowWidth [ra]) ↔ clear ra.width := by rw [rowWidth_single, hrear]; rfl
    refine ⟨fun hbad => hrefused (placeChecks_range hf (hin.mpr hshape) hnone hroom hrs ?_), fun hsize hclear => ?_⟩
    · exact hbad.imp (fun h => Bool.eq_false_iff.mpr fun hfits => absurd ((rowFits_single fp ra).mp hfits) (Nat.not_le_of_lt h))
        (mt hwidth.mp)
    · intro row
      have hok := placeChecks_ok_of_clear hf (hin.mpr hshape) hnone hroom hrs ((rowFits_single fp ra).mpr hsize) (hwidth.mpr hclear)
      subst hq
      have hplaced : s.placedRow f slab.toNat none (placingOf (resolveBody slab 0x03 extra)) = row := by
        rw [State.placedRow, rowRecords_single ha, rowWidth_single]; rfl
      exact place_exec hs hrule hok hslabs (rowRecords_single ha) (by rw [rowWidth_single]) (by rw [placeRow_single, hplaced]; rfl)
  · have hslabs : q.slabs slab.toNat = (a, some b) := by
      rw [Placing.slabs, if_neg (by rw [hsecond]; exact hdouble), hside, hsecond]
      obtain ⟨h, rfl, rfl⟩ | ⟨h, rfl, rfl⟩ := hsides
      · rw [if_pos h]
      · rw [if_neg (by rw [h]; decide)]
    have hrs : s.rowRecords (q.slabs slab.toNat).1 (q.slabs slab.toNat).2 = [ra, rb] := by rw [hslabs]; exact rowRecords_pair ha hb
    have hwidth : placeClear s f q.rear (rowWidth [ra, rb]) ↔ clear (max ra.width rb.width) := by rw [rowWidth_pair, hrear]; rfl
    have hfits := rowFits_pair fp ra rb
    refine ⟨fun hbad => hrefused (placeChecks_range hf (hin.mpr hshape) hnone hroom hrs ?_), fun hdoubleRow hsize hclear => ?_⟩
    · rw [← or_assoc] at hbad
      refine hbad.imp (fun h => Bool.eq_false_iff.mpr fun hfit => ?_) (mt hwidth.mp)
      obtain ⟨hrow, hlength⟩ := hfits.mp hfit
      exact h.elim (fun h => by rw [h] at hrow; cases hrow) fun h => absurd hlength (Nat.not_le_of_lt h)
    · intro row
      have hok := placeChecks_ok_of_clear hf (hin.mpr hshape) hnone hroom hrs (hfits.mpr ⟨hdoubleRow, hsize⟩) (hwidth.mpr hclear)
      subst hq
      have hplaced : s.placedRow f a (some b) (placingOf (resolveBody slab 0x03 extra)) = row := by
        rw [State.placedRow, rowRecords_pair ha hb, rowWidth_pair]; rfl
      exact place_exec hs hrule hok hslabs (rowRecords_pair ha hb) (by rw [rowWidth_pair]) (by rw [placeRow_pair, hplaced]; rfl)

end Sys2Proof.Proofs

/-!
PROOFS. PARAM_WRITE (O59), and START, CLEAR_ALL, RESET_RECORD_CLEAR and the requests that CONFIG refuses (O60).
-/

namespace Sys2Proof.Proofs

open Sys2Proof Sys2Proof.Machine

variable {s : State} {body : List Byte}

/-! ### The value that a write stores (R178) -/

section Clamp

variable {q : ParamId} {v w : Nat}

theorem limits_le (q : ParamId) : q.limits.1 ≤ q.limits.2 := by
  cases q with
  | furnace f g =>
    have hle : g.limits.1 ≤ g.limits.2 := by cases g <;> decide
    exact hle
  | _ => decide

/-- R178: the value of a write, by where it lies. -/
theorem clamp_eq (hlow : v < q.limits.1 → w = q.limits.1) (hhigh : q.limits.2 < v → w = q.limits.2)
    (hwithin : q.limits.1 ≤ v → v ≤ q.limits.2 → w = v) : q.clamp v = w := by
  have hlimits := limits_le q
  rw [ParamId.clamp]
  by_cases h : v < q.limits.1
  · rw [hlow h]; omega
  · by_cases h' : q.limits.2 < v
    · rw [hhigh h']; omega
    · rw [hwithin (by omega) (by omega)]; omega

theorem clamp_le (q : ParamId) (v : Nat) : q.clamp v ≤ q.limits.2 := Nat.min_le_right _ _

end Clamp

/-! ### The refusals of a write (R84, R94, R178) -/

section Refusals

variable {q : ParamId} {w : Nat} {f : Furnace} {g : FurnaceParam}

/-- R94: a live record, or a live pair, that does not fit under the values `fp`. -/
def recordTooLong (s : State) (f : Furnace) (fp : FurnaceParams) : Prop :=
  (∃ r ∈ s.register, r.destination = f ∧ fp.hearthWidth < r.length + 2 * fp.sideClearance) ∨
    (∃ r ∈ s.register, ∃ o ro, r.partner = some o ∧ s.slab? o.id = some ro ∧ r.destination = f ∧ ro.destination = f ∧
      (fp.doubleRow = false ∨ fp.hearthWidth < r.length + ro.length + fp.centreClearance + 2 * fp.sideClearance))

theorem alone_fits_iff (fp : FurnaceParams) (r : SlabRecord) : (r.destination != f || fp.sizeFits r.length) = true ↔
    ¬(r.destination = f ∧ fp.hearthWidth < r.length + 2 * fp.sideClearance) := by
  rw [Bool.or_eq_true, bne_iff_ne, sizeFits_iff, not_and_or, Nat.not_lt]

theorem pair_fits_iff (fp : FurnaceParams) (r o : SlabRecord) :
    (!(r.destination == f && o.destination == f) || (fp.doubleRow && fp.pairFits r.length o.length)) = true ↔
      ¬(r.destination = f ∧ o.destination = f ∧
        (fp.doubleRow = false ∨ fp.hearthWidth < r.length + o.length + fp.centreClearance + 2 * fp.sideClearance)) := by
  have hfits := pairFits_iff fp r.length o.length
  rw [Bool.or_eq_true, Bool.not_eq_true', Bool.and_eq_true, hfits, ← Bool.not_eq_true, Bool.and_eq_true, beq_iff_eq, beq_iff_eq,
    ← Bool.not_eq_true, ← Nat.not_lt]
  tauto

theorem recordsFit_iff (fp : FurnaceParams) : s.recordsFit f fp = true ↔ ¬recordTooLong s f fp := by
  rw [State.recordsFit, Bool.and_eq_true, List.all_eq_true, List.all_eq_true, recordTooLong, not_or]
  refine and_congr ?_ ?_
  · simp only [alone_fits_iff]
    exact ⟨fun h ⟨r, hr, hlong⟩ => h r hr hlong, fun h r hr hlong => h ⟨r, hr, hlong⟩⟩
  · constructor
    · rintro h ⟨r, hr, o, ro, ho, hro, hlong⟩
      have hpair := h r hr
      rw [ho, Option.bind_some, hro] at hpair
      exact (pair_fits_iff fp r ro).mp hpair hlong
    · intro h r hr
      cases hro : r.partner.bind fun q => s.slab? q.id with
      | none => rfl
      | some ro =>
        obtain ⟨o, ho, hslab⟩ := Option.bind_eq_some_iff.mp hro
        exact (pair_fits_iff fp r ro).mpr fun hlong => h ⟨r, hr, o, ro, ho, hslab, hlong⟩

/-- R94: the geometry parameters that are tested against the live records. -/
theorem boundsRecords_iff (hg : g.isGeometry = true) :
    g.boundsRecords = true ↔ g ≠ .stroke ∧ g ≠ .gap ∧ g ≠ .effectiveLength := by
  revert hg
  cases g <;> decide

/-- R94: the geometry test passes when no condition fails. -/
theorem geometryPasses_iff_not (hg : g.isGeometry = true) (fp : FurnaceParams) : s.geometryPasses f g fp = true ↔
    ¬((g ≠ .stroke ∧ g ≠ .gap ∧ g ≠ .effectiveLength ∧ recordTooLong s f fp) ∨
      (s.mode = .run ∧ furnaceNumber f ≤ s.params.furnaceCount ∧ fp.hearthWidth < 1500 + 2 * fp.sideClearance)) := by
  have hshortest : fp.sizeFits 1500 = true ↔ ¬fp.hearthWidth < 1500 + 2 * fp.sideClearance := (sizeFits_iff ..).trans Nat.not_lt.symm
  rw [State.geometryPasses_iff, boundsRecords_iff hg, recordsFit_iff, hshortest]
  tauto

theorem writeRefusal_used (hg : g.isGeometry = true) (h : (s.furnace f).rows ≠ [] ∨ (s.furnace f).op.isCharging = true) :
    s.writeRefusal (.furnace f g) w = some .inUse := by
  rw [State.writeRefusal, hg, if_neg (by decide)]
  refine if_pos ?_
  rw [Bool.or_eq_true, Bool.not_eq_true', List.isEmpty_eq_false_iff]
  exact h

theorem writeRefusal_geometry (hg : g.isGeometry = true) (hrows : (s.furnace f).rows = [])
    (hidle : (s.furnace f).op.isCharging = false) : s.writeRefusal (.furnace f g) w =
      if !s.geometryPasses f g ((s.furnaceParams f).write g w) then some .inUse else none := by
  rw [State.writeRefusal, hg, if_neg (by decide)]
  exact if_neg (by rw [hrows, hidle]; decide)

end Refusals

/-! ### PARAM_WRITE -/

section Writes

variable {q : ParamId} {v : Nat}

theorem ruleParamWrite_refused {e : RefuseReason} (hlen : body.length = 6) (hq : paramOfNumber (field body 0 2) = some q)
    (h : s.writeRefusal q (q.clamp (field body 2 4)) = some e) : ruleParamWrite body s = refused s e := by
  rw [ruleParamWrite, if_neg (by simp [hlen]), hq]
  dsimp only
  rw [h]

theorem ruleParamWrite_taken (hlen : body.length = 6) (hq : paramOfNumber (field body 0 2) = some q)
    (h : s.writeRefusal q (q.clamp (field body 2 4)) = none) : ruleParamWrite body s =
      taken s (s.writeParam q (q.clamp (field body 2 4))) fun _ =>
        u8 (if q.clamp (field body 2 4) = field body 2 4 then 0 else 1) ++ u32 (q.clamp (field body 2 4)) := by
  rw [ruleParamWrite, if_neg (by simp [hlen]), hq]
  dsimp only
  rw [h]

theorem writeParam_eq (q : ParamId) (v : Nat) :
    s.writeParam q v = { s with params := s.params.write q v, ports := (s.writeParam q v).ports } := rfl

/-- Settles O59: the value, the refusals by the parameter, and the table and the ports that a write leaves. -/
theorem parametersAreWritten : Obligations.ParametersAreWritten := by
  unfold Obligations.ParametersAreWritten
  intro s body q v w hs hlen hq hv hlow hhigh hwithin write answer stored counts
  have hw : q.clamp (field body 2 4) = w := by rw [hv]; exact clamp_eq hlow hhigh hwithin
  have hle : w ≤ q.limits.2 := hw ▸ clamp_le q _
  have hrefused {e : RefuseReason} (h : s.writeRefusal q w = some e) : answer e :=
    request_refused (rule := ruleParamWrite body) hs rfl (ruleParamWrite_refused hlen hq (by rw [hw]; exact h))
  have hstored (h : s.writeRefusal q w = none) : stored := by
    have hrule := ruleParamWrite_taken hlen hq (by rw [hw]; exact h)
    rw [hw, hv] at hrule
    have hresult : u8 (if w = v then 0 else 1) = [if w = v then 0x00 else 0x01] := by split <;> rfl
    rw [hresult] at hrule
    refine ⟨s.writeParam q w, request_taken (rule := ruleParamWrite body) hs rfl hrule rfl, writeParam_eq q w,
      fun x => value_write s.params q x w hle, fun p => ⟨fun hp => ?_, fun hp => ?_⟩⟩
    · exact (writeParam_port s q w p).trans (if_pos hp)
    · exact (writeParam_port s q w p).trans (if_neg hp)
  refine ⟨fun hcount hmode => hstored ?_, fun hcount hmode => hrefused ?_, fun hcap hheld => hstored ?_, fun hcap hheld => hrefused ?_,
    fun f g hfg hg => hstored ?_, fun f g hfg hg => ?_, fun hcount hcap hfg => hstored ?_⟩
  · obtain rfl | rfl := hcount <;> exact if_pos hmode
  · obtain rfl | rfl := hcount <;> exact if_neg (by rw [hmode]; decide)
  · subst hcap; exact if_neg (Nat.not_lt_of_le hheld)
  · subst hcap; exact if_pos hheld
  · subst hfg; exact if_pos (by rw [hg]; rfl)
  · subst hfg
    intro fp fails
    refine ⟨fun hused => hrefused (writeRefusal_used hg hused), fun hrows hidle => ?_⟩
    have hrefusal := writeRefusal_geometry (w := w) hg hrows hidle
    have hpasses : s.geometryPasses f g fp = true ↔ ¬fails := geometryPasses_iff_not hg fp
    refine ⟨fun hfits => hstored (hrefusal.trans (if_neg (by rw [hpasses.mpr hfits]; decide))),
      fun hfails => hrefused (hrefusal.trans (if_pos ?_))⟩
    rw [Bool.not_eq_true']
    exact Bool.eq_false_iff.mpr fun h => hpasses.mp h hfails
  · cases q with
    | craneCount => exact absurd (.inl rfl) hcount
    | furnaceCount => exact absurd (.inr rfl) hcount
    | laneCapacity => exact absurd rfl hcap
    | furnace f g => exact absurd rfl (hfg f g)
    | _ => rfl

end Writes

/-! ### START, CLEAR_ALL and RESET_RECORD_CLEAR (R179, R182, R183) -/

section Modes

/-- The first element of an ordered list that has a property. -/
theorem find?_of_first {α : Type} {R : α → α → Prop} {p : α → Bool} {l : List α} {x : α} (hl : l.Pairwise R) (hx : x ∈ l)
    (hp : p x = true) (hfirst : ∀ y ∈ l, R y x → p y = false) : l.find? p = some x := by
  induction l with
  | nil => cases hx
  | cons a l ih =>
    rw [List.pairwise_cons] at hl
    rcases List.mem_cons.mp hx with rfl | hx
    · exact List.find?_cons_of_pos hp
    · rw [List.find?_cons_of_neg (by rw [hfirst a List.mem_cons_self (hl.1 x hx)]; decide)]
      exact ih hl.2 hx fun y hy => hfirst y (List.mem_cons_of_mem _ hy)

theorem configured_pairwise (s : State) : s.configured.Pairwise fun f g => furnaceNumber f < furnaceNumber g :=
  List.Pairwise.filter _ (by decide)

theorem ruleStart_starts (hmode : s.mode = .config) (h : s.inconsistentFurnace = none) : ruleStart [] s = ({ s with mode := .run },
    .done (u8 Mode.run.code ++ u8 s.params.craneCount ++ u8 s.params.furnaceCount ++ u32 s.runningSeconds.toNat)) := by
  rw [ruleStart, if_neg (by simp), if_neg (by rw [hmode]; decide), h]

theorem ruleStart_inconsistent {f : Furnace} (hmode : s.mode = .config) (h : s.inconsistentFurnace = some f) :
    ruleStart [] s = (s, .refuse .inconsistent (u16 (hearthWidthNumber f))) := by
  rw [ruleStart, if_neg (by simp), if_neg (by rw [hmode]; decide), h]

theorem anyControllerActive_iff : s.anyControllerActive = true ↔ ∃ p : Port, p ≠ .p0 ∧ (s.port p).link = .active := by
  rw [State.anyControllerActive, List.any_eq_true]
  refine ⟨fun ⟨p, hp, hactive⟩ => ⟨p, fun h => by subst h; simp at hp, beq_iff_eq.mp hactive⟩, fun ⟨p, hp, hactive⟩ =>
    ⟨p, ?_, beq_iff_eq.mpr hactive⟩⟩
  cases p with
  | p0 => exact absurd rfl hp
  | _ => simp

/-- R182: the state that CLEAR_ALL leaves. -/
theorem clearAll_eq : s.clearAll = { State.reset with
    powered := s.powered, storeWritten := s.storeWritten, resetRecord := { s.resetRecord with clearAll := true }
    runningSeconds := s.runningSeconds, subSecond := s.subSecond, banks := s.banks, ports := s.ports.fresh true
    pending := s.pending } := rfl

/-- R9, R29, R32, R145, R150 to R154: the requests that change what the part tracks are refused in CONFIG. -/
theorem refused_in_config (hs : s.serves .p0) (hmode : s.mode = .config) (body extra : List Byte) (slab : Word32) :
    ∀ c ∈ [Instr.slabAnnounce .p0 body, .seqMove .p0 body, .seqWithdraw .p0 body,
      .slabResolveRequeue .p0 slab extra, .slabResolveToLaneTail .p0 slab extra, .slabResolveRemove .p0 slab extra,
      .slabResolvePlace .p0 slab extra, .rowRemove .p0 body, .mapWalk .p0 body, .rowShift .p0 body, .confirmFurnace .p0 body,
      .confirmLane .p0 body], exec c s = .next (s.respond .p0 (.refuse .state [])) := by
  have hrefused {k : Kind} {rule : State → State × Response} (hk : k.allowedTo .supv = true) (hrule : rule s = refused s .state) :
      request .p0 k rule s = .next (s.respond .p0 (.refuse .state [])) := request_refused hs hk hrule
  have hresolve (outcome : Byte) : ruleSlabResolve (resolveBody slab outcome extra) s = refused s .state := if_pos hmode
  intro c hc
  simp only [List.mem_cons, List.not_mem_nil, or_false] at hc
  obtain rfl | rfl | rfl | rfl | rfl | rfl | rfl | rfl | rfl | rfl | rfl | rfl := hc
  · exact hrefused (rule := ruleSlabAnnounce body) rfl (if_pos hmode)
  · exact hrefused (rule := ruleSeqMove body) rfl (if_pos hmode)
  · exact hrefused (rule := ruleSeqWithdraw body) rfl (if_pos hmode)
  · exact hrefused rfl (hresolve 0)
  · exact hrefused rfl (hresolve 1)
  · exact hrefused rfl (hresolve 2)
  · exact hrefused rfl (hresolve 3)
  · exact hrefused (rule := ruleRowRemove body) rfl (if_pos hmode)
  · exact hrefused (rule := ruleMapWalk body) rfl (if_pos hmode)
  · exact hrefused (rule := ruleRowShift body) rfl (if_pos hmode)
  · exact hrefused (rule := ruleConfirmFurnace body) rfl (if_pos hmode)
  · exact hrefused (rule := ruleConfirmLane body) rfl (if_pos hmode)

/-- R110: a hold request whose body is in range is refused in CONFIG. -/
theorem holdRequest_config {f : Furnace} (on : Bool) (hmode : s.mode = .config) (hlen : body.length = 1)
    (hf : s.configuredFurnace (field body 0 1) = some f) : holdRequest on body s = refused s .state := by
  rw [holdRequest, if_neg (not_not.mpr hlen), hf]
  exact if_pos hmode

/-- Settles O60: each request by the mode, the geometry and the ports. -/
theorem modeAndResetRequests : Obligations.ModeAndResetRequests := by
  unfold Obligations.ModeAndResetRequests
  intro s hs takesShortest
  refine ⟨fun hmode => ?_, fun hmode hall => ?_, fun f hf hmode hnot hfirst => ?_, fun hactive => ?_, fun hquiet => ?_, ?_,
    fun hmode => ⟨fun body extra slab => refused_in_config hs hmode body extra slab, fun body f hlen hf c hc => ?_⟩⟩
  · exact request_refused (rule := ruleStart []) hs rfl (by rw [ruleStart, if_neg (by simp), if_pos hmode])
  · have hnone : s.inconsistentFurnace = none := by
      rw [State.inconsistentFurnace, List.find?_eq_none]
      intro f hf
      rw [(sizeFits_iff _ _).mpr (hall f hf)]
      decide
    exact request_done (rule := ruleStart []) hs rfl (ruleStart_starts hmode hnone)
  · have hsome : s.inconsistentFurnace = some f := by
      refine find?_of_first (configured_pairwise s) hf ?_ fun g hg hlt => ?_
      · rw [Bool.not_eq_true']
        exact Bool.eq_false_iff.mpr (mt (sizeFits_iff _ _).mp hnot)
      · rw [(sizeFits_iff _ _).mpr (hfirst g hg hlt)]
        rfl
    exact request_answer (rule := ruleStart []) hs rfl (ruleStart_inconsistent hmode hsome)
  · refine request_refused (rule := ruleClearAll []) hs rfl ?_
    rw [ruleClearAll, if_neg (by simp), if_pos (anyControllerActive_iff.mpr hactive)]
  · refine ⟨s.ports.fresh true, fun p => by cases p <;> rfl, ?_⟩
    have hnone : s.anyControllerActive = false := Bool.eq_false_iff.mpr fun h => by
      obtain ⟨p, hp, hactive⟩ := anyControllerActive_iff.mp h
      exact hquiet p hp hactive
    have hrule : ruleClearAll [] s = (s.clearAll, .done (u8 s.clearAll.mode.code ++ s.clearAll.resetRecord.byte)) := by
      rw [ruleClearAll, if_neg (by simp), hnone]
      exact if_neg (by decide)
    rw [clearAll_eq] at hrule
    exact request_done (rule := ruleClearAll []) hs rfl hrule
  · exact request_done (rule := ruleResetRecordClear []) hs rfl rfl
  · have hrule (on : Bool) := holdRequest_config on hmode hlen hf
    simp only [List.mem_cons, List.not_mem_nil, or_false] at hc
    obtain rfl | rfl := hc
    · exact request_refused (rule := ruleHoldSet body) hs rfl (hrule true)
    · exact request_refused (rule := ruleHoldRelease body) hs rfl (hrule false)

end Modes

end Sys2Proof.Proofs

/-!
PROOFS. The pairing test, and pairs that dissolve or form (O21).
-/

namespace Sys2Proof.Proofs

open Sys2Proof Sys2Proof.Machine

variable {s : State} {a b : SlabRecord}

/-! ### The ten conditions (R90, R92, R93, R146) -/

section Test

theorem difference_le_iff (m n d : Nat) : difference m n ≤ d ↔ m ≤ n + d ∧ n ≤ m + d := by
  rw [difference]
  omega

/-- R92, R93, R146: what leaves a successor free to be paired. -/
theorem mayBeSecond_iff (a b : SlabRecord) : mayBeSecond a b = true ↔
    (b.pairingTested = false ∨ b.pairDissolved = false) ∧ b.requeuedTested = false ∧ b.id ∉ a.parted := by
  have hmem : a.parted.contains b.id = false ↔ b.id ∉ a.parted := by rw [← Bool.not_eq_true, List.contains_iff_mem]
  rw [mayBeSecond, Bool.and_eq_true, Bool.and_eq_true, Bool.not_eq_true', Bool.not_eq_true', Bool.not_eq_true', Bool.and_eq_false_iff,
    hmem, and_assoc]

theorem pairingHolds_iff (ps : Params) (a b : SlabRecord) : pairingHolds ps a b = true ↔
    a.pairingTested = false ∧ a.partner = none ∧ b.place = .listed ∧ b.partner = none ∧ mayBeSecond a b = true ∧
      b.destination = a.destination ∧ (ps.furnace.get a.destination).doubleRow = true ∧ a.pairable = true ∧ b.pairable = true ∧
      (ps.furnace.get a.destination).pairFits a.length b.length = true ∧ difference a.width b.width ≤ ps.pairWidthDifference ∧
      difference a.thickness b.thickness ≤ ps.pairThicknessDifference := by
  simp only [pairingHolds, Bool.and_eq_true, Bool.not_eq_true', Option.isNone_iff_eq_none, beq_iff_eq, decide_eq_true_iff, and_assoc]

/-- R89, R90: the partner that the pairing test finds. -/
theorem pairingPartner_eq_some_iff {x y : SlabId} : s.pairingPartner x = some y ↔
    ∃ a b, s.slab? x = some a ∧ (s.successor x).bind s.slab? = some b ∧ pairingHolds s.params a b = true ∧ b.id = y := by
  rw [State.pairingPartner]
  cases hx : s.slab? x with
  | none => exact ⟨nofun, fun ⟨_, _, h, _⟩ => nomatch h⟩
  | some a =>
    cases hy : (s.successor x).bind s.slab? with
    | none => exact ⟨nofun, fun ⟨_, _, _, h, _⟩ => nomatch h⟩
    | some b =>
      refine ⟨fun h => ?_, fun ⟨a', b', ha, hb, hholds, hid⟩ => ?_⟩
      · dsimp only at h
        split at h
        · next hholds => exact ⟨a, b, rfl, rfl, hholds, Option.some.inj h⟩
        · cases h
      · cases ha; cases hb
        exact (if_pos hholds).trans (congrArg some hid)

/-- R90: the test of a slab and its successor. -/
theorem pairingPartner_successor (ha : s.slab? a.id = some a) (hb : s.slab? b.id = some b) (hnext : s.successor a.id = some b.id) :
    s.pairingPartner a.id = some b.id ↔ pairingHolds s.params a b = true := by
  have hbind : (s.successor a.id).bind s.slab? = some b := by rw [hnext]; exact hb
  rw [pairingPartner_eq_some_iff]
  refine ⟨fun ⟨a', b', ha', hb', hholds, _⟩ => ?_, fun h => ⟨a, b, ha, hbind, h, rfl⟩⟩
  rw [ha] at ha'; cases ha'
  rw [hbind] at hb'; cases hb'
  exact hholds

/-- R93: the test never gives a slab one that it was parted from. -/
theorem pairingPartner_ne_parted {x y : SlabId} {r : SlabRecord} (hr : s.slab? x = some r) (hparted : y ∈ r.parted) :
    s.pairingPartner x ≠ some y := fun h => by
  obtain ⟨a, b, ha, -, hholds, rfl⟩ := pairingPartner_eq_some_iff.mp h
  rw [hr] at ha; cases ha
  obtain ⟨-, -, -, -, hmay, -⟩ := (pairingHolds_iff _ _ _).mp hholds
  obtain ⟨-, -, hnot⟩ := (mayBeSecond_iff _ _).mp hmay
  exact hnot hparted

end Test

/-! ### Pairs that dissolve and form (R5) -/

section Pairs

variable {x id : SlabId} {r : SlabRecord}

/-- R5: the record of a member of the pair that dissolves. -/
theorem dissolvePair_member (hr : s.slab? x = some r) (h : x = id ∨ ∃ q, r.partner = some q ∧ q.id = id) :
    (s.dissolvePair id).slab? x = some r.unpaired := by
  have hcond : (r.id == id || r.paired id) = true := by
    rw [Bool.or_eq_true, beq_iff_eq, paired_iff, State.slab?_id hr]
    exact h
  rw [State.dissolvePair_slab?, hr, Option.map_some, if_pos hcond]

/-- R5: the record of any other slab. -/
theorem dissolvePair_other (hr : s.slab? x = some r) (hx : x ≠ id) (h : ∀ q, r.partner = some q → q.id ≠ id) :
    (s.dissolvePair id).slab? x = some r := by
  have hcond : ¬(r.id == id || r.paired id) = true := by
    rw [Bool.or_eq_true, beq_iff_eq, paired_iff, State.slab?_id hr]
    exact fun hor => hor.elim hx fun ⟨q, hq, hqid⟩ => h q hq hqid
  rw [State.dissolvePair_slab?, hr, Option.map_some, if_neg hcond]

/-- R5: the records after a pair of two slabs has formed. -/
theorem formPair_slab? (s : State) (a b x : SlabId) : (s.formPair a b).slab? x =
    if x = b then (if x = a then (s.slab? x).map fun r => { r with partner := some ⟨b, .first⟩ } else s.slab? x).map
      fun r => { r with partner := some ⟨a, .second⟩ }
    else if x = a then (s.slab? x).map fun r => { r with partner := some ⟨b, .first⟩ } else s.slab? x := by
  have hfirst := s.updateSlab_slab? a x (fun r => { r with partner := some ⟨b, .first⟩ }) fun _ => rfl
  have hboth := (s.updateSlab a fun r => { r with partner := some ⟨b, .first⟩ }).updateSlab_slab? b x
    (fun r => { r with partner := some ⟨a, .second⟩ }) fun _ => rfl
  rw [State.formPair, hboth, hfirst]

end Pairs

/-- Settles O21: the ten conditions one by one, then the records that each change leaves. -/
theorem pairFormsByTenConditions : Obligations.PairFormsByTenConditions := by
  unfold Obligations.PairFormsByTenConditions
  intro s a b ha hb
  refine ⟨fun hnext => ?_, fun p q hfirst hsecond => ⟨?_, ?_⟩, ?_, fun hne => ?_⟩
  · rw [pairingPartner_successor ha hb hnext, pairingHolds_iff, mayBeSecond_iff, pairFits_iff, difference_le_iff, difference_le_iff]
    simp only [State.furnaceParams]
    tauto
  · exact pairingPartner_ne_parted (dissolvePair_member ha (.inl rfl)) ((a.mem_unpaired_parted b.id).mpr (.inr ⟨_, hfirst, rfl⟩))
  · exact pairingPartner_ne_parted (dissolvePair_member hb (.inr ⟨_, hsecond, rfl⟩))
      ((b.mem_unpaired_parted a.id).mpr (.inr ⟨_, hsecond, rfl⟩))
  · intro t
    exact ⟨rfl, fun x r hr => ⟨fun h => ⟨r.unpaired, dissolvePair_member hr h, r.unpaired_becomesSingle, rfl⟩,
      fun hx h => dissolvePair_other hr hx h⟩⟩
  · intro t
    refine ⟨rfl, ?_, ?_, fun x hxa hxb => ?_⟩
    · rw [show t.slab? a.id = _ from formPair_slab? .., if_neg hne, if_pos rfl, ha]
      rfl
    · rw [show t.slab? b.id = _ from formPair_slab? .., if_pos rfl, if_neg hne.symm, hb]
      rfl
    · rw [show t.slab? x = _ from formPair_slab? .., if_neg hxb, if_neg hxa]

end Sys2Proof.Proofs
